-- ==== Sys2Proof/Word.lean ====
section
/-! DEFINITION. The words of the manual: bytes, and the bounded numbers by which it names seats,
members, band-plan slots and cells (R1, R8, R18, R156, R160). -/

namespace Sys2Proof

/-- A byte of the exchange memory or of the station bus. -/
abbrev Byte := BitVec 8

/-- A seat number, 0 to 11 (R8). -/
abbrev SeatNo := Fin 12

/-- A member number, 0 to 47 (R1). -/
abbrev MemberNo := Fin 48

/-- A band-plan slot number, 0 to 31 (R18). -/
abbrev SlotNo := Fin 32

/-- One of a seat's four audio cells (R82). -/
abbrev AudioCellNo := Fin 4

/-- One of the four bus cells (R156). -/
abbrev BusCellNo := Fin 4

end Sys2Proof
end

