-- ==== Sys2Proof/Syntax.lean ====
section
/-! DEFINITION. The commands of the SC12: one constructor for each row of spec/opcode_table.json.
The table gives the rows no bits and no fields; the operands here are what a row's own rule takes
from outside the part (log 29). -/

namespace Sys2Proof

/-- How one attempt of a station-bus transaction ends (R152). -/
inductive AttemptEnd where
  /-- Every byte the part sent was acknowledged; for a query, the data bytes of the reply and its
  check byte as received (R143). A command ignores the two. -/
  | acknowledged (reply : List Byte) (check : Byte)
  /-- A byte the part sent was left unacknowledged. -/
  | noAcknowledge
  /-- Another master sent its own frame in the same bit times: its bytes, from the address byte on, as
  far as it went on sending them. Arbitration settles the two (R145). -/
  | lost (other : List Byte)
  deriving DecidableEq, Repr

/-- R143: a command frame of another master, from its address byte to its check byte. -/
structure CommandFrame where
  address : Byte
  length  : Byte
  data    : List Byte
  check   : Byte
  deriving DecidableEq, Repr

/-- R146, R148: what of another master's frame has been received. -/
inductive Heard where
  /-- Its opening, or a line held low. -/
  | opening
  /-- Its address byte. -/
  | address (b : Byte)
  /-- The whole of a command frame, to its closing. -/
  | command (f : CommandFrame)
  deriving DecidableEq, Repr

/-- R150: what the master of a STATE query asks for. -/
structure ReplyAsked where
  /-- The length byte. -/
  length  : Byte
  /-- Which byte of the reply's data, from 0 on, the master leaves unacknowledged, if any. -/
  refused : Option Nat
  deriving DecidableEq, Repr

/-- R147: the two lines of a bus that is found stuck, as the other parties hold them. -/
structure StuckLines where
  /-- SBC is held low. -/
  sbcLow    : Bool
  /-- How many clock pulses the follower that holds SBD needs before it lets go; 0 where none holds it. -/
  sbdPulses : Nat
  deriving DecidableEq, Repr

/-- The commands. -/
inductive Instr where
  -- power, reset and restart
  | powerOn
  | resetAsserted
  | resetReleased
  | restart
  -- the exchange port
  | summaryWrite (high : Bool) (value : Byte)
  | maskWrite (high : Bool) (value : Byte)
  | registerWrite (position : Fin 8) (value : Byte)
  | hostWrite (command : Byte) (address : BitVec 16) (data : List Byte)
  -- hand-overs
  | orderCellHandover (seat : SeatNo)
  | reportCellReturn (seat : SeatNo)
  | audioCellTake (seat : SeatNo) (cell : AudioCellNo)
  | busCellHandover (cell : BusCellNo)
  -- the order at the front of the hand-over list is taken
  | attach
  | detach
  | presence
  | changeCode
  | memberWrite
  | memberRemove
  | dayRoll
  | bandWrite
  | bandRemove
  | check
  | request
  | withdraw
  | release
  | forceRelease
  | ampRestore
  | stationWrite
  | beginService
  | endService
  | unknownOrder
  -- events of the seats, the floor, the audio path, the identification and the lines
  | presenceExpiry (seat : SeatNo)
  | setupPlace
  | startWaitExpiry
  | keyDownExpiry
  | timeWarning
  | hangExpiry
  | rejoinExpiry
  | keyedMillisecond
  | dutyIntervalExpiry
  | leadTimerExpiry
  | playoutStep
  | trim
  | disorderWindowEnd
  | periodicIdExpiry
  | closingExpiry
  | graceExpiry
  | identKeyRequest
  | morseElementEnd
  | idComplete
  | overlayComplete
  | tuneGateToggle
  | txInhibitAsserted
  | txInhibitDeasserted
  | ampFaultAsserted
  | ampFaultDeasserted
  | pollTimerExpiry
  | noStatus
  -- the station bus
  | busTransactionStart
  | busAttemptEnd (ended : AttemptEnd)
  | foreignOpening (heard : Heard)
  | busFree
  | busStuck (lines : StuckLines)
  | busRecovery
  -- a panel message to the floor; it waits in the inbound buffer, or comes with its frame (log 16)
  | take
  | give
  | halt
  | resume
  | stateQuery (asked : ReplyAsked)
  | inboundHoldTimeout
  | cwKeyTransition
  | exchangeTransactionClose
  deriving DecidableEq, Repr

end Sys2Proof
end

