-- ==== Sys2Proof/Config.lean ====
section
/-! DEFINITION. What the spec leaves open as a choice, as constants without a body: nothing can be
proved of their values, so a claim holds whatever they are. Each is applied to the counter
`State.free`, which is raised at every draw (log 25), or to what it depends on. -/

namespace Sys2Proof.Config

/-- R106: at a resync that also reaches the start threshold, the RESYNC report and the start
threshold report "may be taken in either order". `true` takes the RESYNC report first (log 5). -/
opaque resyncReportFirst : Nat → Bool

/-- Of several events that are due at the same moment, which one the idle step makes the next
command: an index, taken modulo the number of due events (log 4). -/
opaque dueChoice : Nat → Nat

/-- R126: a sample of the tone generator at a phase where the sine wave falls between two 16-bit values,
by phase in eightieths of a turn: which of the two it is. `true` takes the one further from 0 (log 22). -/
opaque toneRoundAway : Nat → Bool

end Sys2Proof.Config
end

