-- ==== Sys2Proof/Machine/Bytes.lean ====
section
/-! DEFINITION. Byte order and padding. Every multi-byte field is little-endian (Conventions, 00). -/

namespace Sys2Proof.Machine

/-- The low byte of a number. -/
def byteOf (n : Nat) : Byte := BitVec.ofNat 8 n

/-- A 16-bit field, least significant byte first. -/
def le16 (n : Nat) : List Byte := [byteOf n, byteOf (n / 0x100)]

/-- A 32-bit field, least significant byte first. -/
def le32 (n : Nat) : List Byte := le16 n ++ le16 (n / 0x10000)

/-- The number a little-endian field holds. -/
def fromLE : List Byte → Nat
  | [] => 0
  | b :: rest => b.toNat + 0x100 * fromLE rest

/-- A list cut or filled with zeros to `n` bytes. -/
def padTo (n : Nat) (bytes : List Byte) : List Byte :=
  (bytes ++ List.replicate n 0).take n

/-- A flag as a byte. -/
def flagByte (b : Bool) : Byte := if b then 1 else 0

/-- A number shown in a 16-bit field that stays at 65535 when greater (R172, R173). -/
def saturate16 (n : Nat) : Nat := min n 65535

/-- A value taken into the range `lo` to `hi` (R5, R19, R181). -/
def clampTo (lo hi n : Nat) : Nat := max lo (min hi n)

end Sys2Proof.Machine
end

