-- ==== Sys2Proof/Machine/State.lean ====
section
/-! DEFINITION. The state of the SC12, as plain data: every record, table, queue, timer and line the
spec gives the part, its value at reset, and the reasons a step can stop (there are none but the
declared `notModelled`, which no arm uses). -/

namespace Sys2Proof.Machine

/-! ### Stops -/

/-- No command of the SC12 stops it: an event that cannot occur changes nothing, a refused order is
answered with a result code (R171) and a refused write is latched (R162). So there is no reason for a
fault, and none is ever raised (safe). -/
inductive Fault where
  deriving DecidableEq, Repr

/-- Why a command has no meaning. -/
inductive Refusal where
  /-- Raised by an arm of `exec` whose command has no meaning yet (safe). No arm raises it. -/
  | notModelled (mnemonic : String)
  deriving DecidableEq, Repr

/-! ### Members, seats and the station record -/

/-- R177: the mode of service. -/
inductive ServiceMode where
  | configuring | serving
  deriving DecidableEq, Repr

/-- R1: the state of a present member. -/
inductive MemberState where
  | active | suspended
  deriving DecidableEq, Repr

/-- R1: a present member record. -/
structure Member where
  state     : MemberState
  grade     : Nat
  callsign  : List Byte
  code      : List Byte
  misses    : Nat
  priority  : Bool
  ceiling   : Nat
  /-- Allowance in minutes a day. -/
  allowance : Nat
  /-- Used time in milliseconds. -/
  used      : Nat
  attached  : Option SeatNo
  deriving DecidableEq, Repr

/-- R171: the six modes of transmission. -/
inductive TxMode where
  | cw | usb | lsb | fm | data | tune
  deriving DecidableEq, Repr

/-- R18: a present segment of the band plan. -/
structure Segment where
  low      : Nat
  high     : Nat
  minGrade : Nat
  /-- The modes permitted, as the bitmap of R171. -/
  modes    : Byte
  ceiling  : Nat
  port     : Nat
  amp      : Bool
  deriving DecidableEq, Repr

/-- R101: a subset of the three link criteria. -/
structure Criteria where
  starve   : Bool
  disorder : Bool
  resync   : Bool
  deriving DecidableEq, Repr

/-- R180: the station record, with the units of R180's table. -/
structure StationRecord where
  callsign       : List Byte
  cst            : Nat
  cb             : Nat
  guard          : Nat
  keyLimit       : Nat
  minGrant       : Nat
  hangTime       : Nat
  turnLimit      : Nat
  startWait      : Nat
  threshold      : Nat
  trimMargin     : Nat
  starveLimit    : Nat
  disorderLimit  : Nat
  criteria       : Criteria
  rejoin         : Nat
  presence       : Nat
  lead           : Nat
  idInterval     : Nat
  closing        : Nat
  grace          : Nat
  idSpeed        : Nat
  pulsedTune     : Bool
  /-- Counter mode WRAP (R99). -/
  wrap           : Bool
  ampPresent     : Bool
  pollEnable     : Bool
  pitch          : Nat
  qmax           : Nat
  cool           : Nat
  tuneCeiling    : Nat
  tuneLimit      : Nat
  swrLimit       : Nat
  ownAddress     : Nat
  radioAddress   : Nat
  antennaAddress : Nat
  ampAddress     : Nat
  panelAddress   : Nat
  deriving DecidableEq, Repr

/-- R180: the defaults every field takes at power-on. -/
def StationRecord.default : StationRecord :=
  { callsign := [], cst := 100, cb := 100, guard := 500, keyLimit := 180, minGrant := 10,
    hangTime := 3, turnLimit := 3, startWait := 10, threshold := 3, trimMargin := 4,
    starveLimit := 10, disorderLimit := 8, criteria := ⟨true, true, true⟩, rejoin := 1500,
    presence := 30, lead := 30, idInterval := 10, closing := 30, grace := 60, idSpeed := 20,
    pulsedTune := true, wrap := false, ampPresent := false, pollEnable := true, pitch := 700,
    qmax := 360000, cool := 250, tuneCeiling := 20, tuneLimit := 10, swrLimit := 30,
    ownAddress := 0x01, radioAddress := 0x10, antennaAddress := 0x11, ampAddress := 0x12,
    panelAddress := 0x20 }

/-! ### The floor -/

/-- R22: a request, as CHECK or REQUEST gave it. -/
structure Request where
  freq : Nat
  mode : TxMode
  preq : Nat
  deriving DecidableEq, Repr

/-- R38: an entry of the request queue. -/
structure Entry where
  seat     : SeatNo
  member   : MemberNo
  req      : Request
  priority : Bool
  deriving DecidableEq, Repr

/-- R32: which term fixed a grant's duration. -/
inductive LimitTerm where
  | keyLimit | allowance | dutyHeadroom | tuneLimit
  deriving DecidableEq, Repr

/-- R33: the grant record. -/
structure Grant where
  freq     : Nat
  mode     : TxMode
  power    : Nat
  ampUsed  : Bool
  port     : Nat
  duration : Nat
  limit    : LimitTerm
  deriving DecidableEq, Repr

/-- R37: the ten floor states. -/
inductive FloorState where
  | idle | resting | setting | granted | onAir | stalled | hang | ident | panelHeld | shut
  deriving DecidableEq, Repr

/-- R37: the holder, a seat and the member attached to it at the grant. -/
structure Holder where
  seat   : SeatNo
  member : MemberNo
  deriving DecidableEq, Repr

/-- R37: the floor record. Timers are `none` when stopped, else the milliseconds remaining. -/
structure Floor where
  state       : FloorState
  holder      : Option Holder
  grant       : Option Grant
  turnCount   : Nat
  /-- The turn's keyed time in milliseconds. -/
  keyedMs     : Nat
  startWait   : Option Nat
  hang        : Option Nat
  rejoin      : Option Nat
  /-- R52: the key-down timer, the milliseconds counted under the grant in force. -/
  keyDown     : Nat
  timeWarned  : Bool
  /-- R48: SETTING has compared the grant with the believed setting and placed its items. -/
  setupPlaced : Bool
  /-- R64: IDENT has asked the keying unit to key. -/
  identAsked  : Bool
  deriving DecidableEq, Repr

/-- R171: the result codes. -/
inductive Result where
  | done | unknownOrder | badField | notServing | notConfiguring | notAttached | notTrustee
  | noMember | badCode | suspended | inUse | overlap | floorBusy | outOfPlan | noPrivilege
  | modeBarred | allowanceSpent | alreadyQueued | notQueued | notHolder | shut | incomplete
  | stillFaulted
  deriving DecidableEq, Repr

/-- R60: why a turn or a queue entry ended. -/
inductive EndCause where
  | released | timeUp | duty | noAudio | link | forced | revoked | detached | presence
  | panelHeld | shut | inhibit | equipment | setupFailed | refusedAtGrant | serviceEnd
  deriving DecidableEq, Repr

/-- R11: why a seat was detached. -/
inductive SeatCause where
  | detach | suspended | presence | serviceEnd
  deriving DecidableEq, Repr

/-- R49: the items of a setup. -/
inductive SetupItem where
  | ampStandby | antenna | frequency | drive | ampOperate
  deriving DecidableEq, Repr

/-- R63: the details of an EQUIPMENT end. -/
inductive EquipDetail where
  | ampFault | reflection | noStatus
  deriving DecidableEq, Repr

/-- R60, R173: the detail of an END notice. -/
inductive EndDetail where
  | none
  | limit (t : LimitTerm)
  | criteria (c : Criteria)
  | equipment (d : EquipDetail)
  | item (i : SetupItem)
  | refusal (r : Result)
  deriving DecidableEq, Repr

/-- R166, R173: what a notice says. -/
inductive NoticeBody where
  | floor (state : FloorState) (holder : Option SeatNo)
  | queue (position : Nat)
  | grant (turnCount : Nat) (g : Grant)
  | ended (cause : EndCause) (detail : EndDetail) (held : Bool) (member : MemberNo) (keyedMs : Nat)
  | warnTime
  | warnLink (u limit : Nat)
  | ident (overlay byKey : Bool) (lengthMs : Nat)
  | seat (cause : SeatCause) (member : MemberNo)
  | panel (isLocal isShut : Bool)
  deriving DecidableEq, Repr

/-- R166: a notice, with the stamp at which it was raised. -/
structure Notice where
  body  : NoticeBody
  stamp : BitVec 32
  deriving DecidableEq, Repr

/-- R165: an answer. -/
structure Answer where
  tag    : BitVec 16
  kind   : Byte
  result : Result
  data   : List Byte
  deriving DecidableEq, Repr

/-- R97: a seat's stream counters. -/
structure Counters where
  taken     : Nat
  late      : Nat
  early     : Nat
  duplicate : Nat
  underflow : Nat
  trimmed   : Nat
  resync    : Nat
  refused   : Nat
  deriving DecidableEq, Repr

/-- R8: what an ATTACHED seat holds. -/
structure Attachment where
  member   : MemberNo
  deadline : BitVec 32
  deriving DecidableEq, Repr

/-- R8, R98, R112, R166: a seat; VACANT when it has no attachment. -/
structure Seat where
  attachment : Option Attachment
  notices    : List Notice
  answer     : Option Answer
  counters   : Counters
  saturated  : Bool
  criteria   : Criteria
  warned     : Bool
  deriving DecidableEq, Repr

/-! ### Heat, audio and link -/

/-- R71, R72: the duty accumulator. -/
structure Duty where
  q      : Nat
  tOn    : Nat
  /-- Interval energy in watt-milliseconds. -/
  energy : Nat
  timer  : Nat
  deriving DecidableEq, Repr

/-- R85: a key transition of a CW frame. -/
structure Transition where
  offset : Nat
  down   : Bool
  deriving DecidableEq, Repr

/-- R82: what a frame's payload holds. -/
inductive Payload where
  | voice (samples : List (BitVec 16))
  | cw (transitions : List Transition)
  deriving DecidableEq, Repr

/-- R86: a frame of the playout queue. -/
structure Frame where
  seq     : BitVec 16
  payload : Payload
  deriving DecidableEq, Repr

/-- R91, R94: what the running playout step holds. -/
inductive StepContent where
  | silence
  | samples (s : List (BitVec 16))
  /-- The key transitions not yet reached. -/
  | keying (left : List Transition)
  deriving DecidableEq, Repr

/-- R86, R90: the playout queue and its figures. -/
structure Playout where
  frames     : List Frame
  np         : Option (BitVec 16)
  earlyRun   : Nat
  u          : Nat
  trimRun    : Nat
  /-- The carried key state; `true` is down. -/
  carriedKey : Bool
  timer      : Option Nat
  step       : StepContent
  deriving DecidableEq, Repr

/-- R101: the watch record. -/
structure Watch where
  criteria : Criteria
  warned   : Bool
  steps    : Nat
  disorder : Nat
  deriving DecidableEq, Repr

/-- R95: the four sources of the source selector. -/
inductive Source where
  | frames | idTone | tuneTone | silence
  deriving DecidableEq, Repr

/-! ### Identification and keying -/

/-- R124: an element or a gap of Morse, in dots. -/
structure Element where
  down : Bool
  dots : Nat
  deriving DecidableEq, Repr

/-- R113, R119, R122: a callsign being sent. The head of `elements` is the running one, with `left`
milliseconds to go. -/
structure Sender where
  overlay  : Bool
  byKey    : Bool
  elements : List Element
  left     : Nat
  dot      : Nat
  pitch    : Nat
  /-- The length of the whole pattern in milliseconds (R128). -/
  length   : Nat
  deriving DecidableEq, Repr

/-- R113: the identification record. -/
structure Ident where
  window   : Bool
  pending  : Bool
  overdue  : Bool
  periodic : Option Nat
  closing  : Option Nat
  grace    : Option Nat
  lastMode : Option TxMode
  sender   : Option Sender
  deriving DecidableEq, Repr

/-- R126: the tune tone. -/
structure Tone where
  gate  : Bool
  timer : Option Nat
  pitch : Nat
  /-- Milliseconds since the gate opened; 0 while it is closed. The burst's phase follows it. -/
  age   : Nat
  deriving DecidableEq, Repr

/-- R129: the keying states. -/
inductive KeyingState where
  | unkeyed | leading | keyed
  deriving DecidableEq, Repr

/-- R129: the keying record. -/
structure Keying where
  state        : KeyingState
  lead         : Option Nat
  /-- The requested key state; `true` is down. -/
  requestedKey : Bool
  ampInService : Bool
  poll         : Option Nat
  failures     : Nat
  deriving DecidableEq, Repr

/-! ### The station bus -/

/-- R146: the states of the bus engine. -/
inductive Engine where
  | free | sending | listening | following | recovering
  deriving DecidableEq, Repr

/-- R155: a believed amplifier state. -/
inductive AmpState where
  | standby | operate
  deriving DecidableEq, Repr

/-- R154, R156: what a transaction carries. -/
inductive Message where
  | setFreq (freq : Nat) (mode : TxMode)
  | setDrive (watts : Nat)
  | select (port : Nat)
  | operate
  | standby
  | status
  | cell (query : Bool) (address length : Nat) (data : List Byte)
  deriving DecidableEq, Repr

/-- R153: whose transaction it is. `setup` belongs to the present turn, `pastSetup` to a turn that
has ended (log 26), `standby` is a STANDBY of R61 or R64. -/
inductive Owner where
  | setup | pastSetup | standby | poll
  | cell (n : BusCellNo)
  deriving DecidableEq, Repr

/-- R151: a transaction. The address is that read when its first attempt opened (R154). -/
structure Txn where
  message  : Message
  owner    : Owner
  address  : Nat
  attempts : Nat
  losses   : Nat
  deriving DecidableEq, Repr

/-- R155: the believed station setting; `none` is unknown. -/
structure Believed where
  port  : Option Nat
  freq  : Option Nat
  mode  : Option TxMode
  drive : Option Nat
  amp   : Option AmpState
  deriving DecidableEq, Repr

/-- R148, R149: the messages the inbound buffer can hold. -/
inductive PanelMessage where
  | take | give | halt | resume
  deriving DecidableEq, Repr

/-- R148, R150, R181: another master's frame that the part follows. -/
structure FollowedFrame where
  /-- The address byte under which it was taken on. -/
  address : Byte
  /-- R150: for a query, the five data bytes of the STATE reply, formed when its address byte was
  acknowledged; none for a command. -/
  reply   : List Byte
  deriving DecidableEq, Repr

/-- R146 to R155: the bus controller. -/
structure Bus where
  engine      : Engine
  attemptOpen : Bool
  sbcLow      : Bool
  /-- R147: how many clock pulses the follower that holds SBD low still needs before it lets go; 0 where SBD
  reads high (log 18). -/
  sbdPulses   : Nat
  /-- R147: how many clock pulses the latest recovery of a stuck bus has sent. -/
  pulses      : Nat
  inFlight    : Option Txn
  floorWork   : List Txn
  pollWork    : Option Txn
  cellWork    : List Txn
  inbound     : Option PanelMessage
  hold        : Option Nat
  /-- The frame being followed, from the acknowledgement of its address byte to its closing. -/
  followed    : Option FollowedFrame
  /-- R148, R149, R181: the address byte of the open frame that the part listens to, where it has been
  received: it was left unacknowledged, or the hold behind it ran out. The frame is not taken on later
  (log 17). -/
  unfollowed  : Option Byte
  /-- R148: how many bytes of another master's frame the part has acknowledged. -/
  acked       : Nat
  /-- R146: the closing of another master's frame has been seen, and its 50 µs of quiet run. -/
  closed      : Bool
  reply       : List Byte
  believed    : Believed
  deriving DecidableEq, Repr

/-! ### The exchange port and the device page -/

/-- R159, R163: what the port makes of a transaction: it takes it, or ignores it after a bad command
byte, or serves nothing further after a RESTART. The last two end when CS_N rises. -/
inductive PortPhase where
  | serving | ignoring | restarted
  deriving DecidableEq, Repr

/-- R159, R162, R163: the exchange port and its registers. -/
structure Port where
  phase   : PortPhase
  /-- R159: the bytes sent in the latest read transaction. -/
  served  : List Byte
  summary : BitVec 16
  mask    : BitVec 16
  refused : BitVec 16
  deriving DecidableEq, Repr

/-- R169, R170: the fields of the device page that do not follow the state between writes. -/
structure Page where
  /-- The floor state has changed in the running act, so that the board is to be rewritten (R70) and a closing
  timer that ran has been stopped (R116; the model's own field, log 6). -/
  boardDue         : Bool
  updateCount      : BitVec 32
  stamp            : BitVec 32
  q                : Nat
  keyDownRemaining : Nat
  idSeconds        : Nat
  deriving DecidableEq, Repr

/-- R133, R141: the input lines as taken. -/
structure Pins where
  resetLow  : Bool
  txInhibit : Bool
  ampFault  : Bool
  deriving DecidableEq, Repr

/-- Bytes by address, in the canonical form of `Memory.wf`: addresses strictly rising, no listed byte
0, which is what an unlisted address reads as (R160). -/
abbrev Memory := List Host.Cell

/-- The state of the SC12. -/
structure State where
  pending   : List Instr
  free      : Nat
  pins      : Pins
  stamp     : BitVec 32
  mode      : ServiceMode
  members   : Vector (Option Member) 48
  seats     : Vector Seat 12
  plan      : Vector (Option Segment) 32
  station   : StationRecord
  floor     : Floor
  queue     : List Entry
  duty      : Duty
  playout   : Playout
  source    : Source
  watch     : Watch
  ident     : Ident
  tone      : Tone
  keying    : Keying
  bus       : Bus
  handovers : List SeatNo
  ram       : Memory
  port      : Port
  page      : Page
  deriving DecidableEq, Repr

/-! ### Reset -/

/-- R97: counters at 0. -/
def Counters.zero : Counters := ⟨0, 0, 0, 0, 0, 0, 0, 0⟩

/-- R101: the empty criteria set. -/
def Criteria.empty : Criteria := ⟨false, false, false⟩

/-- R8, R98, R112, R166: a seat at power-on. -/
def Seat.vacant : Seat := ⟨none, [], none, Counters.zero, false, Criteria.empty, false⟩

/-- R37: the floor record at power-on. -/
def Floor.initial : Floor :=
  { state := .idle, holder := none, grant := none, turnCount := 0, keyedMs := 0, startWait := none,
    hang := none, rejoin := none, keyDown := 0, timeWarned := false, setupPlaced := false,
    identAsked := false }

/-- R71, R72: the duty accumulator at power-on. -/
def Duty.initial : Duty := ⟨0, 0, 0, 1000⟩

/-- R86: the playout queue at power-on. -/
def Playout.initial : Playout := ⟨[], none, 0, 0, 0, false, none, .silence⟩

/-- R101: the watch record at power-on. -/
def Watch.initial : Watch := ⟨Criteria.empty, false, 0, 0⟩

/-- R113: the identification record at power-on. -/
def Ident.initial : Ident := ⟨false, false, false, none, none, none, none, none⟩

/-- R126: no tune tone (the pitch of no burst is log 22). -/
def Tone.initial : Tone := ⟨false, none, 0, 0⟩

/-- R129: the keying record at power-on. -/
def Keying.initial : Keying := ⟨.unkeyed, none, false, true, none, 0⟩

/-- R155: every believed item unknown. -/
def Believed.unknown : Believed := ⟨none, none, none, none, none⟩

/-- R146, R155: the bus controller at power-on. -/
def Bus.initial : Bus :=
  { engine := .free, attemptOpen := false, sbcLow := false, sbdPulses := 0, pulses := 0, inFlight := none, floorWork := [],
    pollWork := none, cellWork := [], inbound := none, hold := none, followed := none,
    unfollowed := none, acked := 0, closed := false, reply := [], believed := Believed.unknown }

/-- R162, R163: the registers at power-on. -/
def Port.initial : Port := ⟨.serving, [], 0, 0, 0x8000⟩

/-- R170: the device page at power-on. -/
def Page.initial : Page := ⟨false, 0, 0, 0, 0, 0⟩

/-- R160: at power-on and at RESTART every cell is zero apart from its hand-over byte, and the report
cells' hand-over bytes read 01h (report cell of seat n: 1000h + 2048 n + 080h, 256 bytes). -/
def initialRam : Memory :=
  [(0x117F, 1), (0x197F, 1), (0x217F, 1), (0x297F, 1), (0x317F, 1), (0x397F, 1), (0x417F, 1),
   (0x497F, 1), (0x517F, 1), (0x597F, 1), (0x617F, 1), (0x697F, 1)]

/-- R182: the part right after power-on (the input levels are log 11, the free-value counter log 25). -/
def State.reset : State :=
  { pending := [], free := 0, pins := ⟨false, false, false⟩, stamp := 0, mode := .configuring,
    members := Vector.replicate 48 none, seats := Vector.replicate 12 Seat.vacant,
    plan := Vector.replicate 32 none, station := StationRecord.default, floor := Floor.initial,
    queue := [], duty := Duty.initial, playout := Playout.initial, source := .silence,
    watch := Watch.initial, ident := Ident.initial, tone := Tone.initial, keying := Keying.initial,
    bus := Bus.initial, handovers := [], ram := initialRam, port := Port.initial,
    page := Page.initial }

end Sys2Proof.Machine
end

