-- ==== Sys2Proof/Machine/Codes.lean ====
section
/-! DEFINITION. The codes of R171 and R174, by which the part and its partners name modes, states,
results, causes and messages. -/

namespace Sys2Proof.Machine

/-- R171: mode codes. -/
def TxMode.code : TxMode → Nat
  | .cw => 1 | .usb => 2 | .lsb => 3 | .fm => 4 | .data => 5 | .tune => 6

/-- R171: the mode of a code; any other value is no mode. -/
def modeOfCode (n : Nat) : Option TxMode :=
  match n with
  | 1 => some .cw | 2 => some .usb | 3 => some .lsb | 4 => some .fm | 5 => some .data
  | 6 => some .tune | _ => none

/-- R171: the bit of a mode in the modes-permitted bitmap. -/
def TxMode.bit : TxMode → Byte
  | .cw => 0x01 | .usb => 0x02 | .lsb => 0x04 | .fm => 0x08 | .data => 0x10 | .tune => 0x20

/-- R171: floor state codes. -/
def FloorState.code : FloorState → Nat
  | .idle => 0 | .resting => 1 | .setting => 2 | .granted => 3 | .onAir => 4 | .stalled => 5
  | .hang => 6 | .ident => 7 | .panelHeld => 8 | .shut => 9

/-- R171: result codes. -/
def Result.code : Result → Nat
  | .done => 0 | .unknownOrder => 1 | .badField => 2 | .notServing => 3 | .notConfiguring => 4
  | .notAttached => 5 | .notTrustee => 6 | .noMember => 7 | .badCode => 8 | .suspended => 9
  | .inUse => 10 | .overlap => 11 | .floorBusy => 12 | .outOfPlan => 13 | .noPrivilege => 14
  | .modeBarred => 15 | .allowanceSpent => 16 | .alreadyQueued => 17 | .notQueued => 18
  | .notHolder => 19 | .shut => 20 | .incomplete => 21 | .stillFaulted => 22

/-- R171: END causes. -/
def EndCause.code : EndCause → Nat
  | .released => 1 | .timeUp => 2 | .duty => 3 | .noAudio => 4 | .link => 5 | .forced => 6
  | .revoked => 7 | .detached => 8 | .presence => 9 | .panelHeld => 10 | .shut => 11
  | .inhibit => 12 | .equipment => 13 | .setupFailed => 14 | .refusedAtGrant => 15
  | .serviceEnd => 16

/-- R171: limiting terms. -/
def LimitTerm.code : LimitTerm → Nat
  | .keyLimit => 1 | .allowance => 2 | .dutyHeadroom => 3 | .tuneLimit => 4

/-- R171: setup items. -/
def SetupItem.code : SetupItem → Nat
  | .ampStandby => 1 | .antenna => 2 | .frequency => 3 | .drive => 4 | .ampOperate => 5

/-- R171: equipment details. -/
def EquipDetail.code : EquipDetail → Nat
  | .ampFault => 1 | .reflection => 2 | .noStatus => 3

/-- R171: the criteria set as a byte, bit 0 STARVE, bit 1 DISORDER, bit 2 RESYNC. -/
def Criteria.byte (c : Criteria) : Byte :=
  byteOf (c.starve.toNat + 2 * c.disorder.toNat + 4 * c.resync.toNat)

/-- R171: SEAT causes. -/
def SeatCause.code : SeatCause → Nat
  | .detach => 1 | .suspended => 2 | .presence => 3 | .serviceEnd => 4

/-- R171: member states, 0 for an absent record. -/
def MemberState.code : MemberState → Nat
  | .active => 1 | .suspended => 2

/-- R173: the cause detail of an END notice, 0 where there is none. -/
def EndDetail.byte : EndDetail → Byte
  | .none => 0
  | .limit t => byteOf t.code
  | .criteria c => c.byte
  | .equipment d => byteOf d.code
  | .item i => byteOf i.code
  | .refusal r => byteOf r.code

/-- R11: the turn-end cause that goes with a detach cause. -/
def SeatCause.endCause : SeatCause → EndCause
  | .detach => .detached | .suspended => .revoked | .presence => .presence
  | .serviceEnd => .serviceEnd

/-- R174: message kinds. -/
def statusKind : Byte := 0x06
/-- R174: the kinds of the panel's messages. -/
def PanelMessage.code : PanelMessage → Byte
  | .take => 0x10 | .give => 0x11 | .halt => 0x12 | .resume => 0x13
/-- R174: the panel message of a kind; any other kind is none. -/
def panelMessageOf (kind : Byte) : Option PanelMessage :=
  [PanelMessage.take, .give, .halt, .resume].find? fun m => m.code == kind
/-- R174: the kind of a STATE reply. -/
def stateKind : Byte := 0x14

end Sys2Proof.Machine
end

