-- ==== Sys2Proof/Machine/Update.lean ====
section
/-! DEFINITION. One update for each field of State. Every operation changes the state through these,
so that what it leaves alone is read off by the lemmas of Laws/State.lean. -/

namespace Sys2Proof.Machine

/-- The state with `pending` replaced. -/
def State.withPending (s : State) (x : List Instr) : State :=
  { s with pending := x }

/-- The state with `free` replaced. -/
def State.withFree (s : State) (x : Nat) : State :=
  { s with free := x }

/-- The state with `pins` replaced. -/
def State.withPins (s : State) (x : Pins) : State :=
  { s with pins := x }

/-- The state with `stamp` replaced. -/
def State.withStamp (s : State) (x : BitVec 32) : State :=
  { s with stamp := x }

/-- The state with `mode` replaced. -/
def State.withMode (s : State) (x : ServiceMode) : State :=
  { s with mode := x }

/-- The state with `members` replaced. -/
def State.withMembers (s : State) (x : Vector (Option Member) 48) : State :=
  { s with members := x }

/-- The state with `seats` replaced. -/
def State.withSeats (s : State) (x : Vector Seat 12) : State :=
  { s with seats := x }

/-- The state with `plan` replaced. -/
def State.withPlan (s : State) (x : Vector (Option Segment) 32) : State :=
  { s with plan := x }

/-- The state with `station` replaced. -/
def State.withStation (s : State) (x : StationRecord) : State :=
  { s with station := x }

/-- The state with `floor` replaced. -/
def State.withFloor (s : State) (x : Floor) : State :=
  { s with floor := x }

/-- The state with `queue` replaced. -/
def State.withQueue (s : State) (x : List Entry) : State :=
  { s with queue := x }

/-- The state with `duty` replaced. -/
def State.withDuty (s : State) (x : Duty) : State :=
  { s with duty := x }

/-- The state with `playout` replaced. -/
def State.withPlayout (s : State) (x : Playout) : State :=
  { s with playout := x }

/-- The state with `source` replaced. -/
def State.withSource (s : State) (x : Source) : State :=
  { s with source := x }

/-- The state with `watch` replaced. -/
def State.withWatch (s : State) (x : Watch) : State :=
  { s with watch := x }

/-- The state with `ident` replaced. -/
def State.withIdent (s : State) (x : Ident) : State :=
  { s with ident := x }

/-- The state with `tone` replaced. -/
def State.withTone (s : State) (x : Tone) : State :=
  { s with tone := x }

/-- The state with `keying` replaced. -/
def State.withKeying (s : State) (x : Keying) : State :=
  { s with keying := x }

/-- The state with `bus` replaced. -/
def State.withBus (s : State) (x : Bus) : State :=
  { s with bus := x }

/-- The state with `handovers` replaced. -/
def State.withHandovers (s : State) (x : List SeatNo) : State :=
  { s with handovers := x }

/-- The state with `ram` replaced. -/
def State.withRam (s : State) (x : Memory) : State :=
  { s with ram := x }

/-- The state with `port` replaced. -/
def State.withPort (s : State) (x : Port) : State :=
  { s with port := x }

/-- The state with `page` replaced. -/
def State.withPage (s : State) (x : Page) : State :=
  { s with page := x }

end Sys2Proof.Machine
end

