-- ==== Sys2Proof/Machine/Ops.lean ====
section
/-! DEFINITION. The named operations over the exchange memory, the members, the seats and the
notices. -/

namespace Sys2Proof.Machine

/-! ### The exchange memory -/

/-- The byte at an address; an unlisted address reads 0 (R160). -/
def Memory.read : Memory → Nat → Byte
  | [], _ => 0
  | (k, v) :: rest, a => if k = a then v else Memory.read rest a

/-- The non-zero bytes of a block, at their addresses. -/
def blockCells (base : Nat) : List Byte → Memory
  | [] => []
  | v :: rest =>
    if v = 0 then blockCells (base + 1) rest else (base, v) :: blockCells (base + 1) rest

/-- The memory with a block of bytes stored from `base` on, in the canonical form. -/
def Memory.writeBlock (base : Nat) (bytes : List Byte) (m : Memory) : Memory :=
  m.filter (fun c => decide (c.1 < base)) ++ blockCells base bytes
    ++ m.filter (fun c => decide (base + bytes.length ≤ c.1))

/-- The memory with one byte stored. -/
def Memory.write (a : Nat) (v : Byte) (m : Memory) : Memory :=
  Memory.writeBlock a [v] m

/-- The bytes of `n` successive addresses. -/
def Memory.readBlock (m : Memory) (base : Nat) : Nat → List Byte
  | 0 => []
  | n + 1 => Memory.read m base :: Memory.readBlock m (base + 1) n

/-- Every listed address is at least `lo`, the addresses rise strictly, and no listed byte is 0. -/
def Memory.wfFrom (lo : Nat) : Memory → Bool
  | [] => true
  | (k, v) :: rest => decide (lo ≤ k) && v != 0 && Memory.wfFrom (k + 1) rest

/-- The canonical form. -/
def Memory.wf (m : Memory) : Bool := Memory.wfFrom 0 m

/-! ### The cells (R160) -/

/-- A cell of the exchange memory. -/
inductive CellRef where
  | bus (n : BusCellNo)
  | order (seat : SeatNo)
  | report (seat : SeatNo)
  | audio (seat : SeatNo) (cell : AudioCellNo)
  deriving DecidableEq, Repr

/-- Where a seat's area begins. -/
def seatArea (seat : SeatNo) : Nat := 0x1000 + 2048 * seat.val

/-- Where a cell begins. -/
def CellRef.base : CellRef → Nat
  | .bus n => 0x0C00 + 256 * n.val
  | .order seat => seatArea seat
  | .report seat => seatArea seat + 0x080
  | .audio seat cell => seatArea seat + 0x180 + 0x180 * cell.val

/-- A cell's size in bytes. -/
def CellRef.size : CellRef → Nat
  | .bus _ => 256
  | .order _ => 128
  | .report _ => 256
  | .audio _ _ => 384

/-- R161: the hand-over byte is the last byte of the cell. -/
def CellRef.handoverAddress (c : CellRef) : Nat := c.base + c.size - 1

/-- A cell is part-held when its hand-over byte reads 01h. -/
def partHeld (s : State) (c : CellRef) : Bool :=
  Memory.read s.ram c.handoverAddress == 1

/-- A byte of a cell. -/
def cellByte (s : State) (c : CellRef) (offset : Nat) : Byte :=
  Memory.read s.ram (c.base + offset)

/-- `n` bytes of a cell. -/
def cellBytes (s : State) (c : CellRef) (offset n : Nat) : List Byte :=
  Memory.readBlock s.ram (c.base + offset) n

/-- The part writes bytes into a cell. -/
def writeCell (c : CellRef) (offset : Nat) (bytes : List Byte) (s : State) : State :=
  s.withRam (Memory.writeBlock (c.base + offset) bytes s.ram)

/-- A cell's hand-over byte is written: 01h part-held, 00h host-held. -/
def writeHandover (c : CellRef) (v : Byte) (s : State) : State :=
  s.withRam (Memory.write c.handoverAddress v s.ram)

/-! ### Members and seats -/

/-- R1: what a record reads as when it is absent (its fields are zero, log 20). -/
def Member.absent : Member :=
  { state := .active, grade := 0, callsign := [], code := List.replicate 8 0, misses := 0,
    priority := false, ceiling := 0, allowance := 0, used := 0, attached := none }

/-- A member's record as it is read. -/
def memberOf (s : State) (m : MemberNo) : Member := (s.members[m]).getD Member.absent

/-- A member's record is replaced. -/
def setMember (m : MemberNo) (r : Option Member) (s : State) : State :=
  s.withMembers (s.members.set m.val r m.isLt)

/-- A present member's record is changed; an absent one is left alone. -/
def modMember (m : MemberNo) (f : Member → Member) (s : State) : State :=
  setMember m (s.members[m].map f) s

/-- A seat's record is changed. -/
def modSeat (seat : SeatNo) (f : Seat → Seat) (s : State) : State :=
  s.withSeats (s.seats.set seat.val (f s.seats[seat]) seat.isLt)

/-- The member attached to a seat; none when it is VACANT (R8). -/
def attachedMember (s : State) (seat : SeatNo) : Option MemberNo :=
  s.seats[seat].attachment.map Attachment.member

/-- R30: the remaining allowance in whole seconds. -/
def remainingAllowance (r : Member) : Nat := r.allowance * 60 - r.used / 1000

/-- R3: management authority of a seat. -/
def hasAuthority (s : State) (seat : SeatNo) : Bool :=
  s.mode == .configuring || attachedMember s seat == some 0

/-- R13: the deadline of a renewal made now. -/
def renewedDeadline (s : State) : BitVec 32 :=
  s.stamp + BitVec.ofNat 32 (s.station.presence * 1000)

/-- R13: the take of an order or of an audio cell renews the presence deadline of an ATTACHED seat. -/
def renewPresence (seat : SeatNo) (s : State) : State :=
  modSeat seat
    (fun r => { r with attachment := r.attachment.map fun a => { a with deadline := renewedDeadline s } })
    s

/-! ### Notices (R166) -/

/-- R171: the notice kinds. -/
def NoticeBody.kind : NoticeBody → Nat
  | .floor .. => 1
  | .queue .. => 2
  | .grant .. => 3
  | .ended .. => 4
  | .warnTime => 5
  | .warnLink .. => 5
  | .ident .. => 6
  | .seat .. => 7
  | .panel .. => 8

/-- A notice in a pending set, replacing any earlier one of its kind. -/
def placeNotice (n : Notice) (l : List Notice) : List Notice :=
  l.filter (fun o => o.body.kind != n.body.kind) ++ [n]

/-- A notice is placed when the seat is ATTACHED (R11, R166). -/
def Seat.receive (n : Notice) (r : Seat) : Seat :=
  if r.attachment.isSome then { r with notices := placeNotice n r.notices } else r

/-- A notice is raised for one seat. -/
def raise (seat : SeatNo) (body : NoticeBody) (s : State) : State :=
  modSeat seat (Seat.receive ⟨body, s.stamp⟩) s

/-- A notice is raised for every ATTACHED seat. -/
def raiseAll (body : NoticeBody) (s : State) : State :=
  s.withSeats (s.seats.map (Seat.receive ⟨body, s.stamp⟩))

/-! ### Summary bits -/

/-- R163: a SUMMARY bit is set at its event. -/
def setSummary (bit : Nat) (s : State) : State :=
  s.withPort { s.port with summary := s.port.summary ||| BitVec.ofNat 16 (2 ^ bit) }

end Sys2Proof.Machine
end

