-- ==== Sys2Proof/Machine/Grant.lean ====
section
/-! DEFINITION. The grant computation of R22 to R34: a reading of the tables on behalf of one request,
in seven stages. It writes nothing. -/

namespace Sys2Proof.Machine

/-- R22: everything the computation reads besides the request. -/
structure GrantInputs where
  member       : Member
  plan         : List (SlotNo × Segment)
  station      : StationRecord
  q            : Nat
  ampInService : Bool
  deriving DecidableEq, Repr

/-- The present segments with their slot numbers. -/
def presentSegments (plan : Vector (Option Segment) 32) : List (SlotNo × Segment) :=
  (List.finRange 32).filterMap fun i => (plan[i]).map fun g => (i, g)

/-! ### Stage 1: the occupied span (R24) -/

/-- R24: how far a mode's signal reaches below the dial frequency. -/
def TxMode.below : TxMode → Nat
  | .cw => 150 | .usb => 0 | .lsb => 3000 | .data => 0 | .fm => 8000 | .tune => 50

/-- R24: how far a mode's signal reaches above the dial frequency. -/
def TxMode.above : TxMode → Nat
  | .cw => 150 | .usb => 3000 | .lsb => 0 | .data => 3000 | .fm => 8000 | .tune => 50

/-- R24: the guarded span [a, b], or `none` when it leaves 0 to 4,294,967,295. -/
def guardedSpan (guard : Nat) (r : Request) : Option (Nat × Nat) :=
  if r.mode.below + guard ≤ r.freq ∧ r.freq + r.mode.above + guard ≤ 4294967295 then
    some (r.freq - (r.mode.below + guard), r.freq + r.mode.above + guard)
  else none

/-! ### Stage 2: the span walk (R25, R26) -/

/-- R18: a segment is half-open and contains its low edge. -/
def Segment.contains (g : Segment) (f : Nat) : Bool := decide (g.low ≤ f) && decide (f < g.high)

/-- R18: a segment permits a mode. -/
def Segment.permits (g : Segment) (m : TxMode) : Bool := g.modes &&& m.bit != 0

/-- R26: the walk from one segment of the run on to the segment that holds `b`. The number bounds its
length; 32 suffices, since a run holds at most 32 segments. -/
def walk (plan : List (SlotNo × Segment)) (grade : Nat) (mode : TxMode) (b : Nat) :
    Nat → SlotNo × Segment → Except Result (List (SlotNo × Segment))
  | 0, _ => .error .outOfPlan
  | n + 1, (i, g) =>
    if grade < g.minGrade then .error .noPrivilege
    else if !g.permits mode then .error .modeBarred
    else if b < g.high then .ok [(i, g)]
    else match plan.find? (fun x => x.2.low == g.high) with
      | none => .error .outOfPlan
      | some next =>
        match walk plan grade mode b n next with
        | .error e => .error e
        | .ok run => .ok ((i, g) :: run)

/-- R25, R26: the run of segments that covers the guarded span. -/
def spanRun (plan : List (SlotNo × Segment)) (grade : Nat) (mode : TxMode) (a b : Nat) :
    Except Result (List (SlotNo × Segment)) :=
  match plan.find? (fun x => x.2.contains a) with
  | none => .error .outOfPlan
  | some first => walk plan grade mode b 32 first

/-! ### Stages 3 to 5 -/

/-- R27 to R30: what a request that has come through stage 5 carries. -/
structure Figures where
  slot    : SlotNo
  port    : Nat
  ceiling : Nat
  power   : Nat
  ampUsed : Bool
  aRem    : Nat
  deriving DecidableEq, Repr

/-- R27: the run ceiling, the lowest power ceiling of any segment in the run. -/
def runCeiling : List (SlotNo × Segment) → Nat
  | [] => 0
  | [x] => x.2.ceiling
  | x :: rest => min x.2.ceiling (runCeiling rest)

/-- R29: the amplifier is usable for a request. -/
def ampUsable (inp : GrantInputs) (carrier : Segment) (mode : TxMode) : Bool :=
  inp.station.ampPresent && inp.ampInService && carrier.amp && mode != .tune

/-- R23, R28: the power asked for as a limit: a Preq of 0 adds none, one above 1500 is taken as
1500. -/
def limitByPreq (preq p : Nat) : Nat := if preq = 0 then p else min (min preq 1500) p

/-- R28: the power of the grant. -/
def grantPower (inp : GrantInputs) (r : Request) (carrier : Segment) (cs : Nat) : Nat :=
  let p := limitByPreq r.preq (min inp.member.ceiling (min cs inp.station.cst))
  let p := if ampUsable inp carrier r.mode then p else min p inp.station.cb
  if r.mode = .tune then min p inp.station.tuneCeiling else p

/-- R29: the grant uses the amplifier. -/
def grantAmp (inp : GrantInputs) (r : Request) (carrier : Segment) (cs : Nat) : Bool :=
  ampUsable inp carrier r.mode && decide (inp.station.cb < grantPower inp r carrier cs)

/-- R30: the threshold of stages 5 and 6. -/
def grantThreshold (station : StationRecord) (mode : TxMode) : Nat :=
  if mode = .tune then station.tuneLimit else station.minGrant

/-- R24 to R30: stages 1 to 5. -/
def admission (inp : GrantInputs) (r : Request) : Except Result Figures :=
  match guardedSpan inp.station.guard r with
  | none => .error .outOfPlan
  | some (a, b) =>
    match spanRun inp.plan inp.member.grade r.mode a b with
    | .error e => .error e
    | .ok run =>
      match run.find? (fun x => x.2.contains r.freq) with
      | none => .error .outOfPlan
      | some (slot, carrier) =>
        let cs := runCeiling run
        let aRem := remainingAllowance inp.member
        if aRem < grantThreshold inp.station r.mode then .error .allowanceSpent
        else .ok { slot := slot, port := carrier.port, ceiling := cs,
                   power := grantPower inp r carrier cs,
                   ampUsed := grantAmp inp r carrier cs, aRem := aRem }

/-! ### Stages 6 and 7 -/

/-- R31: the duty headroom in whole seconds; `none` is unlimited. -/
def headroom (station : StationRecord) (q power : Nat) : Option Nat :=
  if station.cool < power then some ((station.qmax - q) / (power - station.cool)) else none

/-- R32: the duration. -/
def grantDuration (station : StationRecord) (mode : TxMode) (aRem : Nat) (h : Option Nat) : Nat :=
  let d := min station.keyLimit aRem
  let d := match h with | none => d | some n => min d n
  if mode = .tune then min d station.tuneLimit else d

/-- R32: the limiting term, the first in the table's order whose value equals the duration. -/
def limitingTerm (station : StationRecord) (aRem : Nat) (h : Option Nat) (d : Nat) : LimitTerm :=
  if station.keyLimit = d then .keyLimit
  else if aRem = d then .allowance
  else if h = some d then .dutyHeadroom
  else .tuneLimit

/-- R33: the outcomes of a run of the computation. -/
inductive GrantOutcome where
  | refusal (r : Result)
  | short (f : Figures) (h : Nat)
  | grant (f : Figures) (h : Option Nat) (g : Grant)
  deriving DecidableEq, Repr

/-- R31 to R33: stages 6 and 7. -/
def finishGrant (inp : GrantInputs) (r : Request) (f : Figures) : GrantOutcome :=
  let h := headroom inp.station inp.q f.power
  let d := grantDuration inp.station r.mode f.aRem h
  let g : Grant :=
    { freq := r.freq, mode := r.mode, power := f.power, ampUsed := f.ampUsed, port := f.port,
      duration := d, limit := limitingTerm inp.station f.aRem h d }
  match h with
  | none => .grant f h g
  | some n => if n < grantThreshold inp.station r.mode then .short f n else .grant f h g

/-- R22: the whole computation. -/
def computeGrant (inp : GrantInputs) (r : Request) : GrantOutcome :=
  match admission inp r with
  | .error e => .refusal e
  | .ok f => finishGrant inp r f

/-- R22: the inputs of the computation for a member, as the state holds them now. -/
def grantInputs (s : State) (m : MemberNo) : GrantInputs :=
  { member := memberOf s m, plan := presentSegments s.plan, station := s.station, q := s.duty.q,
    ampInService := s.keying.ampInService }

end Sys2Proof.Machine
end

