-- ==== Sys2Proof/Machine/Flags.lean ====
section
/-! DEFINITION. The flags, conditions and output lines that follow from the state. -/

namespace Sys2Proof.Machine

/-! ### Floor -/

/-- R37: the states with a holder. -/
def FloorState.hasHolder : FloorState → Bool
  | .setting | .granted | .onAir | .stalled | .hang => true
  | _ => false

/-- R86: the states in which the holder's frames are placed. -/
def FloorState.streaming : FloorState → Bool
  | .granted | .onAir | .stalled => true
  | _ => false

/-- R70: LOCAL and SHUT. -/
def FloorState.panel : FloorState → Bool
  | .panelHeld | .shut => true
  | _ => false

/-- R19, R20: the states that admission a band edit. -/
def FloorState.admitsBandEdit : FloorState → Bool
  | .idle | .resting | .panelHeld | .shut => true
  | _ => false

/-- R179, R181: IDLE with an empty queue, or LOCAL, or SHUT. -/
def stationFree (s : State) : Bool :=
  s.floor.state == .idle && s.queue.isEmpty || s.floor.state.panel

/-- The seat of the holder. -/
def holderSeat (s : State) : Option SeatNo := s.floor.holder.map Holder.seat

/-- The grant in force is for TUNE. -/
def grantIsTune (s : State) : Bool := s.floor.grant.map Grant.mode == some .tune

/-- The grant in force is for CW. -/
def grantIsCw (s : State) : Bool := s.floor.grant.map Grant.mode == some .cw

/-! ### Lines (R129, R133, R163) -/

/-- R129, R141: PTT_OUT. -/
def pttOut (s : State) : Bool := !s.pins.resetLow && s.keying.state != .unkeyed

/-- R129: KEY_OUT. -/
def keyOut (s : State) : Bool :=
  !s.pins.resetLow && s.keying.state == .keyed && s.keying.requestedKey

/-- R163: INT is asserted while SUMMARY and MASK have a set bit in common. R141 does not name INT: while
RESET_N is low it goes on following the two registers as they are kept (log 12, DESIGN CHOICE). -/
def intLine (s : State) : Bool := s.port.summary &&& s.port.mask != 0

/-! ### Identification, link and audio -/

/-- R121: an overlay is in progress. -/
def overlayInProgress (s : State) : Bool := s.ident.sender.map Sender.overlay == some true

/-- R102: the link watch is watching. -/
def watching (s : State) : Bool :=
  s.floor.state == .onAir && s.keying.state == .keyed && !grantIsTune s && !overlayInProgress s

/-- R102: the link watch is recording. -/
def recording (s : State) : Bool := s.floor.state == .stalled

/-- R119, R124: the sender's key or tone gate, down through each dot and dash. -/
def senderGate (s : State) : Bool :=
  match s.ident.sender with
  | some snd => (snd.elements.head?.map Element.down).getD false
  | none => false

/-- R91: playout steps are made: keyed in ON_AIR under a grant that is not for TUNE. -/
def stepsMade (s : State) : Bool :=
  s.floor.state == .onAir && s.keying.state == .keyed && !grantIsTune s

/-- R95: the source for the situation. -/
def selectSource (s : State) : Source :=
  if s.keying.state = .keyed then
    match s.floor.state with
    | .onAir =>
      if overlayInProgress s then (if grantIsCw s then .silence else .idTone)
      else if grantIsTune s then .tuneTone
      else if grantIsCw s then .silence else .frames
    | .ident =>
      match s.ident.sender with
      | some snd => if snd.byKey then .silence else .idTone
      | none => .silence
    | _ => .silence
  else .silence

/-- R94, R95: the key state requested for KEY_OUT. -/
def selectKey (s : State) : Bool :=
  if s.keying.state = .keyed then
    match s.floor.state with
    | .onAir =>
      grantIsCw s && (if overlayInProgress s then senderGate s else s.playout.carriedKey)
    | .ident => (s.ident.sender.map Sender.byKey == some true) && senderGate s
    | _ => false
  else false

/-- R116: the three conditions under which the closing timer runs. -/
def closingRuns (s : State) : Bool :=
  s.ident.window && s.floor.state == .idle && s.queue.isEmpty

/-- R138: the four conditions under which the poll timer runs. -/
def pollRuns (s : State) : Bool :=
  s.station.pollEnable && s.station.ampPresent && s.keying.state == .keyed
    && s.bus.believed.amp == some .operate

/-- R52: the key-down remaining in milliseconds; 0 with no grant in force (R170). -/
def keyDownRemaining (s : State) : Nat :=
  match s.floor.grant with
  | some g => g.duration * 1000 - s.floor.keyDown
  | none => 0

/-- R115: the seconds to the periodic identification, rounded up; 0 while the timer is stopped. -/
def idSeconds (s : State) : Nat :=
  match s.ident.periodic with
  | some ms => (ms + 999) / 1000
  | none => 0

end Sys2Proof.Machine
end

