-- ==== Sys2Proof/Machine/Identification.lean ====
section
/-! DEFINITION. The identification record's operations and the Morse pattern (R113, R114, R118 to
R125). -/

namespace Sys2Proof.Machine

/-! ### Morse (R124, R125) -/

/-- R125: a character's dots and dashes; `true` is a dash. Characters outside the table have none. The spec
names the characters and gives them no codes: that A to Z are 41h to 5Ah, 0 to 9 are 30h to 39h and the
stroke is 2Fh, as in ASCII, is the model's (log 45, PRESUMED). -/
def morseOf (c : Byte) : List Bool :=
  match c.toNat with
  | 0x41 => [false, true]                     -- A
  | 0x42 => [true, false, false, false]       -- B
  | 0x43 => [true, false, true, false]        -- C
  | 0x44 => [true, false, false]              -- D
  | 0x45 => [false]                           -- E
  | 0x46 => [false, false, true, false]       -- F
  | 0x47 => [true, true, false]               -- G
  | 0x48 => [false, false, false, false]      -- H
  | 0x49 => [false, false]                    -- I
  | 0x4A => [false, true, true, true]         -- J
  | 0x4B => [true, false, true]               -- K
  | 0x4C => [false, true, false, false]       -- L
  | 0x4D => [true, true]                      -- M
  | 0x4E => [true, false]                     -- N
  | 0x4F => [true, true, true]                -- O
  | 0x50 => [false, true, true, false]        -- P
  | 0x51 => [true, true, false, true]         -- Q
  | 0x52 => [false, true, false]              -- R
  | 0x53 => [false, false, false]             -- S
  | 0x54 => [true]                            -- T
  | 0x55 => [false, false, true]              -- U
  | 0x56 => [false, false, false, true]       -- V
  | 0x57 => [false, true, true]               -- W
  | 0x58 => [true, false, false, true]        -- X
  | 0x59 => [true, false, true, true]         -- Y
  | 0x5A => [true, true, false, false]        -- Z
  | 0x30 => [true, true, true, true, true]    -- 0
  | 0x31 => [false, true, true, true, true]   -- 1
  | 0x32 => [false, false, true, true, true]  -- 2
  | 0x33 => [false, false, false, true, true] -- 3
  | 0x34 => [false, false, false, false, true]
  | 0x35 => [false, false, false, false, false]
  | 0x36 => [true, false, false, false, false]
  | 0x37 => [true, true, false, false, false]
  | 0x38 => [true, true, true, false, false]
  | 0x39 => [true, true, true, true, false]
  | 0x2F => [true, false, false, true, false] -- /
  | _ => []

/-- R124: a dot or a dash, key down. -/
def markElement (dash : Bool) : Element := ⟨true, if dash then 3 else 1⟩

/-- R124: one character's elements with a gap of one dot between them. -/
def charElements (c : Byte) : List Element :=
  ((morseOf c).map markElement).intersperse ⟨false, 1⟩

/-- R124: a callsign's elements, with a gap of three dots between characters. -/
def callsignElements (callsign : List Byte) : List Element :=
  [(⟨false, 3⟩ : Element)].intercalate (callsign.map charElements)

/-- The length of a pattern in dots. -/
def patternDots (es : List Element) : Nat := (es.map Element.dots).sum

/-- R124: the dot length in milliseconds. -/
def dotLength (speed : Nat) : Nat := 1200 / speed

/-! ### The ID window (R114) -/

/-- R114: at an assertion of PTT_OUT with the window closed, the window opens and the periodic timer
starts. -/
def openWindow (s : State) : State :=
  if s.ident.window then s
  else s.withIdent { s.ident with window := true, periodic := some (s.station.idInterval * 60000) }

/-- R114: the window closes: the timers stop, pending and overdue are set to no. -/
def closeWindow (s : State) : State :=
  s.withIdent { s.ident with
    window := false, pending := false, overdue := false, periodic := none, closing := none,
    grace := none }

/-! ### The sender -/

/-- R119, R122: a sender at the beginning of the pattern for the station callsign. -/
def newSender (station : StationRecord) (overlay byKey : Bool) : Sender :=
  let es := callsignElements station.callsign
  let dot := dotLength station.idSpeed
  { overlay := overlay, byKey := byKey, elements := es,
    left := ((es.head?.map Element.dots).getD 0) * dot, dot := dot, pitch := station.pitch,
    length := patternDots es * dot }

/-- R118, R119: the sender starts in IDENT, by key when the last grant mode is CW. -/
def startIdentSender (s : State) : State :=
  s.withIdent { s.ident with
    sender := some (newSender s.station false (s.ident.lastMode == some .cw)) }

/-- R122: the sender starts an overlay, by key when the grant in force is CW. -/
def startOverlaySender (s : State) : State :=
  s.withIdent { s.ident with sender := some (newSender s.station true (grantIsCw s)) }

/-- The sender becomes quiet (R119, R120, R123). -/
def quietSender (s : State) : State := s.withIdent { s.ident with sender := none }

/-- R121: the overlay begins when overdue is yes, the floor is ON_AIR under a grant not for TUNE, the
keying unit is KEYED and the sender is quiet. -/
def maybeOverlay (s : State) : State :=
  if s.ident.overdue && stepsMade s && s.ident.sender.isNone then startOverlaySender s else s

/-- R128: the IDENT notice of a completed identification. -/
def raiseIdentNotice (snd : Sender) (s : State) : State :=
  raiseAll (.ident snd.overlay snd.byKey snd.length) s

end Sys2Proof.Machine
end

