-- ==== Sys2Proof/Machine/WorkList.lean ====
section
/-! DEFINITION. The station bus work list, its transactions and the believed setting (R143, R151 to
R157). -/

namespace Sys2Proof.Machine

/-! ### Frames (R143, R154, R174) -/

/-- R174: the address byte: the address in bits 6 to 1, the direction in bit 0. -/
def addressByteOf (address : Nat) (query : Bool) : Byte :=
  byteOf (address * 2 + query.toNat)

/-- R143: the check byte makes the 8-bit sum of the frame 0. -/
def checkByteOf (bytes : List Byte) : Byte := -(bytes.foldl (· + ·) 0)

/-- R154: whether a message is a query. -/
def Message.isQuery : Message → Bool
  | .status => true
  | .cell query _ _ _ => query
  | _ => false

/-- R143, R154: the length byte: the data bytes of a command, or those a query asks for. -/
def Message.length : Message → Nat
  | .setFreq .. => 6
  | .setDrive .. => 3
  | .select .. => 2
  | .operate => 1
  | .standby => 1
  | .status => 3
  | .cell _ _ length _ => length

/-- R154, R174: the data bytes of a command. -/
def Message.data : Message → List Byte
  | .setFreq f m => 0x01 :: (le32 f ++ [byteOf m.code])
  | .setDrive w => 0x02 :: le16 w
  | .select p => [0x03, byteOf p]
  | .operate => [0x04]
  | .standby => [0x05]
  | .status => []
  | .cell query _ length data => if query then [] else data.take length

/-- R143: the address byte and the length byte of a transaction's frame. -/
def Txn.header (t : Txn) : List Byte :=
  [addressByteOf t.address t.message.isQuery, byteOf t.message.length]

/-- R143: the bytes the part sends in an attempt, from the address byte on: for a command to its
check byte, for a query the header. -/
def Txn.sentBytes (t : Txn) : List Byte :=
  if t.message.isQuery then t.header
  else t.header ++ t.message.data ++ [checkByteOf (t.header ++ t.message.data)]

/-- R152, R154: the reply to a query is right: as many data bytes as asked for, a right check byte
and, for STATUS, the kind STATUS first. -/
def Txn.replyRight (t : Txn) (reply : List Byte) (check : Byte) : Bool :=
  reply.length == t.message.length && checkByteOf (t.header ++ reply) == check
    && (t.message != .status || reply.head? == some statusKind)

/-- R154: the address a transaction's first attempt reads from the station record. -/
def Message.address (m : Message) (station : StationRecord) : Nat :=
  match m with
  | .setFreq .. => station.radioAddress
  | .setDrive .. => station.radioAddress
  | .select .. => station.antennaAddress
  | .operate => station.ampAddress
  | .standby => station.ampAddress
  | .status => station.ampAddress
  | .cell _ address _ _ => address

/-- A new transaction, with no attempt used and no loss counted. -/
def newTxn (owner : Owner) (m : Message) : Txn := ⟨m, owner, 0, 0, 0⟩

/-! ### What is outstanding -/

/-- R151: the floor's transactions. -/
def Owner.isFloor : Owner → Bool
  | .setup | .pastSetup | .standby => true
  | _ => false

/-- A transaction of the floor is waiting or in flight (R48, R64). -/
def floorOutstanding (s : State) : Bool :=
  !s.bus.floorWork.isEmpty || s.bus.inFlight.any (fun t => t.owner.isFloor)

/-- An amplifier STANDBY is waiting or in flight (R61, R64). -/
def standbyOutstanding (s : State) : Bool :=
  s.bus.floorWork.any (fun t => t.message == .standby)
    || s.bus.inFlight.any (fun t => t.message == .standby)

/-- R48, R157: a command that reaches the radio adapter, the antenna switch, the amplifier or every
follower. -/
def reachesStation (station : StationRecord) : Message → Bool
  | .cell false address _ _ =>
    address == station.radioAddress || address == station.antennaAddress
      || address == station.ampAddress || address == 0
  | _ => false

/-- R48: a pass-through command to the station's devices is in flight. -/
def passThroughOutstanding (s : State) : Bool :=
  s.bus.inFlight.any (fun t => reachesStation s.station t.message)

/-- R138: a status query is waiting or in flight. -/
def pollOutstanding (s : State) : Bool :=
  s.bus.pollWork.isSome || s.bus.inFlight.any (fun t => t.owner == .poll)

/-! ### Placing and removing -/

/-- A floor transaction joins its section. -/
def placeFloorTxn (owner : Owner) (m : Message) (s : State) : State :=
  s.withBus { s.bus with floorWork := s.bus.floorWork ++ [newTxn owner m] }

/-- R50, R59: the turn's waiting setup items are removed; one in flight belongs to a past turn. -/
def cancelSetup (s : State) : State :=
  s.withBus { s.bus with
    floorWork := s.bus.floorWork.filter (fun t => t.owner != .setup)
    inFlight := s.bus.inFlight.map fun t =>
      if t.owner = .setup then { t with owner := .pastSetup } else t }

/-- R138: a waiting status query is withdrawn. -/
def withdrawPoll (s : State) : State := s.withBus { s.bus with pollWork := none }

/-! ### Taking the next transaction (R151, R157) -/

/-- R157: the floor states that hold a pass-through command to the station's devices. -/
def FloorState.holdsCells : FloorState → Bool
  | .setting | .granted | .onAir | .stalled | .hang | .ident => true
  | _ => false

/-- R157: a pass-through transaction may not be sent now. -/
def cellHeld (s : State) (m : Message) : Bool :=
  s.floor.state.holdsCells && reachesStation s.station m

/-- R151: the first transaction of the highest section that has one to send, and the work list
without it. -/
def nextWork (s : State) : Option (Txn × Bus) :=
  match s.bus.floorWork, s.bus.pollWork, s.bus.cellWork with
  | t :: rest, _, _ => some (t, { s.bus with floorWork := rest })
  | [], some t, _ => some (t, { s.bus with pollWork := none })
  | [], none, t :: rest =>
    if cellHeld s t.message then none else some (t, { s.bus with cellWork := rest })
  | [], none, [] => none

/-! ### The believed setting (R155) -/

/-- R152: the outcomes of a transaction. -/
inductive TxnOutcome where
  | done | noAck | lost | stuck
  deriving DecidableEq, Repr

/-- R155: a device's items become unknown when `b` says so. -/
def Believed.forget (radio antenna amp : Bool) (b : Believed) : Believed :=
  { port := if antenna then none else b.port, freq := if radio then none else b.freq,
    mode := if radio then none else b.mode, drive := if radio then none else b.drive,
    amp := if amp then none else b.amp }

/-- R155: the believed setting after a transaction's outcome. -/
def Believed.after (station : StationRecord) (m : Message) (o : TxnOutcome) (b : Believed) :
    Believed :=
  let known := o == .done
  match m with
  | .select p => { b with port := if known then some p else none }
  | .setFreq f mode =>
    { b with freq := if known then some f else none, mode := if known then some mode else none }
  | .setDrive w => { b with drive := if known then some w else none }
  | .operate => { b with amp := if known then some .operate else none }
  | .standby => { b with amp := if known then some .standby else none }
  | .status => b
  | .cell true _ _ _ => b
  | .cell false address _ _ =>
    b.forget (address == station.radioAddress || address == 0)
      (address == station.antennaAddress || address == 0)
      (address == station.ampAddress || address == 0)

/-- The believed setting is replaced. -/
def setBelieved (b : Believed) (s : State) : State := s.withBus { s.bus with believed := b }

end Sys2Proof.Machine
end

