-- ==== Sys2Proof/Machine/Floor.lean ====
section
/-! DEFINITION. The floor: its states and queue, the end of a turn and the serving of the queue (R37
to R65), with the keying unit's unkey (R132), which every end may call. -/

namespace Sys2Proof.Machine

/-! ### Playout queue and disorder window -/

/-- R86: the queue is emptied, np made undefined, the counts set to 0 and the carried key state to
up. -/
def Playout.emptied (p : Playout) : Playout :=
  { p with frames := [], np := none, earlyRun := 0, u := 0, trimRun := 0, carriedKey := false }

/-- R103: both window counts are set to 0. -/
def restartWindow (s : State) : State := s.withWatch { s.watch with steps := 0, disorder := 0 }

/-! ### Floor states -/

/-- R70: a change of floor state, with its notices and the rewrite of the floor board that it calls for;
the playout queue and the disorder window follow it by R86 and R103. -/
def setFloorState (new : FloorState) (s : State) : State :=
  if s.floor.state = new then s
  else
    let old := s.floor.state
    let s := s.withFloor { s.floor with state := new }
    let s := s.withPage { s.page with boardDue := true }
    let s :=
      if new = .granted ∨ (old.streaming ∧ ¬ new.streaming) then s.withPlayout s.playout.emptied
      else s
    let s := if new = .granted then restartWindow s else s
    let s := raiseAll (.floor new (holderSeat s)) s
    if old.panel ∨ new.panel then raiseAll (.panel (new == .panelHeld) (new == .shut)) s else s

/-! ### The keying unit's unkey (R132) -/

/-- R132: an unkey in LEADING or KEYED. The audio path, the tone generator, the identification unit
and the status poll follow it (R90, R93, R94, R120, R123, R126, R138). -/
def unkey (s : State) : State :=
  if s.keying.state = .unkeyed then s
  else
    let s := s.withKeying { s.keying with state := .unkeyed, lead := none, poll := none, failures := 0 }
    let s := withdrawPoll s
    let s := s.withPlayout { s.playout with
      timer := none, step := .silence, carriedKey := false, trimRun := 0 }
    let s := s.withTone { s.tone with gate := false, timer := none, age := 0 }
    quietSender s

/-! ### The request queue (R38 to R43) -/

/-- QUEUE notices for the entries from a position on. -/
def noticePositions : Nat → List Entry → State → State
  | _, [], s => s
  | p, e :: rest, s => noticePositions (p + 1) rest (raise e.seat (.queue p) s)

/-- R39: a priority entry goes after the last priority entry, and before every normal entry where
there is none (log 19). -/
def insertPriority (e : Entry) : List Entry → List Entry
  | [] => [e]
  | h :: rest =>
    if (h :: rest).any Entry.priority then h :: insertPriority e rest else e :: h :: rest

/-- R39: the queue with an entry joined; `fixed` keeps the head at position 1. -/
def insertEntry (fixed : Bool) (e : Entry) (q : List Entry) : List Entry :=
  if e.priority then
    match fixed, q with
    | true, h :: rest => h :: insertPriority e rest
    | _, _ => insertPriority e q
  else q ++ [e]

/-- The entries before a seat's entry. -/
def entriesBefore (seat : SeatNo) (q : List Entry) : List Entry := q.takeWhile (fun e => e.seat != seat)

/-- The entries behind a seat's entry. -/
def entriesBehind (seat : SeatNo) (q : List Entry) : List Entry :=
  (q.dropWhile (fun e => e.seat != seat)).drop 1

/-- A seat has an entry in the queue. -/
def queued (s : State) (seat : SeatNo) : Bool := s.queue.any (fun e => e.seat == seat)

/-- R42: an entry joins; the entries behind it are told their positions. -/
def joinQueue (e : Entry) (s : State) : State :=
  let q := insertEntry (s.floor.state == .resting) e s.queue
  let s := s.withQueue q
  noticePositions ((entriesBefore e.seat q).length + 2) (entriesBehind e.seat q) s

/-- R42: the position of a seat's entry, from 1 on. -/
def positionOf (s : State) (seat : SeatNo) : Nat := (entriesBefore seat s.queue).length + 1

/-- R40: a seat's entry leaves the queue; its seat is told position 0, and those behind it their new
positions. -/
def removeEntry (seat : SeatNo) (s : State) : State :=
  let before := entriesBefore seat s.queue
  let behind := entriesBehind seat s.queue
  let s := s.withQueue (before ++ behind)
  noticePositions (before.length + 1) behind (raise seat (.queue 0) s)

/-- R60: a queued entry is removed with an END notice, held flag 0. -/
def endEntry (cause : EndCause) (detail : EndDetail) (e : Entry) (s : State) : State :=
  removeEntry e.seat (raise e.seat (.ended cause detail false e.member 0) s)

/-- R58, R60, R68: entries removed by one act, in queue order. -/
def endEntries (cause : EndCause) : List Entry → State → State
  | [], s => s
  | e :: rest, s => endEntries cause rest (endEntry cause .none e s)

/-! ### The end of a turn (R59 to R61) -/

/-- R61: an amplifier STANDBY is called for at the end of a turn. -/
def standbyCalled (cause : EndCause) (s : State) : Bool :=
  cause != .panelHeld && cause != .shut && !standbyOutstanding s
    && (s.station.ampPresent && s.bus.believed.amp == some .operate
        || s.bus.inFlight.any (fun t => t.message == .operate && t.owner == .setup))

/-- R59 steps 3 and 4: the turn's waiting setup items go, and a STANDBY is placed where R61 calls for
one. Whether it does is judged with the waiting items gone and the one in flight still the turn's. -/
def closeSetup (cause : EndCause) (s : State) : State :=
  let waitingGone := s.withBus { s.bus with
    floorWork := s.bus.floorWork.filter (fun t => t.owner != .setup) }
  let s' := cancelSetup s
  if standbyCalled cause waitingGone then placeFloorTxn .standby .standby s' else s'

/-- R60: the END notice of a held turn. -/
def raiseEnd (cause : EndCause) (detail : EndDetail) (s : State) : State :=
  match s.floor.holder with
  | some h => raise h.seat (.ended cause detail true h.member s.floor.keyedMs) s
  | none => s

/-- R59 steps 2 and 6: the timers stop and the holder, the grant, the turn count and the keyed time
are cleared. -/
def Floor.cleared (f : Floor) : Floor :=
  { f with holder := none, grant := none, turnCount := 0, keyedMs := 0, startWait := none,
           hang := none, rejoin := none, keyDown := 0, timeWarned := false, setupPlaced := false }

/-- R59 steps 1 to 6. Step 7 is the caller's. -/
def endTurnCore (cause : EndCause) (detail : EndDetail) (s : State) : State :=
  let s := unkey s
  let s := closeSetup cause s
  let s := raiseEnd cause detail s
  s.withFloor s.floor.cleared

/-! ### Serving the queue (R44 to R47, R64) -/

/-- R64: the floor enters IDENT, placing a STANDBY where the rule calls for one. -/
def enterIdent (s : State) : State :=
  let s := s.withFloor { s.floor with identAsked := false }
  let s :=
    if s.station.ampPresent && !standbyOutstanding s
        && (s.bus.believed.amp != some .standby
            || s.bus.inFlight.any (fun t => t.message == .operate)) then
      placeFloorTxn .standby .standby s
    else s
  setFloorState .ident s

/-- R98, R101, R112: the counters, the saturation flag, the criteria set and the warned flag of a
seat that becomes the holder are cleared. -/
def beginTurnFigures (seat : SeatNo) (s : State) : State :=
  let s := modSeat seat
    (fun r => { r with counters := Counters.zero, saturated := false, criteria := Criteria.empty,
                       warned := false }) s
  s.withWatch { s.watch with criteria := Criteria.empty, warned := false }

/-- R46, R113: the head becomes the holder under a grant. -/
def makeHolder (e : Entry) (g : Grant) (s : State) : State :=
  let s := removeEntry e.seat s
  let s := s.withFloor { s.floor with
    holder := some ⟨e.seat, e.member⟩, grant := some g, turnCount := 1, keyedMs := 0, keyDown := 0,
    timeWarned := false, setupPlaced := false }
  let s := beginTurnFigures e.seat s
  let s := s.withIdent { s.ident with lastMode := some g.mode }
  let s := raise e.seat (.grant 1 g) s
  setFloorState .setting s

/-- R45 steps 3 and 4, over the entries still to consider. -/
def serveEntries : List Entry → State → State
  | [], s => setFloorState .idle s
  | e :: rest, s =>
    match computeGrant (grantInputs s e.member) e.req with
    | .refusal r => serveEntries rest (endEntry .refusedAtGrant (.refusal r) e s)
    | .short _ _ => setFloorState .resting s
    | .grant _ _ g => makeHolder e g s

/-- R45: a serving point. -/
def serve (s : State) : State :=
  if s.mode ≠ .serving ∨ s.pins.txInhibit then setFloorState .idle s
  else if s.ident.pending then enterIdent s
  else serveEntries s.queue s

/-- R44: the floor enters IDLE, which is a serving point. -/
def enterIdle (s : State) : State := serve (setFloorState .idle s)

/-- R44: a queue change is a serving point in IDLE and RESTING. -/
def queueChanged (s : State) : State :=
  if s.floor.state = .idle ∨ s.floor.state = .resting then serve s else s

/-- R59: a turn ends and the floor goes to IDLE. -/
def endTurn (cause : EndCause) (detail : EndDetail) (s : State) : State :=
  enterIdle (endTurnCore cause detail s)

/-- R55, R56: a turn ends RELEASED with an ID pending, and the floor goes to IDENT. -/
def endTurnToIdent (s : State) : State := enterIdent (endTurnCore .released .none s)

/-! ### Detachment (R11, R62) -/

/-- R62: the floor acts on a detachment of a seat. -/
def floorDetached (seat : SeatNo) (cause : EndCause) (s : State) : State :=
  let s := if holderSeat s = some seat then endTurn cause .none s else s
  match s.queue.find? (fun e => e.seat == seat) with
  | some e => queueChanged (endEntry cause .none e s)
  | none => s

/-- R11: a seat is detached; a VACANT seat is left alone. -/
def detachSeat (seat : SeatNo) (cause : SeatCause) (s : State) : State :=
  match attachedMember s seat with
  | none => s
  | some m =>
    let s := modSeat seat
      (fun r => { r with attachment := none, notices := [⟨.seat cause m, s.stamp⟩] }) s
    let s := modMember m (fun r => { r with attached := none }) s
    floorDetached seat cause.endCause s

/-! ### Equipment (R63) -/

/-- R63: an EQUIPMENT report ends an ON_AIR turn and nothing else. -/
def equipmentReport (d : EquipDetail) (s : State) : State :=
  if s.floor.state = .onAir then endTurn .equipment (.equipment d) s else s

/-- R136, R139: the amplifier goes out of service. -/
def ampOutOfService (s : State) : State := s.withKeying { s.keying with ampInService := false }

end Sys2Proof.Machine
end

