-- ==== Sys2Proof/Machine/Operands.lean ====
section
/-! DEFINITION. The fields of orders, audio cells and bus cells, read from the exchange memory by the
layouts of R172, R174 and R176. -/

namespace Sys2Proof.Machine

/-! ### Orders (R172) -/

/-- The kind of the order in a seat's cell. -/
def orderKind (s : State) (seat : SeatNo) : Byte := cellByte s (.order seat) 0

/-- The tag of the order in a seat's cell. -/
def orderTag (s : State) (seat : SeatNo) : BitVec 16 :=
  BitVec.ofNat 16 (fromLE (cellBytes s (.order seat) 2 2))

/-- A byte of an order's body, at its offset in the cell. -/
def bodyByte (s : State) (seat : SeatNo) (offset : Nat) : Byte := cellByte s (.order seat) offset

/-- A 16-bit field of an order's body. -/
def body16 (s : State) (seat : SeatNo) (offset : Nat) : Nat :=
  fromLE (cellBytes s (.order seat) offset 2)

/-- A 32-bit field of an order's body. -/
def body32 (s : State) (seat : SeatNo) (offset : Nat) : Nat :=
  fromLE (cellBytes s (.order seat) offset 4)

/-- A member number in range, 0 to 47. -/
def memberNo (b : Byte) : Option MemberNo :=
  if h : b.toNat < 48 then some ⟨b.toNat, h⟩ else none

/-- A slot number in range, 0 to 31. -/
def slotNo (b : Byte) : Option SlotNo :=
  if h : b.toNat < 32 then some ⟨b.toNat, h⟩ else none

/-- R5, R181: callsigns hold A to Z, 0 to 9 or "/", by their ASCII codes (log 45, PRESUMED). -/
def callsignChar (b : Byte) : Bool :=
  decide (0x41 ≤ b.toNat ∧ b.toNat ≤ 0x5A) || decide (0x30 ≤ b.toNat ∧ b.toNat ≤ 0x39)
    || b == 0x2F

/-- R5, R181: a callsign of 3 to 10 characters, given as a length and ten bytes. -/
def parseCallsign (length : Byte) (chars : List Byte) : Option (List Byte) :=
  let callsign := chars.take length.toNat
  if 3 ≤ length.toNat ∧ length.toNat ≤ 10 ∧ callsign.all callsignChar then some callsign else none

/-- R23: the request fields of CHECK and REQUEST; `none` is BAD_FIELD. -/
def parseRequest (s : State) (seat : SeatNo) : Option Request :=
  match modeOfCode (bodyByte s seat 8).toNat with
  | none => none
  | some mode =>
    if body32 s seat 4 = 0 then none else some ⟨body32 s seat 4, mode, body16 s seat 9⟩

/-- An access code of all zeros (R5, R15). -/
def zeroCode (code : List Byte) : Bool := code.all (· == 0)

/-! ### MEMBER_WRITE and BAND_WRITE -/

/-- R5: the fields of a MEMBER_WRITE that pass the field checks. -/
structure MemberFields where
  state     : MemberState
  grade     : Nat
  priority  : Bool
  ceiling   : Nat
  allowance : Nat
  callsign  : List Byte
  code      : List Byte
  deriving DecidableEq, Repr

/-- R5: the record fields of a MEMBER_WRITE, before clamping; `none` where R5 refuses a field (but
for the member number and the zero code, which need the table). -/
def parseMember (s : State) (seat : SeatNo) : Option MemberFields :=
  let grade := (bodyByte s seat 6).toNat
  let prio := (bodyByte s seat 7).toNat
  let state : Option MemberState :=
    match (bodyByte s seat 5).toNat with | 1 => some .active | 2 => some .suspended | _ => none
  match state, parseCallsign (bodyByte s seat 12) (cellBytes s (.order seat) 13 10) with
  | some st, some cs =>
    if 1 ≤ grade ∧ grade ≤ 4 ∧ prio ≤ 1 then
      some { state := st, grade := grade, priority := prio == 1, ceiling := body16 s seat 8,
             allowance := body16 s seat 10, callsign := cs,
             code := cellBytes s (.order seat) 23 8 }
    else none
  | _, _ => none

/-- R19: the fields of a BAND_WRITE as written: bytes 1 to 18 of a band image entry, from byte 5 of
the order cell. -/
structure BandFields where
  minGrade : Nat
  modes    : Byte
  port     : Nat
  amp      : Nat
  low      : Nat
  high     : Nat
  ceiling  : Nat
  deriving DecidableEq, Repr

/-- R19, R172, R176: the segment fields of a BAND_WRITE. -/
def parseBand (s : State) (seat : SeatNo) : BandFields :=
  { minGrade := (bodyByte s seat 5).toNat, modes := bodyByte s seat 6,
    port := (bodyByte s seat 7).toNat, amp := (bodyByte s seat 8).toNat,
    low := body32 s seat 9, high := body32 s seat 13, ceiling := body16 s seat 17 }

/-! ### The station record (R176, R181) -/

/-- R181: the nearest of the five pitches, the lower of two equally near. -/
def nearestPitch (n : Nat) : Nat :=
  if n ≤ 550 then 500 else if n ≤ 650 then 600 else if n ≤ 750 then 700
  else if n ≤ 900 then 800 else 1000

/-- R180, R181: the record with every numeric field taken into its range. -/
def StationRecord.clamped (r : StationRecord) : StationRecord :=
  let keyLimit := clampTo 30 600 r.keyLimit
  { r with
    cst := clampTo 1 1500 r.cst, cb := clampTo 1 200 r.cb, guard := clampTo 0 2000 r.guard,
    keyLimit := keyLimit, minGrant := min (clampTo 5 60 r.minGrant) keyLimit,
    hangTime := clampTo 0 10 r.hangTime, turnLimit := clampTo 1 8 r.turnLimit,
    startWait := clampTo 1 30 r.startWait, threshold := clampTo 1 12 r.threshold,
    trimMargin := clampTo 2 8 r.trimMargin, starveLimit := clampTo 1 50 r.starveLimit,
    disorderLimit := clampTo 1 50 r.disorderLimit,
    rejoin := clampTo 0 5000 (r.rejoin / 100 * 100), presence := clampTo 5 120 r.presence,
    lead := clampTo 0 100 r.lead, idInterval := clampTo 1 30 r.idInterval,
    closing := clampTo 10 120 r.closing, grace := clampTo 0 300 r.grace,
    idSpeed := clampTo 10 30 r.idSpeed, pitch := nearestPitch r.pitch,
    qmax := clampTo 1000 4000000 r.qmax, cool := clampTo 0 1500 r.cool,
    tuneCeiling := clampTo 5 100 r.tuneCeiling, tuneLimit := clampTo 5 30 r.tuneLimit,
    swrLimit := clampTo 15 50 r.swrLimit, ownAddress := clampTo 1 63 r.ownAddress,
    radioAddress := clampTo 1 63 r.radioAddress, antennaAddress := clampTo 1 63 r.antennaAddress,
    ampAddress := clampTo 1 63 r.ampAddress, panelAddress := clampTo 1 63 r.panelAddress }

/-- The numeric fields of a station record, in the order of R176. -/
def StationRecord.numbers (r : StationRecord) : List Nat :=
  [r.cst, r.cb, r.guard, r.keyLimit, r.minGrant, r.hangTime, r.turnLimit, r.startWait, r.threshold,
   r.trimMargin, r.starveLimit, r.disorderLimit, r.rejoin, r.presence, r.lead, r.idInterval,
   r.closing, r.grace, r.idSpeed, r.pitch, r.qmax, r.cool, r.tuneCeiling, r.tuneLimit, r.swrLimit,
   r.ownAddress, r.radioAddress, r.antennaAddress, r.ampAddress, r.panelAddress]

/-- How many places two lists of numbers differ in. -/
def differences : List Nat → List Nat → Nat
  | a :: as, b :: bs => (if a = b then 0 else 1) + differences as bs
  | _, _ => 0

/-- R181: each field that had to be changed counts once. -/
def StationRecord.clampCount (r : StationRecord) : Nat :=
  differences r.numbers r.clamped.numbers

/-- R171, R181: the criteria bits of a byte; other bits are ignored. -/
def criteriaOfByte (b : Byte) : Criteria := ⟨b.getLsbD 0, b.getLsbD 1, b.getLsbD 2⟩

/-- R176, R181: the station record a STATION_WRITE carries from byte 4 on, before clamping; `none`
when its callsign is refused. -/
def parseStation (s : State) (seat : SeatNo) : Option StationRecord :=
  let byte (o : Nat) : Nat := (bodyByte s seat (4 + o)).toNat
  let word (o : Nat) : Nat := body16 s seat (4 + o)
  let flags := bodyByte s seat (4 + 39)
  (parseCallsign (bodyByte s seat 4) (cellBytes s (.order seat) 5 10)).map fun callsign =>
    { callsign := callsign, cst := word 12, cb := word 14, guard := word 16, keyLimit := word 18,
      minGrant := word 20, hangTime := byte 22, turnLimit := byte 23, startWait := byte 24,
      threshold := byte 25, trimMargin := byte 26, starveLimit := byte 27,
      disorderLimit := byte 28, criteria := criteriaOfByte (bodyByte s seat (4 + 29)),
      rejoin := word 30, presence := byte 32, lead := byte 33, idInterval := byte 34,
      closing := byte 35, grace := word 36, idSpeed := byte 38, pulsedTune := flags.getLsbD 0,
      wrap := flags.getLsbD 1, ampPresent := flags.getLsbD 2, pollEnable := flags.getLsbD 3,
      pitch := word 40, qmax := body32 s seat (4 + 42), cool := word 46, tuneCeiling := byte 48,
      tuneLimit := byte 49, swrLimit := byte 50, ownAddress := byte 51, radioAddress := byte 52,
      antennaAddress := byte 53, ampAddress := byte 54, panelAddress := byte 55 }

/-! ### Audio cells (R82, R85, R174) -/

/-- A frame as an audio cell carries it. -/
structure AudioFrame where
  /-- VOICE 1, CW 2; any other value matches no granted mode. -/
  kind  : Byte
  count : Nat
  seq   : BitVec 16
  deriving DecidableEq, Repr

/-- The head of the frame in an audio cell. -/
def audioHead (s : State) (c : CellRef) : AudioFrame :=
  { kind := cellByte s c 0, count := (cellByte s c 1).toNat,
    seq := BitVec.ofNat 16 (fromLE (cellBytes s c 2 2)) }

/-- `n` 16-bit samples from a byte list. -/
def samplesOf : List Byte → List (BitVec 16)
  | lo :: hi :: rest => BitVec.ofNat 16 (fromLE [lo, hi]) :: samplesOf rest
  | _ => []

/-- R85, R174: key transitions from a byte list; an offset above 19 is taken as 19, and any key state
other than 1 is up. -/
def transitionsOf : List Byte → List Transition
  | offset :: key :: rest => ⟨min offset.toNat 19, key == 1⟩ :: transitionsOf rest
  | _ => []

/-- R84, R85: the payload of a stream frame. -/
def audioPayload (s : State) (c : CellRef) : Payload :=
  if cellByte s c 0 = 2 then
    .cw (transitionsOf (cellBytes s c 16 (2 * min (cellByte s c 1).toNat 16)))
  else .voice (samplesOf (cellBytes s c 16 320))

/-! ### Bus cells (R156, R174) -/

/-- A bus cell's fields as written. -/
structure BusFields where
  direction : Nat
  address   : Nat
  length    : Nat
  deriving DecidableEq, Repr

/-- The fields of a bus cell. -/
def busFields (s : State) (n : BusCellNo) : BusFields :=
  { direction := (cellByte s (.bus n) 0).toNat, address := (cellByte s (.bus n) 1).toNat,
    length := (cellByte s (.bus n) 2).toNat }

end Sys2Proof.Machine
end

