-- ==== Sys2Proof/Machine/Audio.lean ====
section
/-! DEFINITION. The link watch, the playout queue, the keying unit's key request and what each sets
going (R53, R82 to R112, R130, R131, R136). -/

namespace Sys2Proof.Machine

/-! ### Seat stream counters (R97, R99) -/

/-- R97: the counters by name. -/
inductive CounterName where
  | taken | late | early | duplicate | underflow | trimmed | resync | refused
  deriving DecidableEq, Repr

/-- A counter's figure. -/
def Counters.get (c : Counters) : CounterName → Nat
  | .taken => c.taken | .late => c.late | .early => c.early | .duplicate => c.duplicate
  | .underflow => c.underflow | .trimmed => c.trimmed | .resync => c.resync
  | .refused => c.refused

/-- The counters with one figure replaced. -/
def Counters.set (c : Counters) (n : CounterName) (v : Nat) : Counters :=
  match n with
  | .taken => { c with taken := v } | .late => { c with late := v }
  | .early => { c with early := v } | .duplicate => { c with duplicate := v }
  | .underflow => { c with underflow := v } | .trimmed => { c with trimmed := v }
  | .resync => { c with resync := v } | .refused => { c with refused := v }

/-- R99: a counter is raised by 1; at 65535 it stays and sets the saturation flag (SATURATE), or goes
to 0 (WRAP). -/
def Seat.count (wrap : Bool) (n : CounterName) (r : Seat) : Seat :=
  if r.counters.get n < 65535 then
    { r with counters := r.counters.set n (r.counters.get n + 1) }
  else if wrap then { r with counters := r.counters.set n 0 }
  else { r with counters := r.counters.set n 65535, saturated := true }

/-- R97: a seat's counter is raised. -/
def raiseCounter (seat : SeatNo) (n : CounterName) (s : State) : State :=
  modSeat seat (Seat.count s.station.wrap n) s

/-- R97: a counter of the holder's seat is raised. -/
def raiseHolderCounter (n : CounterName) (s : State) : State :=
  match holderSeat s with
  | some seat => raiseCounter seat n s
  | none => s

/-! ### The link watch (R101 to R109) -/

/-- R101: the link criteria by name. -/
inductive Criterion where
  | starve | disorder | resync
  deriving DecidableEq, Repr

/-- Whether a criterion is in a set. -/
def Criteria.has (c : Criteria) : Criterion → Bool
  | .starve => c.starve | .disorder => c.disorder | .resync => c.resync

/-- A set with a criterion added. -/
def Criteria.add (c : Criteria) : Criterion → Criteria
  | .starve => { c with starve := true }
  | .disorder => { c with disorder := true }
  | .resync => { c with resync := true }

/-- R53: a stall: the station is unkeyed, and the floor enters STALLED or, at a rejoin window of 0,
the turn ends LINK. -/
def stall (s : State) : State :=
  let s := unkey s
  if s.station.rejoin = 0 then endTurn .link (.criteria s.watch.criteria) s
  else setFloorState .stalled (s.withFloor { s.floor with rejoin := some s.station.rejoin })

/-- R107, R109, R112: a criterion is added to the criteria set and to the holder's board. -/
def addCriterion (c : Criterion) (s : State) : State :=
  let s := s.withWatch { s.watch with criteria := s.watch.criteria.add c }
  match holderSeat s with
  | some seat => modSeat seat (fun r => { r with criteria := s.watch.criteria }) s
  | none => s

/-- R104 to R109: an enabled criterion is met: while watching it stalls the turn, while recording it
is added to the set alone. -/
def criterionMet (c : Criterion) (s : State) : State :=
  if s.station.criteria.has c then
    if watching s then stall (restartWindow (addCriterion c s))
    else if recording s then addCriterion c s
    else s
  else s

/-- R104, R109: a late, early or duplicate frame reaches the watch. -/
def disorderSeen (s : State) : State :=
  if watching s || recording s then
    let old := s.watch.disorder
    let s := s.withWatch { s.watch with disorder := min 50 (old + 1) }
    if old < s.station.disorderLimit ∧ s.watch.disorder = s.station.disorderLimit then
      criterionMet .disorder s
    else s
  else s

/-- R103: the watch counts a playout step; the fiftieth ends the window. -/
def countStep (s : State) : State :=
  if 50 ≤ s.watch.steps + 1 then restartWindow s
  else s.withWatch { s.watch with steps := s.watch.steps + 1 }

/-- R108: the warning level. -/
def warningLevel (limit : Nat) : Nat := max 1 (limit / 2)

/-- R108: the weak-link WARN, once per turn, with the flag on the holder's board (R112). -/
def linkWarning (s : State) : State :=
  if s.station.criteria.starve && !s.watch.warned
      && s.playout.u == warningLevel s.station.starveLimit then
    let s := s.withWatch { s.watch with warned := true }
    match holderSeat s with
    | some seat =>
      raise seat (.warnLink s.playout.u s.station.starveLimit)
        (modSeat seat (fun r => { r with warned := true }) s)
    | none => s
  else s

/-! ### The playout queue (R86 to R94) -/

/-- A frame with a sequence number is held. -/
def Playout.holds (p : Playout) (seq : BitVec 16) : Bool := p.frames.any (fun f => f.seq == seq)

/-- R93: the number of frames held that run on without a gap from a sequence number, counted up to
a bound; the queue holds at most 16. -/
def depthFrom (p : Playout) : Nat → BitVec 16 → Nat
  | 0, _ => 0
  | n + 1, seq => if p.holds seq then depthFrom p n (seq + 1) + 1 else 0

/-- R93: the contiguous depth. -/
def Playout.depth (p : Playout) : Nat :=
  match p.np with
  | some np => depthFrom p 16 np
  | none => 0

/-- The queue without the frame of a sequence number. -/
def Playout.drop (p : Playout) (seq : BitVec 16) : Playout :=
  { p with frames := p.frames.filter (fun f => f.seq != seq) }

/-- R85: a transition goes before those of a greater offset, behind those of its own. -/
def insertTransition (t : Transition) : List Transition → List Transition
  | [] => [t]
  | h :: rest => if h.offset ≤ t.offset then h :: insertTransition t rest else t :: h :: rest

/-- R85: the order in which transitions take effect: by offset, then as they stand in the cell. -/
def effectOrder (ts : List Transition) : List Transition :=
  ts.foldl (fun sorted t => insertTransition t sorted) []

/-- R94: the key state after all of a step's transitions. -/
def keyAfter (key : Bool) (ts : List Transition) : Bool :=
  (ts.getLast?.map Transition.down).getD key

/-- R94: the end of the running step: transitions not yet taken have been reached, and the carried
key state is the state after them (log 31). -/
def finishStep (s : State) : State :=
  match s.playout.step with
  | .keying left =>
    s.withPlayout { s.playout with
      carriedKey := keyAfter s.playout.carriedKey left, step := .keying [] }
  | _ => s

/-- R91 steps 1 and 2: what the step plays. -/
def playFrame (np : BitVec 16) (s : State) : State :=
  match s.playout.frames.find? (fun f => f.seq == np) with
  | some f =>
    let content := match f.payload with
      | .voice samples => StepContent.samples samples
      | .cw ts => StepContent.keying (effectOrder ts)
    s.withPlayout { s.playout.drop np with u := 0, step := content }
  | none =>
    let u := if overlayInProgress s then s.playout.u else s.playout.u + 1
    raiseHolderCounter .underflow
      (s.withPlayout { s.playout with
        u := u, step := .silence,
        carriedKey := if grantIsCw s then false else s.playout.carriedKey })

/-- R93: frame np is removed unplayed and np advances. -/
def trimFrame (s : State) : State :=
  match s.playout.np with
  | some np =>
    raiseHolderCounter .trimmed
      (s.withPlayout { s.playout.drop np with np := some (np + 1), trimRun := 0 })
  | none => s

/-- R93: the stream is deep enough for the trim run to go on. -/
def deepEnough (s : State) : Bool :=
  decide (s.station.threshold + s.station.trimMargin ≤ s.playout.depth)

/-- R93: the trim test at the end of a playout step. -/
def trimTest (s : State) : State :=
  if deepEnough s then
    if 250 ≤ s.playout.trimRun + 1 then trimFrame s
    else s.withPlayout { s.playout with trimRun := s.playout.trimRun + 1 }
  else s.withPlayout { s.playout with trimRun := 0 }

/-- R103, R105, R108: what the watch makes of a playout step; `silent` says that it played silence. -/
def watchStep (silent : Bool) (s : State) : State :=
  if watching s then
    let s := countStep s
    if silent then
      let s := linkWarning s
      if s.playout.u = s.station.starveLimit then criterionMet .starve s else s
    else s
  else s

/-- R91: a playout step. -/
def playoutStep (s : State) : State :=
  match s.playout.np with
  | none => s
  | some np =>
    if stepsMade s then
      let s := finishStep s
      let silent := !s.playout.holds np
      let s := playFrame np s
      let s := s.withPlayout { s.playout with np := some (np + 1) }
      let s := trimTest s
      watchStep silent s
    else s

/-! ### The key request (R130, R131, R136) -/

/-- R126: the tune tone begins with its open phase; the pitch is that of the burst. -/
def startTuneTone (s : State) : State :=
  s.withTone { gate := true, timer := if s.station.pulsedTune then some 250 else none,
               pitch := s.station.pitch, age := 0 }

/-- R131: the entry into KEYED, with the news to each block in the order of log 7. -/
def enterKeyed (s : State) : State :=
  let s := s.withKeying { s.keying with state := .keyed, lead := none }
  let s := s.withPlayout { s.playout with u := 0, carriedKey := false, timer := some 20 }
  match s.floor.state with
  | .ident => startIdentSender s
  | .onAir =>
    if grantIsTune s then startTuneTone s
    else
      let s := maybeOverlay s
      let s := if watching s then restartWindow s else s
      playoutStep s
  | _ => s

/-- R136: the three conditions of an amplifier fault. -/
def ampFaultHolds (s : State) : Bool :=
  s.pins.ampFault && s.keying.state != .unkeyed && s.bus.believed.amp == some .operate

/-- R136: an amplifier fault is taken. Of an identification in IDENT that it unkeys the sender becomes quiet,
the record stays, and the floor stays in IDENT and asks for keying no more (log 43, DESIGN CHOICE). -/
def takeAmpFault (s : State) : State :=
  equipmentReport .ampFault (ampOutOfService (unkey s))

/-- R130: the conditions under which a key request is taken. -/
def mayKey (s : State) : Bool :=
  s.keying.state == .unkeyed && (s.floor.state == .onAir || s.floor.state == .ident)
    && s.mode == .serving && !s.pins.txInhibit

/-- R114, R130: PTT_OUT is asserted; with a lead delay of 0 the unit is KEYED at once (R131). -/
def assertPtt (s : State) : State :=
  let s := openWindow s
  if s.station.lead = 0 then s.withKeying { s.keying with state := .keyed, lead := none }
  else s.withKeying { s.keying with state := .leading, lead := some s.station.lead }

/-- R130: the floor asks the keying unit to key. A fault that is already standing is taken before the
news of KEYED (log 8). -/
def keyRequest (s : State) : State :=
  if mayKey s then
    let s := assertPtt s
    if ampFaultHolds s then takeAmpFault s
    else if s.keying.state = .keyed then enterKeyed s
    else s
  else s

/-! ### The floor's answers (R49, R51, R54) -/

/-- R51: the floor enters GRANTED. -/
def enterGranted (s : State) : State :=
  setFloorState .granted
    (s.withFloor { s.floor with startWait := some (s.station.startWait * 1000) })

/-- The floor enters ON_AIR and asks for keying (R49, R51, R54, R57). -/
def enterOnAir (s : State) : State :=
  keyRequest (setFloorState .onAir
    (s.withFloor { s.floor with startWait := none, rejoin := none }))

/-- R51, R54, R89: the start threshold is reported to the floor. -/
def startThreshold (s : State) : State :=
  match s.floor.state with
  | .granted | .stalled => enterOnAir s
  | _ => s

/-- R49, R57: the station stands at the grant's setting. -/
def setupComplete (s : State) : State :=
  if grantIsTune s then enterOnAir s else enterGranted s

/-! ### The take of an audio cell (R82 to R89) -/

/-- R83: a frame's kind matches the mode of the grant. -/
def kindMatches (kind : Byte) (mode : TxMode) : Bool :=
  match mode with
  | .cw => kind == 2
  | .tune => false
  | _ => kind == 1

/-- R83: the frame is a stream frame. -/
def streamFrame (seat : SeatNo) (f : AudioFrame) (s : State) : Bool :=
  match s.floor.grant with
  | some g =>
    holderSeat s == some seat && s.floor.state.streaming && kindMatches f.kind g.mode
      && !(f.kind == 1 && f.count != 160)
  | none => false

/-- R87: a frame is inserted and counted as taken. -/
def insertFrame (seat : SeatNo) (f : Frame) (s : State) : State :=
  raiseCounter seat .taken (s.withPlayout { s.playout with frames := s.playout.frames ++ [f] })

/-- R89: after an insertion the start threshold is reported when T frames are held. -/
def thresholdReached (s : State) : Bool := decide (s.station.threshold ≤ s.playout.frames.length)

/-- R89. -/
def reportThreshold (s : State) : State := if thresholdReached s then startThreshold s else s

/-- R88: the stream is resynced at a frame. -/
def resyncStream (seat : SeatNo) (f : Frame) (s : State) : State :=
  let s := s.withPlayout { s.playout with frames := [], np := some f.seq, earlyRun := 0 }
  raiseCounter seat .resync (insertFrame seat f s)

/-- R106: after a resync the two reports go to their owners. In ON_AIR the start threshold report is
ignored; otherwise their order is a free value (log 5). -/
def resyncReports (s : State) : State :=
  if thresholdReached s ∧ s.floor.state ≠ .onAir then
    let first := Config.resyncReportFirst s.free
    let s := s.withFree (s.free + 1)
    if first then startThreshold (criterionMet .resync s)
    else criterionMet .resync (startThreshold s)
  else criterionMet .resync s

/-- R87, R88: a stream frame is placed by its distance from np. -/
def placeFrame (seat : SeatNo) (f : Frame) (s : State) : State :=
  match s.playout.np with
  | none =>
    reportThreshold (insertFrame seat f (s.withPlayout { s.playout with np := some f.seq }))
  | some np =>
    let d := (f.seq - np).toNat
    if 32768 ≤ d then disorderSeen (raiseCounter seat .late s)
    else if 16 ≤ d then
      if 3 ≤ s.playout.earlyRun then resyncReports (resyncStream seat f s)
      else
        disorderSeen (raiseCounter seat .early
          (s.withPlayout { s.playout with earlyRun := s.playout.earlyRun + 1 }))
    else if s.playout.holds f.seq then disorderSeen (raiseCounter seat .duplicate s)
    else reportThreshold (insertFrame seat f (s.withPlayout { s.playout with earlyRun := 0 }))

/-- R82, R83: the audio path takes a seat's audio cell. -/
def takeAudioCell (seat : SeatNo) (cell : AudioCellNo) (s : State) : State :=
  let c : CellRef := .audio seat cell
  let head := audioHead s c
  let payload := audioPayload s c
  let s := renewPresence seat s
  if streamFrame seat head s then placeFrame seat ⟨head.seq, payload⟩ s
  else raiseCounter seat .refused s

end Sys2Proof.Machine
end

