-- ==== Sys2Proof/Machine/Report.lean ====
section
/-! DEFINITION. The close of an act: the timers that follow conditions, the source selector, the floor
board and the reports (R95, R116, R138, R167, R169, R170, R173). -/

namespace Sys2Proof.Machine

/-! ### Notices and answers as bytes (R173) -/

/-- R173: a notice's detail byte. -/
def NoticeBody.detail : NoticeBody → Byte
  | .floor st _ => byteOf st.code
  | .queue p => byteOf p
  | .grant n _ => byteOf n
  | .ended cause _ _ _ _ => byteOf cause.code
  | .warnTime => 0
  | .warnLink _ _ => 1
  | .ident overlay _ _ => flagByte overlay
  | .seat cause _ => byteOf cause.code
  | .panel isLocal isShut => byteOf (isLocal.toNat + 2 * isShut.toNat)

/-- R173: byte 9 of a GRANT notice. -/
def grantFlags (g : Grant) : Byte :=
  byteOf (g.mode.code + 8 * g.ampUsed.toNat + 16 * g.limit.code)

/-- R173: a notice's data, before it is filled to ten bytes. -/
def NoticeBody.data : NoticeBody → List Byte
  | .floor _ holder => [(holder.map fun n => byteOf n.val).getD 0xFF]
  | .queue _ => []
  | .grant _ g =>
    le32 g.freq ++ le16 g.power ++ le16 g.duration ++ [byteOf g.port, grantFlags g]
  | .ended _ detail held member keyedMs =>
    [detail.byte, flagByte held, byteOf member.val] ++ le16 (saturate16 (keyedMs / 1000))
  | .warnTime => le16 15
  | .warnLink u limit => [byteOf u, byteOf limit]
  | .ident _ byKey length => flagByte byKey :: le16 length
  | .seat _ member => [byteOf member.val]
  | .panel _ _ => []

/-- R173: a notice of sixteen bytes. -/
def Notice.bytes (n : Notice) : List Byte :=
  [byteOf n.body.kind, n.body.detail] ++ padTo 10 n.body.data ++ le32 n.stamp.toNat

/-- R173: the answer area of 32 bytes, zero when there is no answer. -/
def answerBytes : Option Answer → List Byte
  | some a =>
    padTo 32 (le16 a.tag.toNat ++ [a.kind, byteOf a.result.code] ++ padTo 28 a.data)
  | none => List.replicate 32 0

/-- R167: older notices first, by their age at the writing; equal stamps in the order of the kinds
(log 21). -/
def noticeBefore (now : BitVec 32) (a b : Notice) : Bool :=
  let ageA := (now - a.stamp).toNat
  let ageB := (now - b.stamp).toNat
  decide (ageB < ageA) || ageA == ageB && decide (a.body.kind ≤ b.body.kind)

/-- A notice goes before the first that is not before it. -/
def insertNotice (now : BitVec 32) (n : Notice) : List Notice → List Notice
  | [] => [n]
  | h :: rest => if noticeBefore now n h then n :: h :: rest else h :: insertNotice now n rest

/-- R167: the pending notices in the order of the report. -/
def reportOrder (now : BitVec 32) (l : List Notice) : List Notice :=
  l.foldr (fun n sorted => insertNotice now n sorted) []

/-- R173: bytes 0 to 254 of a report. -/
def reportBytes (now : BitVec 32) (r : Seat) : List Byte :=
  padTo 255
    ([byteOf r.notices.length, flagByte r.answer.isSome, 0, 0] ++ answerBytes r.answer
      ++ (reportOrder now r.notices).flatMap Notice.bytes)

/-! ### The report composer (R167) -/

/-- R167: something waits for a seat and its report cell is part-held. -/
def reportDue (s : State) (seat : SeatNo) : Bool :=
  partHeld s (.report seat)
    && (s.seats[seat].answer.isSome || !s.seats[seat].notices.isEmpty)

/-- R167 steps 1 to 5: a report is written. -/
def writeReport (seat : SeatNo) (s : State) : State :=
  let r := s.seats[seat]
  let s := writeCell (.report seat) 0 (reportBytes s.stamp r) s
  let s := modSeat seat (fun r => { r with notices := [], answer := none }) s
  let s := writeHandover (.report seat) 0 s
  let s := if r.answer.isSome then writeHandover (.order seat) 0 s else s
  setSummary seat.val s

/-- R167: a report is written for a seat when it is due. -/
def composeReport (seat : SeatNo) (s : State) : State :=
  if reportDue s seat then writeReport seat s else s

/-- R167: the reports due at the close of an act. -/
def composeReports (s : State) : State :=
  (List.finRange 12).foldl (fun s seat => composeReport seat s) s

/-! ### The device page (R169, R170) -/

/-- R169: what the floor board shows. -/
structure FloorBoard where
  state     : FloorState
  holder    : Option Holder
  grant     : Option Grant
  turnCount : Nat
  queue     : List Entry
  inhibit   : Bool
  ampOut    : Bool
  window    : Bool
  pending   : Bool
  believed  : Believed
  mode      : ServiceMode
  deriving DecidableEq, Repr

/-- R169: the floor board of a state. -/
def floorBoard (s : State) : FloorBoard :=
  { state := s.floor.state, holder := s.floor.holder, grant := s.floor.grant,
    turnCount := s.floor.turnCount, queue := s.queue, inhibit := s.pins.txInhibit,
    ampOut := !s.keying.ampInService, window := s.ident.window, pending := s.ident.pending,
    believed := s.bus.believed, mode := s.mode }

/-- R169, R170: the floor board is rewritten. -/
def rewriteBoard (s : State) : State :=
  setSummary 13 (s.withPage { s.page with
    boardDue := false, updateCount := s.page.updateCount + 1, stamp := s.stamp,
    keyDownRemaining := keyDownRemaining s, idSeconds := idSeconds s })

/-- R170: the running figures are refreshed at an expiry of the duty interval. -/
def refreshFigures (s : State) : State :=
  s.withPage { s.page with
    stamp := s.stamp, q := s.duty.q, keyDownRemaining := keyDownRemaining s,
    idSeconds := idSeconds s }

/-- R79, R80: Q is written at a STATION_WRITE that lowers it. -/
def refreshQ (s : State) : State :=
  s.withPage { s.page with stamp := s.stamp, q := s.duty.q }

/-- R175, R181: the station record image is a part of the page, so that its writing is a write of the
page (log 39). -/
def stampPage (s : State) : State := s.withPage { s.page with stamp := s.stamp }

/-! ### The close of an act -/

/-- R116: the closing timer starts when its three conditions first hold together, and stops when any
of them ceases; `before` is the state at the opening of the act. An act that left IDLE on its way and came
back has a change of floor state behind it (`boardDue`), and starts the timer again from its full length. -/
def settleClosing (before s : State) : State :=
  if closingRuns s then
    if closingRuns before ∧ s.page.boardDue = false then s
    else s.withIdent { s.ident with closing := some (s.station.closing * 1000) }
  else s.withIdent { s.ident with closing := none }

/-- R138, R140: the poll timer starts when its four conditions first hold together; when one of them
ceases it stops, and a waiting query is withdrawn. The failure count is set to 0 at both. -/
def settlePoll (s : State) : State :=
  if pollRuns s then
    if s.keying.poll.isSome then s
    else s.withKeying { s.keying with poll := some 1000, failures := 0 }
  else if s.keying.poll.isSome then
    withdrawPoll (s.withKeying { s.keying with poll := none, failures := 0 })
  else s

/-- R95: the source selector and the requested key state follow the situation. -/
def settleLines (s : State) : State :=
  (s.withSource (selectSource s)).withKeying { s.keying with requestedKey := selectKey s }

/-- R70, R128, R135, R155, R169, R177: the floor board is rewritten when the act changed anything it
shows, a floor state that it entered and left again included (log 6). -/
def settleBoard (before s : State) : State :=
  if s.page.boardDue = false ∧ floorBoard before = floorBoard s then s else rewriteBoard s

/-- The close of an act. -/
def closeAct (before s : State) : State :=
  composeReports (settleBoard before (settleLines (settlePoll (settleClosing before s))))

end Sys2Proof.Machine
end

