-- ==== Sys2Proof/Machine/Act.lean ====
section
/-! DEFINITION. One whole act: what it does, the completion of a setup with nothing to place, which R70
has in the act that enters SETTING, and the close. The placing of a setup's items (R48) stands here with it. -/

namespace Sys2Proof.Machine

/-! ### The placing of a setup (R48) -/

/-- A list of one message when a condition holds. -/
def itemIf (c : Bool) (m : Message) : List Message := if c then [m] else []

/-- R48: the setup items of a grant against the believed setting, in their order. -/
def setupMessages (station : StationRecord) (b : Believed) (g : Grant) : List Message :=
  itemIf (station.ampPresent && !g.ampUsed && b.amp != some .standby) .standby
    ++ itemIf (b.port != some g.port) (.select g.port)
    ++ itemIf (b.freq != some g.freq || b.mode != some g.mode) (.setFreq g.freq g.mode)
    ++ itemIf (b.drive != some g.power) (.setDrive g.power)
    ++ itemIf (g.ampUsed && b.amp != some .operate) .operate

/-- R48: SETTING may place its items: it has not, and what it waits for has ended. -/
def maySetUp (s : State) : Bool :=
  s.floor.state == .setting && !s.floor.setupPlaced && !floorOutstanding s
    && !passThroughOutstanding s

/-- R48: items join the floor's section of the work list as the turn's setup. -/
def placeSetup (items : List Message) (s : State) : State :=
  let s := s.withFloor { s.floor with setupPlaced := true }
  s.withBus { s.bus with floorWork := s.bus.floorWork ++ items.map (newTxn .setup) }

/-- R48, R49: the items are placed; with none to place, setup is complete at once. -/
def setUp (s : State) : State :=
  match s.floor.grant with
  | none => s
  | some g =>
    if maySetUp s then
      let items := setupMessages s.station s.bus.believed g
      let s := placeSetup items s
      if items.isEmpty then setupComplete s else s
    else s

/-! ### SETTING entered and left within one act (R70) -/

/-- R48: the floor stands in SETTING for a turn or a re-key whose SETTING began in this act; `before` is the
state at the opening of the act. -/
def enteredSetting (before s : State) : Bool :=
  s.floor.state == .setting
    && (before.floor.state != .setting || before.floor.holder != s.floor.holder)

/-- R48: the station stands at the setting of the grant in force, so that the setup list is empty. -/
def nothingToPlace (s : State) : Bool :=
  s.floor.grant.any fun g => (setupMessages s.station s.bus.believed g).isEmpty

/-- R48, R49, R70: SETTING was entered in this act, waits for nothing and has an empty setup list. -/
def emptySetup (before s : State) : Bool :=
  enteredSetting before s && maySetUp s && nothingToPlace s

/-- R49, R70: setups with an empty list are complete in the act that entered SETTING. One that ends at once
(R136) hands the floor to the next entry, whose own setup may be empty too; the number bounds how often. -/
def finishSetups (before : State) : Nat → State → State
  | 0, s => s
  | n + 1, s => if emptySetup before s then finishSetups before n (setUp s) else s

/-- R48, R49, R70: at the end of what an act does, an empty setup that it entered is complete (log 44). Every
turn that ends takes an entry out of the queue. -/
def finishSetup (before s : State) : State := finishSetups before (s.queue.length + 1) s

/-! ### The act -/

/-- One whole act. While RESET_N is low the part does nothing (R141). -/
def act (f : State → State) (s : State) : State :=
  if s.pins.resetLow then s else closeAct s (finishSetup s (f s))

end Sys2Proof.Machine
end

