-- ==== Sys2Proof/Machine/SeatOrders.lean ====
section
/-! DEFINITION. The order unit's take (R165) and the orders on members and seats (R4 to R17), with the
expiry of a presence deadline (R13). -/

namespace Sys2Proof.Machine

/-! ### Taking an order (R165) -/

/-- A result code with its answer data. -/
structure Reply where
  result : Result
  data   : List Byte
  deriving DecidableEq, Repr

/-- An answer with a result code alone. -/
def plain (r : Result) : Reply := ⟨r, []⟩

/-- R165: the answer goes to the seat's answer-in-waiting. -/
def placeAnswer (seat : SeatNo) (a : Answer) (s : State) : State :=
  modSeat seat (fun r => { r with answer := some a }) s

/-- R165: the order unit takes the entry at the front of the hand-over list, if its order is of the
kinds `accepts` says: the cell is read, the presence deadline renewed (R13), the order carried out
and its answer formed. -/
def takeOrder (accepts : Byte → Bool) (carryOut : SeatNo → State → State × Reply) (s : State) :
    State :=
  match s.handovers with
  | [] => s
  | seat :: rest =>
    let kind := orderKind s seat
    if accepts kind then
      let tag := orderTag s seat
      let done := carryOut seat (renewPresence seat (s.withHandovers rest))
      placeAnswer seat ⟨tag, kind, done.2.result, done.2.data⟩ done.1
    else s

/-- The take of an order of one kind, as a whole act. -/
def execOrder (kind : Nat) (carryOut : SeatNo → State → State × Reply) (s : State) :
    Host.Outcome State Fault Refusal :=
  .next (act (takeOrder (fun k => k.toNat == kind) carryOut) s)

/-- R3: an order that needs management authority. -/
def withAuthority (carryOut : SeatNo → State → State × Reply) (seat : SeatNo) (s : State) :
    State × Reply :=
  if hasAuthority s seat then carryOut seat s else (s, plain .notTrustee)

/-! ### Suspension (R4) -/

/-- R4: an attached member's seat is detached at its suspension. -/
def revoke (m : MemberNo) (s : State) : State :=
  match (memberOf s m).attached with
  | some seat => detachSeat seat .suspended s
  | none => s

/-- R4: a member's state becomes SUSPENDED, its miss count 0 (R5, R10), and its seat is detached. -/
def suspend (m : MemberNo) (s : State) : State :=
  revoke m (modMember m (fun r => { r with state := .suspended, misses := 0 }) s)

/-! ### ATTACH (R9, R10) -/

/-- R9: the answer data of an ATTACH. -/
def attachData (m : MemberNo) (r : Member) : List Byte :=
  [byteOf m.val, byteOf r.grade, flagByte r.priority] ++ le16 r.ceiling
    ++ le32 (remainingAllowance r)

/-- R10: a wrong code raises the miss count; the fourth suspends the member. The answer carries the
count after the attempt. -/
def wrongCode (m : MemberNo) (r : Member) (s : State) : State × Reply :=
  if 4 ≤ r.misses + 1 then (suspend m s, ⟨.badCode, [0]⟩)
  else
    (modMember m (fun r => { r with misses := r.misses + 1 }) s, ⟨.badCode, [byteOf (r.misses + 1)]⟩)

/-- R9: the seat becomes ATTACHED to the member. -/
def attachSeat (seat : SeatNo) (m : MemberNo) (s : State) : State :=
  modMember m (fun r => { r with attached := some seat, misses := 0 })
    (modSeat seat (fun r => { r with attachment := some ⟨m, renewedDeadline s⟩ }) s)

/-- R9: the checks of ATTACH in turn. -/
def doAttach (seat : SeatNo) (s : State) : State × Reply :=
  if (attachedMember s seat).isSome then (s, plain .inUse)
  else match memberNo (bodyByte s seat 4) with
  | none => (s, plain .badField)
  | some m =>
    match s.members[m] with
    | none => (s, plain .noMember)
    | some r =>
      if r.state = .suspended then (s, plain .suspended)
      else if cellBytes s (.order seat) 5 8 ≠ r.code then wrongCode m r s
      else if r.attached.isSome then (s, plain .inUse)
      else (attachSeat seat m s, ⟨.done, attachData m r⟩)

/-- ATTACH (R9, kind 1). -/
def execAttach (s : State) : Host.Outcome State Fault Refusal := execOrder 1 doAttach s

/-! ### DETACH and PRESENCE (R12, R14) -/

/-- R12. -/
def doDetach (seat : SeatNo) (s : State) : State × Reply :=
  if (attachedMember s seat).isSome then (detachSeat seat .detach s, plain .done)
  else (s, plain .notAttached)

/-- DETACH (R12, kind 2). -/
def execDetach (s : State) : Host.Outcome State Fault Refusal := execOrder 2 doDetach s

/-- R14: the answer carries the milliseconds to the deadline. -/
def doPresence (seat : SeatNo) (s : State) : State × Reply :=
  match s.seats[seat].attachment with
  | some a => (s, ⟨.done, le32 (a.deadline - s.stamp).toNat⟩)
  | none => (s, plain .notAttached)

/-- PRESENCE (R14, kind 3). -/
def execPresence (s : State) : Host.Outcome State Fault Refusal := execOrder 3 doPresence s

/-- R13: the stamp has come to the deadline of an ATTACHED seat. -/
def presenceDue (s : State) (seat : SeatNo) : Bool :=
  s.seats[seat].attachment.any fun a => a.deadline == s.stamp

/-- R13: the deadline expires; where a take has renewed it first, the expiry does not occur. -/
def presenceExpired (seat : SeatNo) (s : State) : State :=
  if presenceDue s seat then detachSeat seat .presence s else s

/-- PRESENCE_EXPIRY (R13): an ATTACHED seat's deadline expires. -/
def execPresenceExpiry (seat : SeatNo) (s : State) : Host.Outcome State Fault Refusal :=
  .next (act (presenceExpired seat) s)

/-! ### CHANGE_CODE (R15) -/

/-- R15: the checks in turn. -/
def doChangeCode (seat : SeatNo) (s : State) : State × Reply :=
  let code := cellBytes s (.order seat) 5 8
  match memberNo (bodyByte s seat 4) with
  | none => (s, plain .badField)
  | some m =>
    if attachedMember s seat = some m ∨ hasAuthority s seat then
      match s.members[m] with
      | none => (s, plain .noMember)
      | some _ =>
        if zeroCode code then (s, plain .badField)
        else (modMember m (fun r => { r with code := code }) s, plain .done)
    else (s, plain .notTrustee)

/-- CHANGE_CODE (R15, kind 4). -/
def execChangeCode (s : State) : Host.Outcome State Fault Refusal := execOrder 4 doChangeCode s

/-! ### MEMBER_WRITE, MEMBER_REMOVE and DAY_ROLL (R5, R7, R17) -/

/-- R5: the record a MEMBER_WRITE leaves, but for the effects of a suspension. The fields of a record
that was absent start at 0, and it is attached to no seat. -/
def writtenMember (old : Option Member) (f : MemberFields) : Member :=
  let base := old.getD Member.absent
  { state := f.state, grade := f.grade, callsign := f.callsign,
    code := if zeroCode f.code then base.code else f.code, misses := 0, priority := f.priority,
    ceiling := clampTo 1 1500 f.ceiling, allowance := min 1440 f.allowance, used := base.used,
    attached := base.attached }

/-- R5: the count of fields that were clamped. -/
def memberClampCount (f : MemberFields) : Nat :=
  (if clampTo 1 1500 f.ceiling = f.ceiling then 0 else 1)
    + (if min 1440 f.allowance = f.allowance then 0 else 1)

/-- R5: the field checks and the write. Writing SUSPENDED detaches an attached member's seat (R4). -/
def doMemberWrite (seat : SeatNo) (s : State) : State × Reply :=
  match memberNo (bodyByte s seat 4), parseMember s seat with
  | some m, some f =>
    if zeroCode f.code && s.members[m].isNone then (s, plain .badField)
    else
      let s := setMember m (some (writtenMember s.members[m] f)) s
      let s := if f.state = .suspended then revoke m s else s
      (s, ⟨.done, [byteOf m.val, byteOf (memberClampCount f)]⟩)
  | _, _ => (s, plain .badField)

/-- MEMBER_WRITE (R5, kind 5). -/
def execMemberWrite (s : State) : Host.Outcome State Fault Refusal :=
  execOrder 5 (withAuthority doMemberWrite) s

/-- R7: the checks in turn; the member is suspended, then its record is cleared. -/
def doMemberRemove (seat : SeatNo) (s : State) : State × Reply :=
  match memberNo (bodyByte s seat 4) with
  | none => (s, plain .badField)
  | some m =>
    if s.members[m].isNone then (s, plain .noMember)
    else if m = 0 ∧ s.mode = .serving then (s, plain .badField)
    else (setMember m none (suspend m s), plain .done)

/-- MEMBER_REMOVE (R7, kind 6). -/
def execMemberRemove (s : State) : Host.Outcome State Fault Refusal :=
  execOrder 6 (withAuthority doMemberRemove) s

/-- R17: the used time of every present member is set to 0. -/
def doDayRoll (_ : SeatNo) (s : State) : State × Reply :=
  (s.withMembers (s.members.map fun r => r.map fun m => { m with used := 0 }), plain .done)

/-- DAY_ROLL (R17, kind 7). -/
def execDayRoll (s : State) : Host.Outcome State Fault Refusal :=
  execOrder 7 (withAuthority doDayRoll) s

/-- UNKNOWN_ORDER (R165): an order whose kind is none of those in R172. -/
def execUnknownOrder (s : State) : Host.Outcome State Fault Refusal :=
  .next (act
    (takeOrder (fun k => decide (k.toNat = 0 ∨ 18 < k.toNat)) fun _ s => (s, plain .unknownOrder)) s)

end Sys2Proof.Machine
end

