-- ==== Sys2Proof/Machine/FloorOrders.lean ====
section
/-! DEFINITION. The floor orders REQUEST, WITHDRAW, RELEASE and FORCE_RELEASE (R41 to R43, R55 to
R58). -/

namespace Sys2Proof.Machine

/-! ### REQUEST (R41, R42, R57) -/

/-- R42, R172: the answer data of a REQUEST. -/
def requestData (position : Nat) (rekey : Bool) : List Byte := [byteOf position, flagByte rekey]

/-- R42: the entry joins; the answer gives its position at that moment. What follows is the
caller's. -/
def joinWith (e : Entry) (s : State) : State × Reply :=
  let s := joinQueue e s
  (s, ⟨.done, requestData (positionOf s e.seat) false⟩)

/-- R41 check 9, R42: a request from a seat that holds nothing. The join is a queue change. -/
def requestQueued (e : Entry) (s : State) : State × Reply :=
  match admission (grantInputs s e.member) e.req with
  | .error r => (s, plain r)
  | .ok _ =>
    let joined := joinWith e s
    (queueChanged joined.1, joined.2)

/-- R57: a re-key at the turn limit, or short of headroom: the hang ends RELEASED; then, by `judge`,
the REQUEST joins the queue or is refused, and the floor enters IDLE. -/
def endHangWith (judge : State → State × Reply) (s : State) : State × Reply :=
  let judged := judge (endTurnCore .released .none s)
  (enterIdle judged.1, judged.2)

/-- R41 check 9 as R57 uses it: stages 1 to 5, then the join without a serving point of its own. -/
def judgeAndJoin (e : Entry) (s : State) : State × Reply :=
  match admission (grantInputs s e.member) e.req with
  | .error r => (s, plain r)
  | .ok _ => joinWith e s

/-- R57: the new grant equals the one it replaces in f, mode and P. -/
def sameSetting (old : Option Grant) (g : Grant) : Bool :=
  match old with
  | some o => o.freq == g.freq && o.mode == g.mode && o.power == g.power
  | none => false

/-- R57, R113: the new grant of a re-key takes the place of the grant in force. -/
def rekeyGranted (seat : SeatNo) (g : Grant) (s : State) : State :=
  let same := sameSetting s.floor.grant g
  let count := min 255 (s.floor.turnCount + 1)
  let s := s.withFloor { s.floor with
    grant := some g, turnCount := count, hang := none, keyDown := 0, timeWarned := false,
    setupPlaced := false }
  let s := s.withIdent { s.ident with lastMode := some g.mode }
  let s := raise seat (.grant count g) s
  if same then setupComplete s else setFloorState .setting s

/-- R57: a REQUEST from the holder in HANG. -/
def rekey (h : Holder) (e : Entry) (s : State) : State × Reply :=
  if s.queue.isEmpty ∨ s.floor.turnCount < s.station.turnLimit then
    match computeGrant (grantInputs s h.member) e.req with
    | .refusal r => (s, plain r)
    | .short _ _ => endHangWith (joinWith e) s
    | .grant _ _ g => (rekeyGranted h.seat g s, ⟨.done, requestData 0 true⟩)
  else endHangWith (judgeAndJoin e) s

/-- R41: the checks in turn. -/
def doRequest (seat : SeatNo) (s : State) : State × Reply :=
  if s.mode ≠ .serving then (s, plain .notServing)
  else match attachedMember s seat with
  | none => (s, plain .notAttached)
  | some m =>
    if s.floor.state = .shut then (s, plain .shut)
    else match parseRequest s seat with
    | none => (s, plain .badField)
    | some r =>
      let flag := (bodyByte s seat 11).toNat
      if 1 < flag then (s, plain .badField)
      else if flag = 1 ∧ (memberOf s m).priority = false then (s, plain .noPrivilege)
      else if queued s seat then (s, plain .alreadyQueued)
      else
        let e : Entry := ⟨seat, m, r, flag == 1⟩
        match s.floor.holder with
        | some h =>
          if h.seat = seat then
            if s.floor.state = .hang then rekey h e s else (s, plain .alreadyQueued)
          else requestQueued e s
        | none => requestQueued e s

/-- REQUEST (R41, kind 11). -/
def execRequest (s : State) : Host.Outcome State Fault Refusal := execOrder 11 doRequest s

/-! ### WITHDRAW (R43) -/

/-- R43: the seat's own entry is removed. -/
def doWithdraw (seat : SeatNo) (s : State) : State × Reply :=
  if queued s seat then (queueChanged (removeEntry seat s), plain .done)
  else (s, plain .notQueued)

/-- WITHDRAW (R43, kind 12). -/
def execWithdraw (s : State) : Host.Outcome State Fault Refusal := execOrder 12 doWithdraw s

/-! ### RELEASE (R55) -/

/-- R55, R56: the floor enters HANG. -/
def enterHang (s : State) : State :=
  setFloorState .hang (s.withFloor { s.floor with
    hang := some (s.station.hangTime * 1000), startWait := none, rejoin := none })

/-- R55: the state the floor enters, and the floor in it. -/
def releaseFloor (s : State) : FloorState × State :=
  match s.floor.state with
  | .onAir | .stalled =>
    let s := unkey s
    if s.ident.pending then (.ident, endTurnToIdent s)
    else if s.station.hangTime = 0 then (.idle, endTurn .released .none s)
    else (.hang, enterHang s)
  | _ => (.idle, endTurn .released .none s)

/-- R55: the answer's data carry the state the floor entered and the turn's keyed time. -/
def doRelease (seat : SeatNo) (s : State) : State × Reply :=
  if holderSeat s = some seat then
    let released := releaseFloor s
    (released.2,
     ⟨.done, byteOf released.1.code :: le16 (saturate16 (s.floor.keyedMs / 1000))⟩)
  else (s, plain .notHolder)

/-- RELEASE (R55, kind 13). -/
def execRelease (s : State) : Host.Outcome State Fault Refusal := execOrder 13 doRelease s

/-! ### FORCE_RELEASE (R58) -/

/-- R58: the turn's end, the removal of the entries and the way to IDLE. -/
def forceRelease (clear : Bool) (s : State) : State :=
  let toIdle := s.floor.holder.isSome || s.floor.state == .resting
  let s := if s.floor.holder.isSome then endTurnCore .forced .none s else s
  let s := if clear then endEntries .forced s.queue s else s
  if toIdle then enterIdle s else s

/-- R58. -/
def doForceRelease (seat : SeatNo) (s : State) : State × Reply :=
  let clear := bodyByte s seat 4 != 0
  if s.floor.holder.isNone && !clear then (s, plain .notHolder)
  else
    (forceRelease clear s,
     ⟨.done, [flagByte s.floor.holder.isSome, byteOf (if clear then s.queue.length else 0)]⟩)

/-- FORCE_RELEASE (R58, kind 14). -/
def execForceRelease (s : State) : Host.Outcome State Fault Refusal :=
  execOrder 14 (withAuthority doForceRelease) s

end Sys2Proof.Machine
end

