-- ==== Sys2Proof/Machine/FloorEvents.lean ====
section
/-! DEFINITION. The floor's own events: the placing of a setup (R48, `setUp`), its timers (R51, R52, R54, R56)
and the key request of an identification (R64). A timer's expiry is the moment itself: it acts when
the timer runs, whatever time it had left (log 2); a command whose condition does not stand changes
nothing (log 1). -/

namespace Sys2Proof.Machine

/-! ### SETUP_PLACE (R48) -/

/-- SETUP_PLACE (R48): the setup of a SETTING entered in an earlier act, or entered with items to place,
which are placed in an act of their own (log 44, DESIGN CHOICE). -/
def execSetupPlace (s : State) : Host.Outcome State Fault Refusal := .next (act setUp s)

/-! ### The timers -/

/-- R51: the start-wait timer expires. -/
def startWaitExpired (s : State) : State :=
  if s.floor.state = .granted ∧ s.floor.startWait.isSome then endTurn .noAudio .none s else s

/-- START_WAIT_EXPIRY (R51). -/
def execStartWaitExpiry (s : State) : Host.Outcome State Fault Refusal :=
  .next (act startWaitExpired s)

/-- R52: the key-down timer runs out. -/
def keyDownExpired (s : State) : State :=
  match s.floor.grant with
  | some g => if s.floor.state = .onAir then endTurn .timeUp (.limit g.limit) s else s
  | none => s

/-- KEY_DOWN_EXPIRY (R52). -/
def execKeyDownExpiry (s : State) : Host.Outcome State Fault Refusal := .next (act keyDownExpired s)

/-- R52: a time warning is due: once per grant, for a duration above 15 s. -/
def timeWarningDue (s : State) : Bool :=
  s.floor.state == .onAir && !s.floor.timeWarned
    && s.floor.grant.any (fun g => decide (15 < g.duration))

/-- R52: the WARN notice of kind TIME. The command is the moment at which the key-down remaining reaches
15,000 ms, and acts whatever still remains (log 2, DESIGN CHOICE); the idle step tests the 15,000 ms
(`dueFloor`). -/
def timeWarning (s : State) : State :=
  match s.floor.holder with
  | some h =>
    if timeWarningDue s then
      raise h.seat .warnTime (s.withFloor { s.floor with timeWarned := true })
    else s
  | none => s

/-- TIME_WARNING (R52). -/
def execTimeWarning (s : State) : Host.Outcome State Fault Refusal := .next (act timeWarning s)

/-- R56: the hang timer expires. -/
def hangExpired (s : State) : State :=
  if s.floor.state = .hang ∧ s.floor.hang.isSome then endTurn .released .none s else s

/-- HANG_EXPIRY (R56). -/
def execHangExpiry (s : State) : Host.Outcome State Fault Refusal := .next (act hangExpired s)

/-- R54, R111: the rejoin timer expires. -/
def rejoinExpired (s : State) : State :=
  if s.floor.state = .stalled ∧ s.floor.rejoin.isSome then
    endTurn .link (.criteria s.watch.criteria) s
  else s

/-- REJOIN_EXPIRY (R54). -/
def execRejoinExpiry (s : State) : Host.Outcome State Fault Refusal := .next (act rejoinExpired s)

/-! ### IDENT_KEY_REQUEST (R64) -/

/-- R64: IDENT may ask for keying: it has not, and every floor transaction has ended. -/
def mayAskIdent (s : State) : Bool :=
  s.floor.state == .ident && !s.floor.identAsked && !floorOutstanding s

/-- R64: the floor asks the keying unit to key, once in an identification (log 36), in an act of its own
behind the one that entered IDENT (log 44, DESIGN CHOICE). -/
def askIdent (s : State) : State :=
  if mayAskIdent s then keyRequest (s.withFloor { s.floor with identAsked := true }) else s

/-- IDENT_KEY_REQUEST (R64). -/
def execIdentKeyRequest (s : State) : Host.Outcome State Fault Refusal := .next (act askIdent s)

end Sys2Proof.Machine
end

