-- ==== Sys2Proof/Machine/AudioEvents.lean ====
section
/-! DEFINITION. The events of the keying unit, the audio path and the link watch: the lead timer
(R131), the playout step (R90, R91), the trim (R93), the end of a disorder window (R103) and the key
transitions of a CW frame (R94). -/

namespace Sys2Proof.Machine

/-- R131: the lead timer expires in LEADING. -/
def leadExpired (s : State) : State := if s.keying.state = .leading then enterKeyed s else s

/-- LEAD_TIMER_EXPIRY (R131). -/
def execLeadTimerExpiry (s : State) : Host.Outcome State Fault Refusal := .next (act leadExpired s)

/-- R90: the playout interval expires and starts again, with a playout step. -/
def playoutExpired (s : State) : State :=
  if s.playout.timer.isSome then playoutStep (s.withPlayout { s.playout with timer := some 20 })
  else s

/-- PLAYOUT_STEP (R90, R91). -/
def execPlayoutStep (s : State) : Host.Outcome State Fault Refusal := .next (act playoutExpired s)

/-- R93: the trim run count stands one short of 250 over a stream still deep enough: the count reaches
250 and frame np goes. In a run of the part this comes about inside PLAYOUT_STEP (log 9). -/
def trimDue (s : State) : Bool :=
  stepsMade s && decide (249 ≤ s.playout.trimRun) && deepEnough s

/-- R93. -/
def trimReached (s : State) : State := if trimDue s then trimFrame s else s

/-- TRIM (R93). -/
def execTrim (s : State) : Host.Outcome State Fault Refusal := .next (act trimReached s)

/-- R103: the window step count stands one short of 50: it reaches 50 and both counts restart. In a
run of the part this comes about inside PLAYOUT_STEP (log 9). -/
def windowEnd (s : State) : State :=
  if watching s && decide (49 ≤ s.watch.steps) then restartWindow s else s

/-- DISORDER_WINDOW_END (R103). -/
def execDisorderWindowEnd (s : State) : Host.Outcome State Fault Refusal := .next (act windowEnd s)

/-- R94: the offset of the next transition is reached. -/
def cwTransition (s : State) : State :=
  if s.keying.state = .keyed then
    match s.playout.step with
    | .keying (t :: rest) =>
      s.withPlayout { s.playout with carriedKey := t.down, step := .keying rest }
    | _ => s
  else s

/-- CW_KEY_TRANSITION (R94). -/
def execCwKeyTransition (s : State) : Host.Outcome State Fault Refusal := .next (act cwTransition s)

end Sys2Proof.Machine
end

