-- ==== Sys2Proof/Machine/IdentEvents.lean ====
section
/-! DEFINITION. The events of the identification unit and the tone generator (R115 to R126). -/

namespace Sys2Proof.Machine

/-! ### An identification falls due (R115 to R117, R121) -/

/-- R121: overdue becomes yes, and an overlay begins where it may. -/
def becomeOverdue (s : State) : State :=
  maybeOverlay (s.withIdent { s.ident with overdue := true, grace := none })

/-- R117: the floor acts on the ID-pending report. -/
def idPendingReport (s : State) : State :=
  match s.floor.state with
  | .idle => serve s
  | .resting => serve s
  | .hang => endTurnToIdent s
  | _ => s

/-- R117, R121: pending becomes yes, unless it is: the grace timer starts, and a grace of 0 sets overdue
in the same act. -/
def becomePending (s : State) : State :=
  if s.ident.pending then s
  else
    let s := s.withIdent { s.ident with pending := true }
    let s :=
      if s.station.grace = 0 then becomeOverdue s
      else s.withIdent { s.ident with grace := some (s.station.grace * 1000) }
    idPendingReport s

/-- R115: the periodic timer expires and stays stopped. -/
def periodicExpired (s : State) : State :=
  if s.ident.periodic.isSome then becomePending (s.withIdent { s.ident with periodic := none }) else s

/-- PERIODIC_ID_EXPIRY (R115). -/
def execPeriodicIdExpiry (s : State) : Host.Outcome State Fault Refusal :=
  .next (act periodicExpired s)

/-- R116: the closing timer expires and is stopped. -/
def closingExpired (s : State) : State :=
  if s.ident.closing.isSome then becomePending (s.withIdent { s.ident with closing := none }) else s

/-- CLOSING_EXPIRY (R116). -/
def execClosingExpiry (s : State) : Host.Outcome State Fault Refusal := .next (act closingExpired s)

/-- R121: the grace timer expires. -/
def graceExpired (s : State) : State := if s.ident.grace.isSome then becomeOverdue s else s

/-- GRACE_EXPIRY (R121). -/
def execGraceExpiry (s : State) : Host.Outcome State Fault Refusal := .next (act graceExpired s)

/-! ### Completions (R119, R122) -/

/-- R119: the four steps of a completion in IDENT, and the floor's answer (R64). -/
def identDone (snd : Sender) (s : State) : State :=
  let s := closeWindow (quietSender s)
  let s := raiseIdentNotice snd s
  enterIdle (unkey s)

/-- R119: the sending in IDENT is complete. -/
def idComplete (s : State) : State :=
  match s.ident.sender with
  | some snd => if s.floor.state = .ident ∧ snd.overlay = false then identDone snd s else s
  | none => s

/-- ID_COMPLETE (R119). -/
def execIdComplete (s : State) : Host.Outcome State Fault Refusal := .next (act idComplete s)

/-- R122: the steps of an overlay's completion; the watch returns to watching with its window
restarted (R103). -/
def overlayDone (snd : Sender) (s : State) : State :=
  let s := openWindow (closeWindow (quietSender s))
  let s := raiseIdentNotice snd s
  if watching s then restartWindow s else s

/-- R122: the overlay is complete. -/
def overlayComplete (s : State) : State :=
  match s.ident.sender with
  | some snd => if snd.overlay then overlayDone snd s else s
  | none => s

/-- OVERLAY_COMPLETE (R122). -/
def execOverlayComplete (s : State) : Host.Outcome State Fault Refusal :=
  .next (act overlayComplete s)

/-! ### MORSE_ELEMENT_END (R119, R124) -/

/-- R119, R124: the running element or gap ends and the next begins at once; at the end of the last
the sending is complete (log 10). -/
def elementEnd (s : State) : State :=
  match s.ident.sender with
  | some snd =>
    match snd.elements with
    | _ :: next :: rest =>
      s.withIdent { s.ident with
        sender := some { snd with elements := next :: rest, left := next.dots * snd.dot } }
    | _ => if snd.overlay then overlayComplete s else idComplete s
  | none => s

/-- MORSE_ELEMENT_END (R124). -/
def execMorseElementEnd (s : State) : Host.Outcome State Fault Refusal := .next (act elementEnd s)

/-! ### TUNE_GATE_TOGGLE (R126) -/

/-- R126: a 250 ms phase of a pulsed tune-up ends. -/
def toggleGate (s : State) : State :=
  if s.tone.timer.isSome then
    s.withTone { s.tone with gate := !s.tone.gate, timer := some 250, age := 0 }
  else s

/-- TUNE_GATE_TOGGLE (R126). -/
def execTuneGateToggle (s : State) : Host.Outcome State Fault Refusal := .next (act toggleGate s)

end Sys2Proof.Machine
end

