-- ==== Sys2Proof/Machine/KeyedTime.lean ====
section
/-! DEFINITION. The keyed millisecond and the duty interval (R16, R52, R72 to R77). -/

namespace Sys2Proof.Machine

/-! ### KEYED_MILLISECOND (R16, R52, R73, R74) -/

/-- R16: the used time stops at 86,400,000 ms. -/
def usedLimit : Nat := 86400000

/-- R16: one millisecond of used time. -/
def Member.useMs (r : Member) : Member := { r with used := min usedLimit (r.used + 1) }

/-- R74: the power of an identification: the lesser of the believed drive and Cb, Cb when the drive is
unknown. -/
def identPower (s : State) : Nat :=
  match s.bus.believed.drive with
  | some d => min d s.station.cb
  | none => s.station.cb

/-- R74: the effective power of a counted millisecond. -/
def effectivePower (s : State) : Nat :=
  match s.floor.grant with
  | some g => g.power
  | none => identPower s

/-- R73: an asserted millisecond is counted, unless a pulsed tune-up has its gate closed. -/
def countedMs (s : State) : Bool :=
  !(grantIsTune s && s.station.pulsedTune && !s.tone.gate)

/-- R72 to R74: the interval tally takes a counted millisecond; an interval counts at most 1,000
(log 27). -/
def tallyMs (s : State) : State :=
  if countedMs s && decide (s.duty.tOn < 1000) then
    s.withDuty { s.duty with
      tOn := s.duty.tOn + 1, energy := s.duty.energy + effectivePower s }
  else s

/-- R37, R52: the key-down timer and the turn's keyed time count a millisecond under the grant; the
key-down count stops at D × 1000 (log 27). -/
def turnMs (s : State) : State :=
  match s.floor.grant with
  | some g =>
    s.withFloor { s.floor with
      keyDown := min (g.duration * 1000) (s.floor.keyDown + 1), keyedMs := s.floor.keyedMs + 1 }
  | none => s

/-- R16: the holder's member uses a millisecond. -/
def useMs (s : State) : State :=
  match s.floor.holder with
  | some h => modMember h.member Member.useMs s
  | none => s

/-- A millisecond throughout which PTT_OUT is asserted. -/
def keyedMs (s : State) : State :=
  if s.keying.state = .unkeyed then s else useMs (turnMs (tallyMs s))

/-- KEYED_MILLISECOND (R16, R52, R73). -/
def execKeyedMillisecond (s : State) : Host.Outcome State Fault Refusal := .next (act keyedMs s)

/-! ### DUTY_INTERVAL_EXPIRY (R75 to R77, R80) -/

/-- R75 step 1: the energy of the interval in watt-seconds. -/
def intervalEnergy (s : State) : Nat := s.duty.energy / 1000

/-- R75 step 2: the raw sum. -/
def rawSum (s : State) : Int := (s.duty.q : Int) + intervalEnergy s - s.station.cool

/-- R75 step 3: the raw sum clamped into 0 to Qmax. -/
def clampedHeat (s : State) : Nat := min s.station.qmax (rawSum s).toNat

/-- R75, R76: the raw sum exceeds Qmax. -/
def dutyExcess (s : State) : Bool := decide ((s.station.qmax : Int) < rawSum s)

/-- R72, R75: the new Q, and the interval that begins. -/
def updateHeat (s : State) : State :=
  s.withDuty { q := clampedHeat s, tOn := 0, energy := 0, timer := 1000 }

/-- R76, R77: what the floor makes of an expiry. -/
def dutyReport (excess : Bool) (s : State) : State :=
  match s.floor.state with
  | .onAir => if excess then endTurn .duty .none s else s
  | .stalled => if excess then endTurn .duty .none s else s
  | .resting => serve s
  | _ => s

/-- R75 to R77, R80: an expiry of the duty interval. -/
def dutyExpired (s : State) : State :=
  refreshFigures (dutyReport (dutyExcess s) (updateHeat s))

/-- DUTY_INTERVAL_EXPIRY (R75). -/
def execDutyIntervalExpiry (s : State) : Host.Outcome State Fault Refusal :=
  .next (act dutyExpired s)

end Sys2Proof.Machine
end

