-- ==== Sys2Proof/Machine/Layout.lean ====
section
/-! DEFINITION. What the host reads through the exchange port: the device page, the images, the seat
boards, the cells and the registers (R159, R160, R163, R175, R176). -/

namespace Sys2Proof.Machine

/-- R160, R163: where the register window begins. -/
def registerBase : Nat := 0x7FF8

/-- R176: a member image entry. The code reads as zero. Bytes 10 to 19 show the callsign's characters and
00h behind them (log 41, DESIGN CHOICE). -/
def memberImage : Option Member → List Byte
  | none => padTo 32 (List.replicate 8 0 ++ [0xFF])
  | some m =>
    padTo 32
      ([byteOf m.state.code, byteOf m.grade, flagByte m.priority, byteOf m.misses]
        ++ le16 m.ceiling ++ le16 m.allowance
        ++ [(m.attached.map fun n => byteOf n.val).getD 0xFF, byteOf m.callsign.length]
        ++ padTo 10 m.callsign ++ le32 (m.used / 1000))

/-- R176: a band image entry; an empty slot reads as zero. The bytes the layout does not name show 00h
(log 41, DESIGN CHOICE). -/
def bandImage : Option Segment → List Byte
  | none => List.replicate 32 0
  | some g =>
    padTo 32
      ([1, byteOf g.minGrade, g.modes, byteOf g.port, flagByte g.amp] ++ le32 g.low ++ le32 g.high
        ++ le16 g.ceiling)

/-- R100, R176: a seat board. The bytes the layout does not name show 00h (log 41, DESIGN CHOICE). -/
def seatBoard (s : State) (seat : SeatNo) : List Byte :=
  let r := s.seats[seat]
  let own := holderSeat s == some seat
  let c := r.counters
  padTo 128
    ([flagByte r.attachment.isSome,
      (r.attachment.map fun a => byteOf a.member.val).getD 0xFF]
      ++ le32 ((r.attachment.map fun a => a.deadline.toNat).getD 0)
      ++ [flagByte r.saturated, r.criteria.byte, flagByte r.warned,
          if own then byteOf s.playout.frames.length else 0,
          if own then byteOf s.playout.depth else 0, 0]
      ++ [c.taken, c.late, c.early, c.duplicate, c.underflow, c.trimmed, c.resync,
          c.refused].flatMap le16)

/-- R176: the station record image, with 00h behind the callsign's characters (log 41, DESIGN CHOICE). -/
def stationImage (r : StationRecord) : List Byte :=
  [byteOf r.callsign.length] ++ padTo 10 r.callsign ++ [0]
    ++ [r.cst, r.cb, r.guard, r.keyLimit, r.minGrant].flatMap le16
    ++ [r.hangTime, r.turnLimit, r.startWait, r.threshold, r.trimMargin, r.starveLimit,
        r.disorderLimit].map byteOf
    ++ [r.criteria.byte] ++ le16 r.rejoin
    ++ [r.presence, r.lead, r.idInterval, r.closing].map byteOf ++ le16 r.grace
    ++ [byteOf r.idSpeed,
        byteOf (r.pulsedTune.toNat + 2 * r.wrap.toNat + 4 * r.ampPresent.toNat
          + 8 * r.pollEnable.toNat)]
    ++ le16 r.pitch ++ le32 r.qmax ++ le16 r.cool
    ++ [r.tuneCeiling, r.tuneLimit, r.swrLimit, r.ownAddress, r.radioAddress, r.antennaAddress,
        r.ampAddress, r.panelAddress].map byteOf

/-- R163, R175: the mode as CONTROL bits 8 and 9 show it. -/
def ServiceMode.code : ServiceMode → Nat
  | .configuring => 0
  | .serving => 1

/-- R175: a queue snapshot entry. -/
def snapshotEntry (e : Entry) : List Byte :=
  [byteOf e.seat.val, byteOf (e.member.val + if e.priority then 0x80 else 0)]

/-- R175: the flags at 001Bh. -/
def pageFlags (s : State) : Byte :=
  byteOf ((s.floor.state == .panelHeld).toNat + 2 * s.pins.txInhibit.toNat
    + 4 * (!s.keying.ampInService).toNat + 8 * s.ident.window.toNat + 16 * s.ident.pending.toNat)

/-- R175: the known flags of the believed setting. -/
def believedFlags (b : Believed) : Byte :=
  byteOf (b.port.isSome.toNat + 2 * b.freq.isSome.toNat + 4 * b.mode.isSome.toNat
    + 8 * b.drive.isSome.toNat + 16 * b.amp.isSome.toNat)

/-- R171, R175: the amplifier state code. -/
def AmpState.code : AmpState → Nat
  | .standby => 0
  | .operate => 1

/-- R175: the device page. -/
def devicePage (s : State) : List Byte :=
  let f := s.floor
  let b := s.bus.believed
  padTo 512
    (le16 0x0C12 ++ [0x01, byteOf s.mode.code] ++ [12, 48, 32, 4]
      ++ [byteOf f.state.code,
          (f.holder.map fun h => byteOf h.seat.val).getD 0xFF,
          (f.holder.map fun h => byteOf h.member.val).getD 0xFF,
          byteOf f.turnCount]
      ++ le32 ((f.grant.map Grant.freq).getD 0)
      ++ [byteOf ((f.grant.map fun g => g.mode.code).getD 0),
          flagByte ((f.grant.map Grant.ampUsed).getD false)]
      ++ le16 ((f.grant.map Grant.power).getD 0)
      ++ le16 ((f.grant.map Grant.duration).getD 0)
      ++ le32 s.page.keyDownRemaining
      ++ [byteOf s.queue.length, pageFlags s] ++ le32 s.page.q ++ le16 s.page.idSeconds ++ [0, 0]
      ++ le32 s.page.updateCount.toNat ++ le32 s.page.stamp.toNat ++ [0, 0, 0, 0]
      ++ ((s.queue.flatMap snapshotEntry) ++ List.replicate 24 0xFF).take 24
      ++ [believedFlags b, byteOf (b.port.getD 0)] ++ le32 (b.freq.getD 0)
      ++ [byteOf ((b.mode.map TxMode.code).getD 0), byteOf ((b.amp.map AmpState.code).getD 0)]
      ++ le16 (b.drive.getD 0) ++ List.replicate 46 0
      ++ stationImage s.station)

/-- R163: a register, 16 bits: SUMMARY, MASK, CONTROL, REFUSED. -/
def registerRead (s : State) (index : Nat) : BitVec 16 :=
  match index with
  | 0 => s.port.summary
  | 1 => s.port.mask
  | 2 => BitVec.ofNat 16 (0x100 * s.mode.code)
  | _ => s.port.refused

/-- R159, R160: the byte the memory shows at an address of 15 bits. -/
def memoryByte (s : State) (a : Nat) : Byte :=
  if a < 0x0200 then (devicePage s).getD a 0
  else if a < 0x0800 then
    (memberImage (s.members.toList.getD ((a - 0x0200) / 32) none)).getD ((a - 0x0200) % 32) 0
  else if a < 0x0C00 then
    (bandImage (s.plan.toList.getD ((a - 0x0800) / 32) none)).getD ((a - 0x0800) % 32) 0
  else if a < 0x1000 then Memory.read s.ram a
  else if a < 0x7000 then
    if (a - 0x1000) % 2048 < 0x780 then Memory.read s.ram a
    else (seatBoard s (Fin.ofNat 12 ((a - 0x1000) / 2048))).getD ((a - 0x1000) % 2048 - 0x780) 0
  else if a < registerBase then 0
  else (le16 (registerRead s ((a - registerBase) / 2)).toNat).getD ((a - registerBase) % 2) 0

/-- R159: the address after one, which wraps within the region where the transaction began. -/
def nextAddress (a : Nat) : Nat :=
  if a + 1 = registerBase then 0 else if a + 1 = 0x8000 then registerBase else a + 1

/-- R141, R159, R163: the byte the port sends for an address of 15 bits; none while RESET_N is low and
in a transaction ignored for its command byte, 00h in one that a RESTART cut. -/
def portRead (s : State) (a : Nat) : Option Byte :=
  if s.pins.resetLow then none
  else match s.port.phase with
    | .serving => some (memoryByte s a)
    | .ignoring => none
    | .restarted => some 0

/-- R159: the bytes the port sends in a read transaction, one for each successive address. -/
def portReads (s : State) : Nat → Nat → List Byte
  | _, 0 => []
  | a, n + 1 => (portRead s a).toList ++ portReads s (nextAddress a) n

end Sys2Proof.Machine
end

