-- ==== Sys2Proof/Machine/Power.lean ====
section
/-! DEFINITION. Power-on, the reset line and RESTART (R141, R182). -/

namespace Sys2Proof.Machine

/-- R182: every block takes its power-on values. The input lines stay as they are on the pins (R133,
log 11), as do the queue of commands and the counter of free values, which are no part of the
chip. -/
def powerOnState (s : State) : State :=
  ((State.reset.withPending s.pending).withFree s.free).withPins s.pins

/-- R2: a kept member record, attached to no seat. -/
def keepMember (r : Option Member) : Option Member := r.map fun m => { m with attached := none }

/-- R182: RESTART is power-on but for the member table, the band plan and the station record; the
port serves nothing further in the transaction (R163). -/
def restartState (s : State) : State :=
  let t := powerOnState s
  let t := (t.withMembers (s.members.map keepMember)).withPlan s.plan
  let t := t.withStation s.station
  t.withPort { t.port with phase := .restarted }

/-- R141: RESET_N is held low: the keying lines and both bus lines are released and the DAC is at 0
(what becomes of the rest until the release is log 12). -/
def holdReset (s : State) : State :=
  let s := unkey s
  let s := s.withBus { s.bus with
    engine := .free, attemptOpen := false, sbcLow := false, sbdPulses := 0, hold := none, followed := none,
    unfollowed := none, acked := 0, closed := false }
  let s := s.withSource .silence
  let s := s.withKeying { s.keying with requestedKey := false }
  s.withPins { s.pins with resetLow := true }

/-- POWER_ON (R182). -/
def execPowerOn (s : State) : Host.Outcome State Fault Refusal := .next (powerOnState s)

/-- RESET_ASSERTED (R141). -/
def execResetAsserted (s : State) : Host.Outcome State Fault Refusal := .next (holdReset s)

/-- RESET_RELEASED (R141): a low pulse on RESET_N is a power-on for every purpose. -/
def execResetReleased (s : State) : Host.Outcome State Fault Refusal :=
  .next (powerOnState (s.withPins { s.pins with resetLow := false }))

end Sys2Proof.Machine
end

