-- ==== Sys2Proof/Machine/ExchangePort.lean ====
section
/-! DEFINITION. The exchange port: the host's writes, the hand-over of cells and the registers (R156,
R158 to R164, R168). -/

namespace Sys2Proof.Machine

/-! ### Where an address lies (R160) -/

/-- R160: the cell an address lies in, with the offset in it; none for the device page, the images,
the seat boards and 7000h to 7FF7h. -/
def locate (a : Nat) : Option (CellRef × Nat) :=
  if a < 0x0C00 then none
  else if a < 0x1000 then some (.bus (Fin.ofNat 4 ((a - 0x0C00) / 256)), (a - 0x0C00) % 256)
  else if a < 0x7000 then
    let seat : SeatNo := Fin.ofNat 12 ((a - 0x1000) / 2048)
    let o := (a - 0x1000) % 2048
    if o < 0x080 then some (.order seat, o)
    else if o < 0x180 then some (.report seat, o - 0x080)
    else if o < 0x780 then
      some (.audio seat (Fin.ofNat 4 ((o - 0x180) / 0x180)), (o - 0x180) % 0x180)
    else none
  else none

/-- R162: a discarded write is latched when SUMMARY bit 14 is clear. -/
def refuseWrite (a : Nat) (s : State) : State :=
  if s.port.summary.getLsbD 14 then s
  else setSummary 14 (s.withPort { s.port with refused := BitVec.ofNat 16 a })

/-! ### Bus cells (R156, R158) -/

/-- R174: the result codes of a bus cell. -/
inductive CellResult where
  | done | noAck | lost | stuck | badField
  deriving DecidableEq, Repr

/-- R174. -/
def CellResult.code : CellResult → Nat
  | .done => 0 | .noAck => 1 | .lost => 2 | .stuck => 3 | .badField => 4

/-- R158: the result is written into a bus cell, the cell is returned and SUMMARY bit 12 set. -/
def returnBusCell (n : BusCellNo) (result : CellResult) (reply : List Byte) (s : State) : State :=
  let s := writeCell (.bus n) 36 ([byteOf result.code, byteOf reply.length] ++ reply.take 32) s
  setSummary 12 (writeHandover (.bus n) 0 s)

/-- R156: the field checks of a bus cell. -/
def busFieldsOk (station : StationRecord) (f : BusFields) : Bool :=
  decide (f.direction ≤ 1) && decide (f.address ≤ 63) && f.address != station.ownAddress
    && decide (f.length ≤ 32) && !(f.direction == 1 && f.address == 0)

/-- R156: the transaction a bus cell carries. -/
def cellTxn (s : State) (n : BusCellNo) : Txn :=
  let f := busFields s n
  newTxn (.cell n)
    (.cell (f.direction == 1) f.address f.length (cellBytes s (.bus n) 4 f.length))

/-- R156: at its hand-over a bus cell is judged; it joins the pass-through section or comes back
BAD_FIELD. -/
def judgeBusCell (n : BusCellNo) (s : State) : State :=
  if busFieldsOk s.station (busFields s n) then
    s.withBus { s.bus with cellWork := s.bus.cellWork ++ [cellTxn s n] }
  else returnBusCell n .badField [] s

/-! ### Hand-over (R161) -/

/-- R161: a host-held cell is handed over, and reaches the block that owns it at once. A report cell
is written by the report composer at the close of the act, when something waits (R168). -/
def acceptHandover (c : CellRef) (s : State) : State :=
  let s := writeHandover c 1 s
  match c with
  | .order seat => s.withHandovers (s.handovers ++ [seat])
  | .report _ => s
  | .audio seat cell => writeHandover c 0 (takeAudioCell seat cell s)
  | .bus n => judgeBusCell n s

/-- R161: a write to a hand-over byte: 01h to a host-held cell hands it over; any other is
discarded. -/
def writeToHandover (c : CellRef) (v : Byte) (s : State) : State :=
  if v = 1 ∧ partHeld s c = false then acceptHandover c s else refuseWrite c.handoverAddress s

/-- R160 to R162: a host byte into the RAM region. -/
def ramWrite (a : Nat) (v : Byte) (s : State) : State :=
  match locate a with
  | none => refuseWrite a s
  | some (c, offset) =>
    if offset + 1 = c.size then writeToHandover c v s
    else if partHeld s c then refuseWrite a s
    else s.withRam (Memory.write a v s.ram)

/-! ### Registers (R162, R163) -/

/-- R163: a 1 clears its SUMMARY bit; clearing bit 14 sets REFUSED to 8000h (R162). -/
def clearSummary (ones : BitVec 16) (s : State) : State :=
  s.withPort { s.port with
    summary := s.port.summary &&& ~~~ones
    refused := if ones.getLsbD 14 then 0x8000 else s.port.refused }

/-- A byte in its place in a 16-bit register. -/
def atByte (high : Bool) (v : Byte) : BitVec 16 :=
  if high then v.setWidth 16 <<< 8 else v.setWidth 16

/-- R163: a byte of MASK; bits 0 to 14 are stored. -/
def storeMask (high : Bool) (v : Byte) (s : State) : State :=
  s.withPort { s.port with
    mask := (s.port.mask &&& ~~~(atByte high 0xFF) ||| atByte high v) &&& 0x7FFF }

/-- R163: a byte written at a position of the register window. -/
def registerByte (position : Nat) (v : Byte) (s : State) : State :=
  match position with
  | 0 => clearSummary (atByte false v) s
  | 1 => clearSummary (atByte true v) s
  | 2 => storeMask false v s
  | 3 => storeMask true v s
  | 4 => if v.getLsbD 0 then restartState s else s
  | _ => s

/-! ### The port (R159) -/

/-- R141, R159, R163: the port takes the bytes of the host. -/
def portOpen (s : State) : Bool := !s.pins.resetLow && s.port.phase == .serving

/-- R159: a byte written at an address of 15 bits takes effect when its last bit has been
received. -/
def hostByte (a : Nat) (v : Byte) (s : State) : State :=
  if portOpen s then
    if registerBase ≤ a then registerByte (a - registerBase) v s else act (ramWrite a v) s
  else s

/-- R159: one data byte for each successive address. -/
def hostBytes : Nat → List Byte → State → State
  | _, [], s => s
  | a, v :: rest, s => hostBytes (nextAddress a) rest (hostByte a v s)

/-- R159: bits 6 to 2 of a command byte are 0 and its width is not 3. -/
def commandOk (command : Byte) : Bool := command &&& 0x7C == 0 && command &&& 0x03 != 0x03

/-- R159: a read transaction of `n` bytes clocked after the address: one turnaround byte, whose value
the port ignores, then the byte at each successive address. It stores nothing. -/
def readTransaction (a n : Nat) (s : State) : State :=
  s.withPort { s.port with served := portReads s a (n - 1) }

/-- R159: the bits of a read's command byte. -/
def readCommand (command : Byte) : Bool := commandOk command && command.getLsbD 7

/-- R159, R163: a transaction of the port: its command byte, its address, whose bit 15 is ignored, and
what the host clocks after them. A bad command byte makes the port ignore it until CS_N rises; after a
RESTART writes are ignored and reads return 00h until then. -/
def transaction (command : Byte) (address : BitVec 16) (data : List Byte) (s : State) : State :=
  let a := address.toNat % 0x8000
  if s.pins.resetLow then s
  else match s.port.phase with
    | .serving =>
      if readCommand command then readTransaction a data.length s
      else if commandOk command then hostBytes a data s
      else s.withPort { s.port with phase := .ignoring }
    | .ignoring => s
    | .restarted => if readCommand command then readTransaction a data.length s else s

/-- A hand-over byte is written 01h. -/
def handOver (c : CellRef) (s : State) : State :=
  if portOpen s then act (writeToHandover c 1) s else s

/-! ### The commands -/

/-- RESTART (R182): 1 is written to CONTROL bit 0. -/
def execRestart (s : State) : Host.Outcome State Fault Refusal :=
  .next (if portOpen s then restartState s else s)

/-- SUMMARY_WRITE (R163): one byte of SUMMARY is written. -/
def execSummaryWrite (high : Bool) (value : Byte) (s : State) : Host.Outcome State Fault Refusal :=
  .next (if portOpen s then clearSummary (atByte high value) s else s)

/-- MASK_WRITE (R163): one byte of MASK is written. -/
def execMaskWrite (high : Bool) (value : Byte) (s : State) : Host.Outcome State Fault Refusal :=
  .next (if portOpen s then storeMask high value s else s)

/-- REGISTER_WRITE (R163): a byte is written at a position of the register window. -/
def execRegisterWrite (position : Fin 8) (value : Byte) (s : State) :
    Host.Outcome State Fault Refusal :=
  .next (if portOpen s then registerByte position.val value s else s)

/-- HOST_WRITE (R159, R160): a write transaction; with the direction read in its command byte, a read
transaction (log 13). -/
def execHostWrite (command : Byte) (address : BitVec 16) (data : List Byte) (s : State) :
    Host.Outcome State Fault Refusal :=
  .next (transaction command address data s)

/-- ORDER_CELL_HANDOVER (R161, R164). -/
def execOrderCellHandover (seat : SeatNo) (s : State) : Host.Outcome State Fault Refusal :=
  .next (handOver (.order seat) s)

/-- REPORT_CELL_RETURN (R161, R168). -/
def execReportCellReturn (seat : SeatNo) (s : State) : Host.Outcome State Fault Refusal :=
  .next (handOver (.report seat) s)

/-- AUDIO_CELL_TAKE (R82, R83, R161). -/
def execAudioCellTake (seat : SeatNo) (cell : AudioCellNo) (s : State) :
    Host.Outcome State Fault Refusal :=
  .next (handOver (.audio seat cell) s)

/-- BUS_CELL_HANDOVER (R156, R161). -/
def execBusCellHandover (cell : BusCellNo) (s : State) : Host.Outcome State Fault Refusal :=
  .next (handOver (.bus cell) s)

/-- EXCHANGE_TRANSACTION_CLOSE (R159): CS_N rises and the port takes the next transaction. -/
def execExchangeTransactionClose (s : State) : Host.Outcome State Fault Refusal :=
  .next (if s.pins.resetLow then s else s.withPort { s.port with phase := .serving })

end Sys2Proof.Machine
end

