-- ==== Sys2Proof/Machine/Lines.lean ====
section
/-! DEFINITION. The radio lines TX_INHIBIT and AMP_FAULT as taken (R69, R133 to R136) and the amplifier
status poll (R138 to R140). A line's command is its taken change (log 23); while RESET_N is low the level
is taken up and nothing else happens (R141, log 12). -/

namespace Sys2Proof.Machine

/-! ### TX_INHIBIT (R69, R134) -/

/-- R69: the floor acts on the INHIBIT report. -/
def inhibitReport (s : State) : State :=
  match s.floor.state with
  | .setting | .granted | .onAir | .stalled | .hang => endTurn .inhibit .none s
  | .ident | .resting => enterIdle s
  | .idle | .panelHeld | .shut => s

/-- The level of TX_INHIBIT as taken. -/
def setInhibit (level : Bool) (s : State) : State := s.withPins { s.pins with txInhibit := level }

/-- R134: TX_INHIBIT is taken as asserted: the keying unit unkeys and reports INHIBIT. -/
def inhibitTaken (s : State) : State := inhibitReport (unkey (setInhibit true s))

/-- TX_INHIBIT_ASSERTED (R134). -/
def execTxInhibitAsserted (s : State) : Host.Outcome State Fault Refusal :=
  .next (if s.pins.txInhibit then s else if s.pins.resetLow then setInhibit true s
    else act inhibitTaken s)

/-- R44, R134: TX_INHIBIT is taken as deasserted, a serving point in IDLE. -/
def inhibitCleared (s : State) : State :=
  let s := setInhibit false s
  if s.floor.state = .idle then serve s else s

/-- TX_INHIBIT_DEASSERTED (R134). -/
def execTxInhibitDeasserted (s : State) : Host.Outcome State Fault Refusal :=
  .next (if s.pins.txInhibit then
      (if s.pins.resetLow then setInhibit false s else act inhibitCleared s)
    else s)

/-! ### AMP_FAULT (R133, R136) -/

/-- The level of AMP_FAULT as taken. -/
def setAmpFault (level : Bool) (s : State) : State := s.withPins { s.pins with ampFault := level }

/-- R136: AMP_FAULT is taken as asserted. -/
def ampFaultTaken (s : State) : State :=
  let s := setAmpFault true s
  if ampFaultHolds s then takeAmpFault s else s

/-- AMP_FAULT_ASSERTED (R136). -/
def execAmpFaultAsserted (s : State) : Host.Outcome State Fault Refusal :=
  .next (if s.pins.ampFault then s else if s.pins.resetLow then setAmpFault true s
    else act ampFaultTaken s)

/-- AMP_FAULT_DEASSERTED (R133, R136): going deasserted restores nothing. -/
def execAmpFaultDeasserted (s : State) : Host.Outcome State Fault Refusal :=
  .next (setAmpFault false s)

/-! ### The status poll (R138 to R140) -/

/-- R138: a STATUS query is placed, unless one is waiting or in flight. -/
def placePoll (s : State) : State :=
  if pollOutstanding s then s
  else s.withBus { s.bus with pollWork := some (newTxn .poll .status) }

/-- R138: the poll timer expires and starts again. -/
def pollExpired (s : State) : State :=
  if s.keying.poll.isSome then placePoll (s.withKeying { s.keying with poll := some 1000 }) else s

/-- POLL_TIMER_EXPIRY (R138). -/
def execPollTimerExpiry (s : State) : Host.Outcome State Fault Refusal := .next (act pollExpired s)

/-- R140: the count reaches 3: NO_STATUS is reported and the count set to 0. -/
def noStatusReport (s : State) : State :=
  equipmentReport .noStatus (s.withKeying { s.keying with failures := 0 })

/-- R140: a poll failed. -/
def pollFailed (s : State) : State :=
  if 3 ≤ s.keying.failures + 1 then noStatusReport s
  else s.withKeying { s.keying with failures := s.keying.failures + 1 }

/-- R140: the failure count stands one short of 3: it reaches 3. In a run of the part this comes about
inside BUS_ATTEMPT_END (log 9). -/
def noStatusReached (s : State) : State :=
  if 2 ≤ s.keying.failures then noStatusReport s else s

/-- NO_STATUS (R140). -/
def execNoStatus (s : State) : Host.Outcome State Fault Refusal := .next (act noStatusReached s)

/-- R139: the amplifier's fault byte is not zero. What the unkey leaves of an identification in IDENT is log 43
(DESIGN CHOICE). -/
def pollFault (s : State) : State :=
  let s := ampOutOfService s
  let s := if s.bus.believed.amp = some .operate then unkey s else s
  equipmentReport .ampFault s

/-- R139: a successful poll with the fault byte and the SWR × 10 of its reply. -/
def pollAnswered (fault swr : Byte) (s : State) : State :=
  let s := s.withKeying { s.keying with failures := 0 }
  if fault ≠ 0 then pollFault s
  else if s.station.swrLimit < swr.toNat then equipmentReport .reflection s
  else s

end Sys2Proof.Machine
end

