-- ==== Sys2Proof/Machine/BusEvents.lean ====
section
/-! DEFINITION. The station bus engine's events: the start and the end of an attempt, a transaction's
outcome, other masters' frames and a stuck bus (R145 to R158). -/

namespace Sys2Proof.Machine

/-! ### A transaction's outcome (R153) -/

/-- R49: the setup item a message is. -/
def Message.setupItem : Message → SetupItem
  | .standby => .ampStandby
  | .select _ => .antenna
  | .setFreq .. => .frequency
  | .setDrive _ => .drive
  | .operate => .ampOperate
  | .status => .ampOperate
  | .cell .. => .ampOperate

/-- R49: no setup item of the turn is waiting. -/
def setupDone (s : State) : Bool := !s.bus.floorWork.any (fun t => t.owner == .setup)

/-- R49: the floor acts on the end of a setup item while SETTING for the turn that placed it. -/
def setupReport (item : SetupItem) (o : TxnOutcome) (s : State) : State :=
  if s.floor.state = .setting then
    if o = .done then (if setupDone s then setupComplete s else s)
    else endTurn .setupFailed (.item item) s
  else s

/-- R139, R140: the keying unit judges a poll's outcome. -/
def pollReport (o : TxnOutcome) (reply : List Byte) (s : State) : State :=
  if o = .done then
    match reply with
    | [_, fault, swr] => pollAnswered fault swr s
    | _ => pollFailed s
  else pollFailed s

/-- R158: the result of a bus cell. -/
def TxnOutcome.cellResult : TxnOutcome → CellResult
  | .done => .done
  | .noAck => .noAck
  | .lost => .lost
  | .stuck => .stuck

/-- R153: the outcome goes to the transaction's owner. -/
def reportOutcome (t : Txn) (o : TxnOutcome) (reply : List Byte) (s : State) : State :=
  match t.owner with
  | .setup => setupReport t.message.setupItem o s
  | .pastSetup => s
  | .standby => s
  | .poll => pollReport o reply s
  | .cell n => returnBusCell n o.cellResult (if o = .done ∧ t.message.isQuery then reply else []) s

/-- R153: a transaction leaves the list, the believed setting is updated first, then the owner is
told. -/
def finishTxn (t : Txn) (o : TxnOutcome) (reply : List Byte) (s : State) : State :=
  let s := s.withBus { s.bus with inFlight := none }
  let s := setBelieved (s.bus.believed.after s.station t.message o) s
  reportOutcome t o reply s

/-! ### BUS_TRANSACTION_START (R147, R151) -/

/-- R151: a frame is opened for a transaction. -/
def openAttempt (t : Txn) (s : State) : State :=
  s.withBus { s.bus with engine := .sending, attemptOpen := true, inFlight := some t }

/-- R151, R152, R154: with the engine FREE the next attempt of the transaction in flight opens, else the
first attempt of the next one, whose address is read now. While RECOVERING finds SBC low, the next
one is failed STUCK instead (R147). -/
def startTransaction (s : State) : State :=
  match s.bus.engine, s.bus.inFlight, nextWork s with
  | .free, some t, _ => openAttempt t s
  | .free, none, some (t, bus) =>
    openAttempt { t with address := t.message.address s.station } (s.withBus bus)
  | .recovering, none, some (t, bus) =>
    if s.bus.sbcLow then finishTxn t .stuck [] (s.withBus bus) else s
  | _, _, _ => s

/-- BUS_TRANSACTION_START (R151). -/
def execBusTransactionStart (s : State) : Host.Outcome State Fault Refusal :=
  .next (act startTransaction s)

/-! ### The part as follower (R145, R146, R148, R149) -/

/-- R148: an address byte the part acknowledges: its own address in either direction, or the general
address with the direction command. -/
def accepts (station : StationRecord) (addressByte : Byte) : Bool :=
  addressByte == addressByteOf station.ownAddress false
    || addressByte == addressByteOf station.ownAddress true || addressByte == 0

/-- R149: the part holds SBC low after a command's address byte while the inbound buffer is occupied. -/
def holdFor (addressByte : Byte) (s : State) : Option Nat :=
  if s.bus.inbound.isSome && !addressByte.getLsbD 0 then some 10 else none

/-- R150: the five data bytes of the STATE reply. -/
def stateReply (s : State) : List Byte :=
  [stateKind, byteOf s.floor.state.code,
   (s.floor.holder.map fun h => byteOf h.member.val).getD 0xFF,
   flagByte (s.floor.state == .panelHeld), flagByte (s.floor.state == .shut)]

/-- R148, R150: a frame is taken on under its address byte; for a query the reply is formed now. -/
def takeOn (addressByte : Byte) (s : State) : FollowedFrame :=
  ⟨addressByte, if addressByte.getLsbD 0 then stateReply s else []⟩

/-- R145, R146, R148, R150: another master's frame is on the bus, with its address byte where it has been
received: the part acknowledges that byte and follows the frame, or listens to the end of it. -/
def hear (addressByte : Option Byte) (s : State) : State :=
  match addressByte.filter (accepts s.station) with
  | some b =>
    s.withBus { s.bus with
      engine := .following, attemptOpen := false, hold := holdFor b s, followed := some (takeOn b s)
      unfollowed := none, acked := 1, closed := false }
  | none =>
    s.withBus { s.bus with
      engine := .listening, attemptOpen := false, hold := none, followed := none
      unfollowed := addressByte, acked := 0, closed := false }

/-- R146: no frame of the part's own is open, and the bus is not stuck. -/
def notDriving (s : State) : Bool :=
  match s.bus.engine with
  | .free | .listening | .following => true
  | .sending => !s.bus.attemptOpen
  | .recovering => false

/-- R181: an open frame is being followed under an address byte. -/
def follows (s : State) (addressByte : Byte) : Bool :=
  s.bus.followed.any fun x => x.address == addressByte

/-- R148, R149, R181: the part is a frame's follower: it follows the open frame already, under the address
byte it was taken on, or accepts its address byte now. An open frame that it listens to under that byte is
not taken on later, whatever the own address has become. -/
def takesAddress (s : State) (addressByte : Byte) : Bool :=
  follows s addressByte || accepts s.station addressByte && s.bus.unfollowed != some addressByte

/-- R143: the check byte of a command frame is right. -/
def frameCheckRight (f : CommandFrame) : Bool :=
  checkByteOf (f.address :: f.length :: f.data) == f.check

/-- R148: the panel message a command frame carries, to the part's own address or to all. -/
def frameMessage (f : CommandFrame) : Option PanelMessage :=
  match f.data with
  | [kind] => if f.length = 1 then panelMessageOf kind else none
  | _ => none

/-- R148: the part acknowledges a frame's check byte: the check is right and the frame is one it takes,
at its own address a panel message, at the general address any. -/
def checkAcknowledged (f : CommandFrame) : Bool :=
  frameCheckRight f && (f.address == 0 || (frameMessage f).isSome)

/-- R148: how many bytes of a command frame the part acknowledges: none of a frame it does not follow (of
one whose hold ran out the address byte, already acknowledged, R149), the address byte alone where the
length is above 32, all but the check byte where it refuses that. -/
def bytesAcknowledged (s : State) (f : CommandFrame) : Nat :=
  if !takesAddress s f.address || f.address.getLsbD 0 then
    (if s.bus.unfollowed = some f.address then s.bus.acked else 0)
  else if 32 < f.length.toNat then 1
  else if checkAcknowledged f then f.data.length + 3 else f.data.length + 2

/-- R148: the message of a frame that the part takes and keeps: a panel message at its own address, and
at the general address HALT alone. -/
def keptMessage (s : State) (f : CommandFrame) : Option PanelMessage :=
  if takesAddress s f.address && !f.address.getLsbD 0 && frameCheckRight f then
    (frameMessage f).filter fun m => f.address != 0 || m == .halt
  else none

/-- R146, R148: a command frame of another master has been received to its closing; the part followed it
or listened, and 50 µs of quiet begin, in which no frame is open to be followed. A frame of the part's own
and a stuck bus are left alone (log 16). -/
def closeFrame (f : CommandFrame) (s : State) : State :=
  if notDriving s then
    s.withBus { s.bus with
      engine := if takesAddress s f.address && !f.address.getLsbD 0 then .following else .listening
      attemptOpen := false, hold := none, followed := none, unfollowed := none
      acked := bytesAcknowledged s f, closed := true }
  else s

/-- R148: a taken message is placed in the inbound buffer at the closing of its frame. -/
def fillInbound (m : Option PanelMessage) (s : State) : State :=
  match m with
  | some m => s.withBus { s.bus with inbound := some m }
  | none => s

/-- R149, R181: a frame's address byte is acknowledged and SBC held. A frame that is followed already goes
on under the address byte it was taken on, with the hold it has or one that begins now (log 42). -/
def holdFrame (f : CommandFrame) (s : State) : State :=
  if follows s f.address then
    s.withBus { s.bus with
      engine := .following, attemptOpen := false, hold := some (s.bus.hold.getD 10)
      unfollowed := none, acked := 1, closed := false }
  else hear (some f.address) s

/-- R148, R149: a command frame of another master comes. While the inbound buffer is occupied a frame
for the part gets no further than its address byte; else it is received to its closing, and its message
fills the buffer. The same holds of a frame taken up behind its address byte, of which the spec does not say
what becomes while the buffer is occupied (log 42, DESIGN CHOICE). -/
def foreignFrame (f : CommandFrame) (s : State) : State :=
  if notDriving s then
    if s.bus.inbound.isSome && takesAddress s f.address && !f.address.getLsbD 0 then holdFrame f s
    else fillInbound (keptMessage s f) (closeFrame f s)
  else s

/-- R146: an opening, or a low line, that the part did not cause; the operand is what has been received
of the frame (log 17). -/
def foreignOpening (heard : Heard) (s : State) : State :=
  match heard with
  | .opening => if notDriving s then hear none s else s
  | .address b => if notDriving s then hear (some b) s else s
  | .command f => foreignFrame f s

/-- FOREIGN_OPENING (R146). -/
def execForeignOpening (heard : Heard) (s : State) : Host.Outcome State Fault Refusal :=
  .next (act (foreignOpening heard) s)

/-! ### BUS_ATTEMPT_END (R145, R152) -/

/-- R152: an attempt of the transaction in flight is made: its frame is open, or it opens as soon as
the engine is FREE again (log 15). -/
def attempting (s : State) : Option Txn :=
  if s.bus.engine = .sending ∨ s.bus.engine = .free then s.bus.inFlight else none

/-- The part sends its closing; the engine is FREE 50 µs later (R146). -/
def sendClosing (s : State) : State :=
  s.withBus { s.bus with engine := .sending, attemptOpen := false }

/-- R152: a no-acknowledge uses an attempt; the fourth is the outcome NO_ACK. -/
def attemptRefused (t : Txn) (s : State) : State :=
  let s := sendClosing s
  if 4 ≤ t.attempts + 1 then finishTxn t .noAck [] s
  else s.withBus { s.bus with inFlight := some { t with attempts := t.attempts + 1 } }

/-- R145: the byte, from 0 on, at which the bytes the part sends lose to another master's: the first at
which the two differ, where the other's is lower in value; none where the part's goes on. -/
def lossAt : List Byte → List Byte → Option Nat
  | mine :: sent, theirs :: other =>
    if mine = theirs then (lossAt sent other).map (· + 1)
    else if theirs.toNat < mine.toNat then some 0 else none
  | _, _ => none

/-- R145: the part takes the winning frame up, from the byte at which it lost. One lost behind its address
byte had no address byte of the part's to acknowledge, so that no hold begins (R149). -/
def takeUp (k : Nat) (other : List Byte) (s : State) : State :=
  let s := hear other.head? s
  if k = 0 then s else s.withBus { s.bus with hold := none }

/-- R152: a loss is counted; the sixteenth is the outcome LOST. -/
def countLoss (t : Txn) (s : State) : State :=
  if 16 ≤ t.losses + 1 then finishTxn t .lost [] s
  else s.withBus { s.bus with inFlight := some { t with losses := t.losses + 1 } }

/-- R145, R150, R152: at the losing bit the part stops driving, listens and counts the loss, with its
outcome; the winning frame's address byte is acknowledged behind that bit, so that a STATE reply shows the
floor as the loss has left it, an empty setup that follows included (R70). Where the other master's bytes do
not win, nothing is lost and the attempt goes on. -/
def attemptLost (other : List Byte) (t : Txn) (s : State) : State :=
  match lossAt t.sentBytes other with
  | none => s
  | some k => takeUp k other (finishSetup s (countLoss t (hear none s)))

/-- R148, R152, R181: the attempt failed as a no-acknowledge does: the address is the part's own, which
does not follow its own frames (log 40), or a query's reply is wrong. -/
def attemptWrong (s : State) (t : Txn) (reply : List Byte) (check : Byte) : Bool :=
  t.address == s.station.ownAddress || t.message.isQuery && !t.replyRight reply check

/-- R152: an attempt ends. -/
def attemptEnd (ended : AttemptEnd) (s : State) : State :=
  match attempting s with
  | none => s
  | some t =>
    match ended with
    | .acknowledged reply check =>
      if attemptWrong s t reply check then attemptRefused t s
      else finishTxn t .done reply (sendClosing s)
    | .noAcknowledge => attemptRefused t s
    | .lost other => attemptLost other t s

/-- BUS_ATTEMPT_END (R152). -/
def execBusAttemptEnd (ended : AttemptEnd) (s : State) : Host.Outcome State Fault Refusal :=
  .next (act (attemptEnd ended) s)

/-! ### The quiet bus and the hold (R146, R149) -/

/-- R146: 50 µs of quiet after a closing have passed. -/
def busQuiet (s : State) : State :=
  if notDriving s then
    s.withBus { s.bus with
      engine := .free, attemptOpen := false, hold := none, followed := none, unfollowed := none
      closed := false }
  else s

/-- BUS_FREE (R146). -/
def execBusFree (s : State) : Host.Outcome State Fault Refusal := .next (act busQuiet s)

/-- R149: the 10 ms of a hold run out: the length byte goes unacknowledged and the part listens to the
end of the frame. With no hold running there is none to end. -/
def holdTimedOut (s : State) : State :=
  if s.bus.engine = .following ∧ s.bus.hold.isSome then
    s.withBus { s.bus with
      engine := .listening, hold := none, followed := none
      unfollowed := s.bus.followed.map FollowedFrame.address }
  else s

/-- INBOUND_HOLD_TIMEOUT (R149). -/
def execInboundHoldTimeout (s : State) : Host.Outcome State Fault Refusal :=
  .next (act holdTimedOut s)

/-! ### A stuck bus (R147) -/

/-- R147: both lines are released, a frame being followed is abandoned with its message, and the engine
enters RECOVERING. A message whose frame has closed stays in the inbound buffer (R148). -/
def enterRecovering (lines : StuckLines) (s : State) : State :=
  s.withBus { s.bus with
    engine := .recovering, attemptOpen := false, sbcLow := lines.sbcLow, sbdPulses := lines.sbdPulses
    pulses := 0, hold := none, followed := none, unfollowed := none, closed := false }

/-- R147: the bus is found stuck; a transaction in flight fails STUCK. The operand says how the other parties
hold the two lines (log 18, DESIGN CHOICE). -/
def stuck (lines : StuckLines) (s : State) : State :=
  if s.bus.engine = .recovering then s
  else
    let s := enterRecovering lines s
    match s.bus.inFlight with
    | some t => finishTxn t .stuck [] s
    | none => s

/-- BUS_STUCK (R147). -/
def execBusStuck (lines : StuckLines) (s : State) : Host.Outcome State Fault Refusal :=
  .next (act (stuck lines) s)

/-- R147: a clock pulse with SBD released brings the party that holds it a bit on, and SBD is sampled behind
it: the pulsing stops when it reads high, or with the last pulse left. -/
def clockPulses : Nat → Bus → Bus
  | 0, b => b
  | left + 1, b =>
    let b := { b with pulses := b.pulses + 1, sbdPulses := b.sbdPulses - 1 }
    if b.sbdPulses = 0 then b else clockPulses left b

/-- R147: SBC reads high: up to 9 clock pulses, then the closing, sent whatever SBD reads, and the engine is
FREE (the 50 µs behind the closing are within the command, log 14). -/
def recovered (s : State) : State :=
  if s.bus.engine = .recovering then
    s.withBus { clockPulses 9 { s.bus with pulses := 0 } with engine := .free, sbcLow := false }
  else s

/-- BUS_RECOVERY (R147). -/
def execBusRecovery (s : State) : Host.Outcome State Fault Refusal := .next (act recovered s)

end Sys2Proof.Machine
end

