-- ==== Sys2Proof/Machine/Panel.lean ====
section
/-! DEFINITION. The clubhouse panel's messages and its STATE query (R66 to R68, R148 to R150). -/

namespace Sys2Proof.Machine

/-! ### The inbound buffer (R148, R149) -/

/-- R149: the floor has taken the message and acted on it: the buffer is empty and a hold ends. -/
def emptyInbound (s : State) : State := s.withBus { s.bus with inbound := none, hold := none }

/-- R143, R174: the frame by which the panel sends a message to the part's own address. -/
def panelFrame (m : PanelMessage) (s : State) : CommandFrame :=
  let address := addressByteOf s.station.ownAddress false
  { address, length := 1, data := [m.code], check := checkByteOf [address, 1, m.code] }

/-- R146: the panel's frame opens in place of the closing of an open frame that the part only listens to,
so that it is judged anew (log 16, DESIGN CHOICE). -/
def openAnew (s : State) : State :=
  if notDriving s then s.withBus { s.bus with unfollowed := none } else s

/-- R148, R149: a panel message reaches the floor. It waits in the inbound buffer, or with the buffer empty
the panel's frame closes and fills it for the act in which the floor takes it (log 16, DESIGN CHOICE).
While another message occupies the buffer the frame is held at its address byte. -/
def panelMessage (m : PanelMessage) (floorActs : State → State) (s : State) : State :=
  if s.bus.inbound = some m then emptyInbound (floorActs s)
  else if s.bus.inbound = none then
    emptyInbound (floorActs (fillInbound (some m) (closeFrame (panelFrame m s) (openAnew s))))
  else foreignFrame (panelFrame m s) (openAnew s)

/-! ### The messages -/

/-- R66: TAKE gives the station to the panel. -/
def takeStation (s : State) : State :=
  if s.floor.state.panel then s
  else
    let s := if s.floor.holder.isSome then endTurnCore .panelHeld .none s else unkey s
    setFloorState .panelHeld s

/-- TAKE (R66). -/
def execTake (s : State) : Host.Outcome State Fault Refusal :=
  .next (act (panelMessage .take takeStation) s)

/-- R67: GIVE hands the station back. -/
def giveStation (s : State) : State := if s.floor.state = .panelHeld then enterIdle s else s

/-- GIVE (R67). -/
def execGive (s : State) : Host.Outcome State Fault Refusal :=
  .next (act (panelMessage .give giveStation) s)

/-- R68: HALT stops the station in every state. -/
def haltStation (s : State) : State :=
  let s := if s.floor.holder.isSome then endTurnCore .shut .none s else s
  let s := endEntries .shut s.queue s
  let s := closeWindow (unkey s)
  setFloorState .shut s

/-- HALT (R68). -/
def execHalt (s : State) : Host.Outcome State Fault Refusal :=
  .next (act (panelMessage .halt haltStation) s)

/-- R67: RESUME lifts an emergency off. -/
def resumeStation (s : State) : State := if s.floor.state = .shut then enterIdle s else s

/-- RESUME (R67). -/
def execResume (s : State) : Host.Outcome State Fault Refusal :=
  .next (act (panelMessage .resume resumeStation) s)

/-! ### STATE (R143, R150) -/

/-- R150: as many data bytes as the length asks for, bytes of 0 behind the five. -/
def stateData (length : Nat) (reply : List Byte) : List Byte :=
  (reply ++ List.replicate length 0).take length

/-- R150, R181: the query that is answered: the open one being followed, with the reply formed at its
address byte, else one at the part's own address that opens anew and is taken on now (log 16, DESIGN
CHOICE). -/
def queryFrame (s : State) : FollowedFrame :=
  (s.bus.followed.filter fun x => x.address.getLsbD 0).getD
    (takeOn (addressByteOf s.station.ownAddress true) s)

/-- R143, R150: the bytes the part sends: the data, then the check byte over the address byte, the length
byte and the data. None is sent for a length above 32; a data byte that the master leaves unacknowledged
is the last. -/
def replySent (asked : ReplyAsked) (s : State) : List Byte :=
  let query := queryFrame s
  let data := stateData asked.length.toNat query.reply
  let reply := data ++ [checkByteOf (query.address :: asked.length :: data)]
  if 32 < asked.length.toNat then []
  else match asked.refused with
    | some i => if i < asked.length.toNat then data.take (i + 1) else reply
    | none => reply

/-- R143, R146, R150: the query's frame is followed to its closing, with its address byte and a length up
to 32 acknowledged. It is answered in every state of the engine; with a frame of the part's own open, and
on a stuck bus, the engine stays as it is (log 16, DESIGN CHOICE). -/
def answerState (asked : ReplyAsked) (s : State) : State :=
  let s' := s.withBus { s.bus with reply := replySent asked s }
  if notDriving s then
    s'.withBus { s'.bus with
      engine := .following, attemptOpen := false, hold := none, followed := none, unfollowed := none
      acked := if asked.length.toNat ≤ 32 then 2 else 1, closed := true }
  else s'

/-- STATE (R150). -/
def execStateQuery (asked : ReplyAsked) (s : State) : Host.Outcome State Fault Refusal :=
  .next (act (answerState asked) s)

end Sys2Proof.Machine
end

