-- ==== Sys2Proof/Machine/TableOrders.lean ====
section
/-! DEFINITION. The orders on the band plan and the station: BAND_WRITE, BAND_REMOVE, CHECK (R19, R20,
R35, R36), AMP_RESTORE (R137), STATION_WRITE (R181), BEGIN_SERVICE and END_SERVICE (R178, R179). -/

namespace Sys2Proof.Machine

/-! ### The band plan -/

/-- A slot of the band plan is written. -/
def setSlot (i : SlotNo) (g : Option Segment) (s : State) : State :=
  s.withPlan (s.plan.set i.val g i.isLt)

/-- R19 check 8: a segment in another slot shares a frequency with the new one. -/
def overlapsOther (plan : Vector (Option Segment) 32) (i : SlotNo) (low high : Nat) : Bool :=
  (presentSegments plan).any fun x =>
    x.1 != i && decide (x.2.low < high) && decide (low < x.2.high)

/-- R19 checks 4 to 7, all answered BAD_FIELD. -/
def bandFieldsOk (f : BandFields) : Bool :=
  decide (f.low < f.high) && decide (1 ≤ f.minGrade ∧ f.minGrade ≤ 4)
    && f.modes &&& 0xC0 == 0 && decide (1 ≤ f.port ∧ f.port ≤ 8) && decide (f.amp ≤ 1)

/-- R19: the segment written, its ceiling clamped into 1 to 1500. -/
def writtenSegment (f : BandFields) : Segment :=
  { low := f.low, high := f.high, minGrade := f.minGrade, modes := f.modes,
    ceiling := clampTo 1 1500 f.ceiling, port := f.port, amp := f.amp == 1 }

/-- R19: the checks in turn. -/
def doBandWrite (seat : SeatNo) (s : State) : State × Reply :=
  match slotNo (bodyByte s seat 4) with
  | none => (s, plain .badField)
  | some i =>
    let f := parseBand s seat
    if !s.floor.state.admitsBandEdit then (s, plain .floorBusy)
    else if !bandFieldsOk f then (s, plain .badField)
    else if overlapsOther s.plan i f.low f.high then (s, plain .overlap)
    else
      (setSlot i (some (writtenSegment f)) s,
       ⟨.done, [byteOf i.val, if clampTo 1 1500 f.ceiling = f.ceiling then 0 else 1]⟩)

/-- BAND_WRITE (R19, kind 8). -/
def execBandWrite (s : State) : Host.Outcome State Fault Refusal :=
  execOrder 8 (withAuthority doBandWrite) s

/-- R20: the checks in turn. -/
def doBandRemove (seat : SeatNo) (s : State) : State × Reply :=
  match slotNo (bodyByte s seat 4) with
  | none => (s, plain .badField)
  | some i =>
    if !s.floor.state.admitsBandEdit then (s, plain .floorBusy)
    else if s.plan[i].isNone then (s, plain .badField)
    else (setSlot i none s, plain .done)

/-- BAND_REMOVE (R20, kind 9). -/
def execBandRemove (s : State) : Host.Outcome State Fault Refusal :=
  execOrder 9 (withAuthority doBandRemove) s

/-! ### CHECK (R35, R36) -/

/-- R36, R172: the answer data of a CHECK. -/
def checkData (wait : Bool) (f : Figures) (h : Option Nat) (duration : Nat) (limit : LimitTerm) :
    List Byte :=
  [flagByte wait, flagByte f.ampUsed, byteOf f.port, byteOf f.slot.val] ++ le16 f.power
    ++ le16 f.ceiling ++ le32 f.aRem ++ le32 (h.getD 0xFFFFFFFF) ++ le16 duration
    ++ [byteOf limit.code]

/-- R35, R36: the checks in turn; the tables are read and not changed. -/
def doCheck (seat : SeatNo) (s : State) : State × Reply :=
  match attachedMember s seat with
  | none => (s, plain .notAttached)
  | some m =>
    match parseRequest s seat with
    | none => (s, plain .badField)
    | some r =>
      match computeGrant (grantInputs s m) r with
      | .refusal e => (s, plain e)
      | .short f h => (s, ⟨.done, checkData true f (some h) 0 .dutyHeadroom⟩)
      | .grant f h g => (s, ⟨.done, checkData false f h g.duration g.limit⟩)

/-- CHECK (R35, kind 10). -/
def execCheck (s : State) : Host.Outcome State Fault Refusal := execOrder 10 doCheck s

/-! ### AMP_RESTORE (R137) -/

/-- R137: the checks in turn. -/
def doAmpRestore (_ : SeatNo) (s : State) : State × Reply :=
  if s.pins.ampFault then (s, plain .stillFaulted)
  else
    (s.withKeying { s.keying with ampInService := true },
     ⟨.done, [flagByte s.keying.ampInService]⟩)

/-- AMP_RESTORE (R137, kind 15). -/
def execAmpRestore (s : State) : Host.Outcome State Fault Refusal :=
  execOrder 15 (withAuthority doAmpRestore) s

/-! ### STATION_WRITE (R79, R155, R181) -/

/-- R79: a Qmax below the present Q sets Q to it, and the page shows the lowered Q (R80). -/
def limitHeat (s : State) : State :=
  if s.station.qmax < s.duty.q then refreshQ (s.withDuty { s.duty with q := s.station.qmax }) else s

/-- R155, R181: a changed device address makes that device's believed items unknown. -/
def forgetMoved (old : StationRecord) (s : State) : State :=
  setBelieved
    (s.bus.believed.forget (old.radioAddress != s.station.radioAddress)
      (old.antennaAddress != s.station.antennaAddress) (old.ampAddress != s.station.ampAddress)) s

/-- R181: the checks in turn; the record is replaced whole, its fields taken into their ranges, and the
image on the device page rewritten. -/
def doStationWrite (seat : SeatNo) (s : State) : State × Reply :=
  if s.mode = .serving ∧ stationFree s = false then (s, plain .floorBusy)
  else match parseStation s seat with
  | none => (s, plain .badField)
  | some r =>
    (forgetMoved s.station (limitHeat (stampPage (s.withStation r.clamped))),
     ⟨.done, [byteOf r.clampCount]⟩)

/-- STATION_WRITE (R181, kind 16). -/
def execStationWrite (s : State) : Host.Outcome State Fault Refusal :=
  execOrder 16 (withAuthority doStationWrite) s

/-! ### BEGIN_SERVICE and END_SERVICE (R178, R179) -/

/-- R178: the station is complete. -/
def stationComplete (s : State) : Bool :=
  (s.members[(0 : MemberNo)]).isSome && !s.station.callsign.isEmpty
    && !(presentSegments s.plan).isEmpty

/-- R178: the checks in turn. The change of mode is no serving point. -/
def doBeginService (_ : SeatNo) (s : State) : State × Reply :=
  if s.mode ≠ .configuring then (s, plain .notConfiguring)
  else if !stationComplete s then (s, plain .incomplete)
  else (s.withMode .serving, plain .done)

/-- BEGIN_SERVICE (R178, kind 17). -/
def execBeginService (s : State) : Host.Outcome State Fault Refusal :=
  execOrder 17 (withAuthority doBeginService) s

/-- R179 step 1: every ATTACHED seat but the issuer is detached. -/
def detachOthers (issuer : SeatNo) (s : State) : State :=
  (List.finRange 12).foldl
    (fun s seat => if seat = issuer then s else detachSeat seat .serviceEnd s) s

/-- R179: steps 1 to 4. -/
def endService (issuer : SeatNo) (s : State) : State :=
  let s := detachOthers issuer s
  let s := endEntries .serviceEnd s.queue s
  let s := if s.floor.state = .idle then s else enterIdle s
  s.withMode .configuring

/-- R179: the checks in turn. -/
def doEndService (seat : SeatNo) (s : State) : State × Reply :=
  if s.mode ≠ .serving then (s, plain .notServing)
  else if stationFree s = false then (s, plain .floorBusy)
  else if s.ident.window then (s, plain .floorBusy)
  else (endService seat s, plain .done)

/-- END_SERVICE (R179, kind 18). -/
def execEndService (s : State) : Host.Outcome State Fault Refusal :=
  execOrder 18 (withAuthority doEndService) s

end Sys2Proof.Machine
end

