-- ==== Sys2Proof/Machine/Clock.lean ====
section
/-! DEFINITION. What the part does of its own accord when no command waits (log 3): an event that is due
becomes the next command; with none due, one millisecond passes. Everything here is the model's choice:
the spec gives the part a clock and the table no row for a tick. -/

namespace Sys2Proof.Machine

/-! ### What is due -/

/-- A timer has run down. -/
def ranDown (t : Option Nat) : Bool := t == some 0

/-- A command when its condition holds. -/
def whenDue (c : Bool) (i : Instr) : List Instr := if c then [i] else []

/-- R172: the command that takes an order of a kind. -/
def orderCommand (kind : Byte) : Instr :=
  match kind.toNat with
  | 1 => .attach | 2 => .detach | 3 => .presence | 4 => .changeCode | 5 => .memberWrite
  | 6 => .memberRemove | 7 => .dayRoll | 8 => .bandWrite | 9 => .bandRemove | 10 => .check
  | 11 => .request | 12 => .withdraw | 13 => .release | 14 => .forceRelease | 15 => .ampRestore
  | 16 => .stationWrite | 17 => .beginService | 18 => .endService
  | _ => .unknownOrder

/-- R164: the order unit takes the oldest hand-over. -/
def dueOrder (s : State) : List Instr :=
  match s.handovers with
  | [] => []
  | seat :: _ => [orderCommand (orderKind s seat)]

/-- R13: the seats whose presence deadline the stamp has reached. -/
def duePresence (s : State) : List Instr :=
  ((List.finRange 12).filter (presenceDue s)).map Instr.presenceExpiry

/-- R48 to R56, R64: the floor's events. -/
def dueFloor (s : State) : List Instr :=
  whenDue (maySetUp s && s.floor.grant.isSome) .setupPlace
    ++ whenDue (mayAskIdent s) .identKeyRequest
    ++ whenDue (s.floor.state == .granted && ranDown s.floor.startWait) .startWaitExpiry
    ++ whenDue (timeWarningDue s && s.floor.holder.isSome && decide (keyDownRemaining s ≤ 15000))
        .timeWarning
    ++ whenDue (s.floor.state == .onAir
        && s.floor.grant.any (fun g => decide (g.duration * 1000 ≤ s.floor.keyDown)))
        .keyDownExpiry
    ++ whenDue (s.floor.state == .hang && ranDown s.floor.hang) .hangExpiry
    ++ whenDue (s.floor.state == .stalled && ranDown s.floor.rejoin) .rejoinExpiry

/-- R94: the offset of the next transition of the running playout step has been reached. -/
def transitionReached (s : State) : Bool :=
  match s.playout.step, s.playout.timer with
  | .keying (t :: _), some left => s.keying.state == .keyed && decide (t.offset + left ≤ 20)
  | _, _ => false

/-- R75, R90, R94, R115 to R126, R131, R138: the other timers. -/
def dueTimers (s : State) : List Instr :=
  whenDue (s.duty.timer == 0) .dutyIntervalExpiry
    ++ whenDue (s.keying.state == .leading && ranDown s.keying.lead) .leadTimerExpiry
    ++ whenDue (transitionReached s) .cwKeyTransition
    ++ whenDue (ranDown s.playout.timer) .playoutStep
    ++ whenDue (ranDown s.ident.periodic) .periodicIdExpiry
    ++ whenDue (ranDown s.ident.closing) .closingExpiry
    ++ whenDue (ranDown s.ident.grace) .graceExpiry
    ++ whenDue (s.ident.sender.any fun snd => snd.left == 0) .morseElementEnd
    ++ whenDue (ranDown s.tone.timer) .tuneGateToggle
    ++ whenDue (ranDown s.keying.poll) .pollTimerExpiry

/-- R149: the floor takes the message that waits in the inbound buffer. -/
def inboundCommand : PanelMessage → Instr
  | .take => .take
  | .give => .give
  | .halt => .halt
  | .resume => .resume

/-- R146: the 50 µs of quiet after a closing run: the part's own, or another master's. -/
def quietRuns (s : State) : Bool :=
  match s.bus.engine with
  | .sending => !s.bus.attemptOpen
  | .listening | .following => s.bus.closed
  | .free | .recovering => false

/-- R146, R147, R149, R151: the bus engine's own moves. -/
def dueBus (s : State) : List Instr :=
  (s.bus.inbound.map inboundCommand).toList
    ++ whenDue
      (s.bus.engine == .free && (s.bus.inFlight.isSome || (nextWork s).isSome)
        || s.bus.engine == .recovering && s.bus.sbcLow && s.bus.inFlight.isNone
          && (nextWork s).isSome)
      .busTransactionStart
    ++ whenDue (quietRuns s) .busFree
    ++ whenDue (s.bus.engine == .recovering && !s.bus.sbcLow) .busRecovery
    ++ whenDue (s.bus.engine == .following && ranDown s.bus.hold) .inboundHoldTimeout

/-- Every event that is due. -/
def due (s : State) : List Instr :=
  dueOrder s ++ duePresence s ++ dueFloor s ++ dueTimers s ++ dueBus s

/-! ### A millisecond -/

/-- A running timer comes down by one millisecond. -/
def countDown (t : Option Nat) : Option Nat := t.map (· - 1)

/-- One millisecond passes: the stamp rises and every running timer comes down. -/
def passMs (s : State) : State :=
  let s := s.withStamp (s.stamp + 1)
  let s := s.withFloor { s.floor with
    startWait := countDown s.floor.startWait, hang := countDown s.floor.hang,
    rejoin := countDown s.floor.rejoin }
  let s := s.withDuty { s.duty with timer := s.duty.timer - 1 }
  let s := s.withPlayout { s.playout with timer := countDown s.playout.timer }
  let s := s.withIdent { s.ident with
    periodic := countDown s.ident.periodic, closing := countDown s.ident.closing,
    grace := countDown s.ident.grace,
    sender := s.ident.sender.map fun snd => { snd with left := snd.left - 1 } }
  let s := s.withTone { s.tone with
    timer := countDown s.tone.timer, age := if s.tone.gate then s.tone.age + 1 else 0 }
  let s := s.withKeying { s.keying with
    lead := countDown s.keying.lead, poll := countDown s.keying.poll }
  s.withBus { s.bus with hold := countDown s.bus.hold }

/-- R16: a millisecond of PTT_OUT assertion brings KEYED_MILLISECOND. -/
def tick (s : State) : State :=
  (passMs s).withPending (whenDue (pttOut s) .keyedMillisecond)

/-- Of several events that are due together, the free value says which comes first (log 4). -/
def chooseDue (s : State) (c : Instr) (rest : List Instr) : State :=
  if rest.isEmpty then s.withPending [c]
  else
    let i := Config.dueChoice s.free % (rest.length + 1)
    (s.withFree (s.free + 1)).withPending [((c :: rest)[i]?).getD c]

/-- What a step does on an empty queue. While RESET_N is low the part stands still (R141). -/
def idle (s : State) : State :=
  if s.pins.resetLow then s
  else match due s with
    | [] => tick s
    | c :: rest => chooseDue s c rest

end Sys2Proof.Machine
end

