-- ==== Sys2Proof/Machine/Dispatch.lean ====
section
/-! DEFINITION. One arm for each command: its meaning. -/

namespace Sys2Proof.Machine

def exec (i : Instr) (s : State) : Host.Outcome State Fault Refusal :=
  match i with
  | .powerOn => Sys2Proof.Machine.execPowerOn s
  | .resetAsserted => Sys2Proof.Machine.execResetAsserted s
  | .resetReleased => Sys2Proof.Machine.execResetReleased s
  | .restart => Sys2Proof.Machine.execRestart s
  | .summaryWrite high value => Sys2Proof.Machine.execSummaryWrite high value s
  | .maskWrite high value => Sys2Proof.Machine.execMaskWrite high value s
  | .registerWrite position value => Sys2Proof.Machine.execRegisterWrite position value s
  | .hostWrite command address data => Sys2Proof.Machine.execHostWrite command address data s
  | .orderCellHandover seat => Sys2Proof.Machine.execOrderCellHandover seat s
  | .reportCellReturn seat => Sys2Proof.Machine.execReportCellReturn seat s
  | .audioCellTake seat cell => Sys2Proof.Machine.execAudioCellTake seat cell s
  | .busCellHandover cell => Sys2Proof.Machine.execBusCellHandover cell s
  | .attach => Sys2Proof.Machine.execAttach s
  | .detach => Sys2Proof.Machine.execDetach s
  | .presence => Sys2Proof.Machine.execPresence s
  | .changeCode => Sys2Proof.Machine.execChangeCode s
  | .memberWrite => Sys2Proof.Machine.execMemberWrite s
  | .memberRemove => Sys2Proof.Machine.execMemberRemove s
  | .dayRoll => Sys2Proof.Machine.execDayRoll s
  | .bandWrite => Sys2Proof.Machine.execBandWrite s
  | .bandRemove => Sys2Proof.Machine.execBandRemove s
  | .check => Sys2Proof.Machine.execCheck s
  | .request => Sys2Proof.Machine.execRequest s
  | .withdraw => Sys2Proof.Machine.execWithdraw s
  | .release => Sys2Proof.Machine.execRelease s
  | .forceRelease => Sys2Proof.Machine.execForceRelease s
  | .ampRestore => Sys2Proof.Machine.execAmpRestore s
  | .stationWrite => Sys2Proof.Machine.execStationWrite s
  | .beginService => Sys2Proof.Machine.execBeginService s
  | .endService => Sys2Proof.Machine.execEndService s
  | .unknownOrder => Sys2Proof.Machine.execUnknownOrder s
  | .presenceExpiry seat => Sys2Proof.Machine.execPresenceExpiry seat s
  | .setupPlace => Sys2Proof.Machine.execSetupPlace s
  | .startWaitExpiry => Sys2Proof.Machine.execStartWaitExpiry s
  | .keyDownExpiry => Sys2Proof.Machine.execKeyDownExpiry s
  | .timeWarning => Sys2Proof.Machine.execTimeWarning s
  | .hangExpiry => Sys2Proof.Machine.execHangExpiry s
  | .rejoinExpiry => Sys2Proof.Machine.execRejoinExpiry s
  | .keyedMillisecond => Sys2Proof.Machine.execKeyedMillisecond s
  | .dutyIntervalExpiry => Sys2Proof.Machine.execDutyIntervalExpiry s
  | .leadTimerExpiry => Sys2Proof.Machine.execLeadTimerExpiry s
  | .playoutStep => Sys2Proof.Machine.execPlayoutStep s
  | .trim => Sys2Proof.Machine.execTrim s
  | .disorderWindowEnd => Sys2Proof.Machine.execDisorderWindowEnd s
  | .periodicIdExpiry => Sys2Proof.Machine.execPeriodicIdExpiry s
  | .closingExpiry => Sys2Proof.Machine.execClosingExpiry s
  | .graceExpiry => Sys2Proof.Machine.execGraceExpiry s
  | .identKeyRequest => Sys2Proof.Machine.execIdentKeyRequest s
  | .morseElementEnd => Sys2Proof.Machine.execMorseElementEnd s
  | .idComplete => Sys2Proof.Machine.execIdComplete s
  | .overlayComplete => Sys2Proof.Machine.execOverlayComplete s
  | .tuneGateToggle => Sys2Proof.Machine.execTuneGateToggle s
  | .txInhibitAsserted => Sys2Proof.Machine.execTxInhibitAsserted s
  | .txInhibitDeasserted => Sys2Proof.Machine.execTxInhibitDeasserted s
  | .ampFaultAsserted => Sys2Proof.Machine.execAmpFaultAsserted s
  | .ampFaultDeasserted => Sys2Proof.Machine.execAmpFaultDeasserted s
  | .pollTimerExpiry => Sys2Proof.Machine.execPollTimerExpiry s
  | .noStatus => Sys2Proof.Machine.execNoStatus s
  | .busTransactionStart => Sys2Proof.Machine.execBusTransactionStart s
  | .busAttemptEnd ended => Sys2Proof.Machine.execBusAttemptEnd ended s
  | .foreignOpening heard => Sys2Proof.Machine.execForeignOpening heard s
  | .busFree => Sys2Proof.Machine.execBusFree s
  | .busStuck lines => Sys2Proof.Machine.execBusStuck lines s
  | .busRecovery => Sys2Proof.Machine.execBusRecovery s
  | .take => Sys2Proof.Machine.execTake s
  | .give => Sys2Proof.Machine.execGive s
  | .halt => Sys2Proof.Machine.execHalt s
  | .resume => Sys2Proof.Machine.execResume s
  | .stateQuery asked => Sys2Proof.Machine.execStateQuery asked s
  | .inboundHoldTimeout => Sys2Proof.Machine.execInboundHoldTimeout s
  | .cwKeyTransition => Sys2Proof.Machine.execCwKeyTransition s
  | .exchangeTransactionClose => Sys2Proof.Machine.execExchangeTransactionClose s

end Sys2Proof.Machine
end

