-- ==== Sys2Proof/Machine/Samples.lean ====
section
/-! DEFINITION. What the audio DAC plays: the samples of the tone generator and of the frames, 8,000 each
second, eight to a millisecond (R84, R91, R95, R126). -/

namespace Sys2Proof.Machine

/-- 16,384 times the sine of a phase of 0 to 20 eightieths of a turn, rounded down. -/
def quarterSine : List Nat :=
  [0, 1285, 2563, 3824, 5062, 6269, 7438, 8560, 9630, 10640, 11585, 12458, 13254, 13969, 14598,
   15136, 15582, 15931, 16182, 16333, 16384]

/-- R126: the height of the sine wave, without its sign, at a phase in eightieths of a turn. At the four
phases where it is a whole number there is nothing to round. -/
def sineHeight (phase : Nat) : Nat :=
  let j := phase % 40
  let h := quarterSine.getD (if j ≤ 20 then j else 40 - j) 0
  if phase % 20 = 0 then h else h + (Config.toneRoundAway phase).toNat

/-- R126: the sine wave of peak 16,384 at a phase in eightieths of a turn. -/
def sineSample (phase : Nat) : BitVec 16 :=
  if phase < 40 then BitVec.ofInt 16 (sineHeight phase)
  else BitVec.ofInt 16 (-(sineHeight phase : Int))

/-- R126: sample `n` of a burst, which begins at zero phase: at 8,000 samples each second a pitch of p Hz
goes on by p / 100 eightieths of a turn a sample. -/
def burstSample (pitch n : Nat) : BitVec 16 := sineSample (n * (pitch / 100) % 80)

/-- R124, R126: the milliseconds since the running element of a callsign began. -/
def elementAge (snd : Sender) : Nat := ((snd.elements.head?.map Element.dots).getD 0) * snd.dot - snd.left

/-- R126: sample `k` of the present millisecond of ID_TONE: a burst through each dot and dash, 0 through
each gap. -/
def idToneSample (s : State) (k : Nat) : BitVec 16 :=
  match s.ident.sender with
  | some snd => if senderGate s then burstSample snd.pitch (elementAge snd * 8 + k) else 0
  | none => 0

/-- R126: sample `k` of the present millisecond of TUNE_TONE: a burst while the gate is open, else 0. -/
def tuneToneSample (s : State) (k : Nat) : BitVec 16 :=
  if s.tone.gate then burstSample s.tone.pitch (s.tone.age * 8 + k) else 0

/-- R84, R91: sample `k` of the present millisecond of the running playout step. -/
def frameSample (s : State) (k : Nat) : BitVec 16 :=
  match s.playout.step, s.playout.timer with
  | .samples v, some left => v.getD ((20 - left) * 8 + k) 0
  | _, _ => 0

/-- R95, R141: sample `k`, 0 to 7, of the present millisecond of the DAC. -/
def dacSample (s : State) (k : Nat) : BitVec 16 :=
  if s.pins.resetLow then 0
  else match s.source with
    | .frames => frameSample s k
    | .idTone => idToneSample s k
    | .tuneTone => tuneToneSample s k
    | .silence => 0

end Sys2Proof.Machine
end

