-- ==== Sys2Proof/Safety.lean ====
section
/-! DEFINITION. What counts as a safe run: the laws the manual states once and for all, each as a
property of a state that every step keeps, and the terms claims use. -/

namespace Sys2Proof.Machine

/-! ### Keying, floor and identification -/

/-- R130: PTT_OUT is asserted only in ON_AIR or IDENT, while SERVING, with TX_INHIBIT deasserted; and
only while RESET_N is high (R141). -/
structure KeyingLaw (s : State) : Prop where
  floor   : s.keying.state ≠ .unkeyed → s.floor.state = .onAir ∨ s.floor.state = .ident
  serving : s.keying.state ≠ .unkeyed → s.mode = .serving
  inhibit : s.keying.state ≠ .unkeyed → s.pins.txInhibit = false
  reset   : s.keying.state ≠ .unkeyed → s.pins.resetLow = false

/-- R37, R38: the laws of the floor and of the request queue. -/
structure FloorLaw (s : State) : Prop where
  /-- A holder exactly in SETTING, GRANTED, ON_AIR, STALLED and HANG. -/
  holder_state      : s.floor.holder.isSome = s.floor.state.hasHolder
  /-- A grant in force exactly while there is a holder. -/
  grant_holder      : s.floor.grant.isSome = s.floor.holder.isSome
  /-- The holder's seat is ATTACHED to the holder's member. -/
  holder_attached   : ∀ h, s.floor.holder = some h → attachedMember s h.seat = some h.member
  /-- The turn count is 0 with no holder. -/
  count_zero        : s.floor.holder = none → s.floor.turnCount = 0
  /-- At most one entry per seat. -/
  queue_seats       : (s.queue.map Entry.seat).Nodup
  /-- An entry's seat is ATTACHED to the entry's member. -/
  queue_attached    : ∀ e ∈ s.queue, attachedMember s e.seat = some e.member
  /-- Never an entry for the seat that holds the floor. -/
  holder_not_queued : ∀ h, s.floor.holder = some h → ∀ e ∈ s.queue, e.seat ≠ h.seat

/-- R68, R113 to R121: the laws of the identification record, and of SHUT. -/
structure IdentLaw (s : State) : Prop where
  /-- R113: whenever pending is yes, the window is open. -/
  pending_window  : s.ident.pending = true → s.ident.window = true
  overdue_pending : s.ident.overdue = true → s.ident.pending = true
  /-- R114: with the window closed the timers are stopped. -/
  periodic_window : s.ident.periodic.isSome = true → s.ident.window = true
  closing_window  : s.ident.closing.isSome = true → s.ident.window = true
  grace_pending   : s.ident.grace.isSome = true → s.ident.pending = true
  /-- R119, R121: a callsign is sent only while KEYED. -/
  sender_keyed    : s.ident.sender.isSome = true → s.keying.state = .keyed
  /-- R68: while the floor is SHUT, no entry is in the queue and no ID is pending. -/
  shut_queue      : s.floor.state = .shut → s.queue = []
  shut_window     : s.floor.state = .shut → s.ident.window = false

/-! ### Audio, heat, seats and notices -/

/-- R86, R87: the law of the playout queue. -/
structure PlayoutLaw (s : State) : Prop where
  no_point : s.playout.np = none → s.playout.frames = []
  /-- Every frame lies within [np, np + 15] modulo 65536. -/
  window   : ∀ np, s.playout.np = some np → ∀ f ∈ s.playout.frames, (f.seq - np).toNat < 16
  distinct : (s.playout.frames.map Frame.seq).Nodup
  early    : s.playout.earlyRun ≤ 3
  trim     : s.playout.trimRun ≤ 249

/-- R71, R72: the heat level lies between 0 and Qmax, and the tally counts at most 1,000 ms. -/
structure HeatLaw (s : State) : Prop where
  heat  : s.duty.q ≤ s.station.qmax
  tally : s.duty.tOn ≤ 1000

/-- R1, R4, R8: a seat ATTACHED to a member and a member attached to a seat are one relation, and an
attached member is present and ACTIVE. -/
structure SeatLaw (s : State) : Prop where
  seat_member : ∀ (seat : SeatNo) (m : MemberNo), attachedMember s seat = some m →
    ∃ r, s.members[m] = some r ∧ r.attached = some seat ∧ r.state = .active
  member_seat : ∀ (m : MemberNo) (r : Member) (seat : SeatNo),
    s.members[m] = some r → r.attached = some seat → attachedMember s seat = some m

/-- R166: a pending set holds at most one notice of each kind. -/
def NoticeLaw (s : State) : Prop :=
  ∀ seat : SeatNo, (s.seats[seat].notices.map fun n => n.body.kind).Nodup

/-- R164: each seat has at most one order held by the part, and its order cell is part-held exactly
while the part holds one: on the hand-over list, or answered and not yet reported. -/
structure OrderLaw (s : State) : Prop where
  once : s.handovers.Nodup
  held : ∀ seat : SeatNo,
    partHeld s (.order seat) = true ↔ seat ∈ s.handovers ∨ s.seats[seat].answer.isSome = true
  one  : ∀ seat : SeatNo, seat ∈ s.handovers → s.seats[seat].answer = none

/-! ### The station bus -/

/-- R138, R151, R152: the laws of the work list and the engine. -/
structure BusLaw (s : State) : Prop where
  /-- A frame of the part's own is open only while SENDING a transaction. -/
  open_sending : s.bus.attemptOpen = true → s.bus.engine = .sending ∧ s.bus.inFlight.isSome = true
  /-- A transaction in flight has a further attempt and a further loss to go. -/
  flight_left  : ∀ t, s.bus.inFlight = some t → t.attempts < 4 ∧ t.losses < 16
  /-- A waiting transaction has used none, and stands in its owner's section. -/
  floor_fresh  : ∀ t ∈ s.bus.floorWork, t.owner.isFloor = true ∧ t.attempts = 0 ∧ t.losses = 0
  cell_fresh   : ∀ t ∈ s.bus.cellWork, (∃ n, t.owner = .cell n) ∧ t.attempts = 0 ∧ t.losses = 0
  poll_fresh   : ∀ t, s.bus.pollWork = some t → t = newTxn .poll .status
  /-- At most one poll is outstanding. -/
  poll_once    : s.bus.pollWork.isSome = true → s.bus.inFlight.any (fun t => t.owner == .poll) = false
  /-- A frame is followed, and a hold runs, only while FOLLOWING (R149). -/
  followed_following : s.bus.followed.isSome = true → s.bus.engine = .following
  hold_following     : s.bus.hold.isSome = true → s.bus.engine = .following
  /-- A frame that has closed is followed no more. -/
  closed_done        : s.bus.closed = true → s.bus.followed = none
  /-- The address byte of a frame that is not followed is kept while LISTENING, to the frame's end. -/
  unfollowed_listening : s.bus.unfollowed.isSome = true → s.bus.engine = .listening
  closed_passed        : s.bus.closed = true → s.bus.unfollowed = none
  /-- The quiet behind another master's closing runs only while that frame's follower or listener. -/
  closed_heard       : s.bus.closed = true → s.bus.engine = .listening ∨ s.bus.engine = .following
  /-- A stuck bus carries nothing. -/
  stuck_none   : s.bus.engine = .recovering → s.bus.inFlight = none

/-! ### Between acts -/

/-- What holds at the close of every act: the closing timer runs only under its conditions (R116), the
poll timer runs exactly under its own (R138), the source and the requested key state are those of the
situation (R95), no rewrite of the floor board is due (R70), and no report waits beside a part-held report
cell (R167). -/
structure Settled (s : State) : Prop where
  closing : s.ident.closing.isSome = true → closingRuns s = true
  poll    : s.keying.poll.isSome = pollRuns s
  source  : s.source = selectSource s
  key     : s.keying.requestedKey = selectKey s
  board   : s.page.boardDue = false
  reports : ∀ seat : SeatNo, reportDue s seat = false

/-! ### Terms for claims -/

/-- An outcome is a next state of which a property holds. -/
def Gives (o : Host.Outcome State Fault Refusal) (P : State → Prop) : Prop :=
  ∃ t, o = .next t ∧ P t

/-- RESET_N is high (R141). -/
abbrev Running (s : State) : Prop := s.pins.resetLow = false

/-- The port takes the host's writes (R141, R159, R163). -/
abbrev PortTakes (s : State) : Prop := s.pins.resetLow = false ∧ s.port.phase = .serving

/-- R159: a command byte of a write transaction. -/
abbrev IsWrite (command : Byte) : Prop := commandOk command = true ∧ command.getLsbD 7 = false

/-- R165, R167: an order was answered: with the report cell part-held before, the answer stands in the
report cell, handed to the host with the order cell and the seat's SUMMARY bit; otherwise it waits. -/
def Answered (s t : State) (seat : SeatNo) (a : Answer) : Prop :=
  if partHeld s (.report seat) then
    cellByte t (.report seat) 1 = 1 ∧ cellBytes t (.report seat) 4 32 = answerBytes (some a)
      ∧ partHeld t (.report seat) = false ∧ partHeld t (.order seat) = false
      ∧ t.seats[seat].answer = none ∧ t.port.summary.getLsbD seat.val = true
  else t.seats[seat].answer = some a ∧ partHeld t (.order seat) = partHeld s (.order seat)

/-- R166, R167: a notice was raised for a seat: with the report cell part-held before, a report was
handed to the host; otherwise the notice is pending. -/
def Noticed (s t : State) (seat : SeatNo) (body : NoticeBody) : Prop :=
  if partHeld s (.report seat) then
    partHeld t (.report seat) = false ∧ t.port.summary.getLsbD seat.val = true
  else (⟨body, s.stamp⟩ : Notice) ∈ t.seats[seat].notices

/-- R148, R149: a panel message reaches the floor: it waits in the inbound buffer, or its frame finds the
buffer empty. -/
def Arrives (m : PanelMessage) (s : State) : Prop := s.bus.inbound = some m ∨ s.bus.inbound = none

/-- R148, R149, R181: a command frame the part follows: it follows it already, under the address byte it was
taken on, or the frame is at the general address or at the own address as it stands, and is not an open
frame that the part only listens to under that byte (log 17). -/
def Followed (s : State) (addressByte : Byte) : Prop :=
  (∃ x, s.bus.followed = some x ∧ x.address = addressByte)
    ∨ (addressByte = 0 ∨ addressByte = addressByteOf s.station.ownAddress false)
      ∧ s.bus.unfollowed ≠ some addressByte

/-- The number the memory shows in some bytes from an address on, the low byte first. -/
def shown (s : State) (a width : Nat) : Nat :=
  fromLE ((List.range width).map fun i => memoryByte s (a + i))

/-- A field of a layout: its offset, its bytes and its number. -/
abbrev FieldAt := Nat × Nat × Nat

/-- The memory shows a layout from an address on. -/
def Shows (s : State) (base : Nat) (fields : List FieldAt) : Prop :=
  ∀ x ∈ fields, shown s (base + x.1) x.2.1 = x.2.2 % 256 ^ x.2.1

/-- R176: the numeric fields of the station record. -/
def stationFields (r : StationRecord) : List FieldAt :=
  [(12, 2, r.cst), (14, 2, r.cb), (16, 2, r.guard), (18, 2, r.keyLimit), (20, 2, r.minGrant),
    (22, 1, r.hangTime), (23, 1, r.turnLimit), (24, 1, r.startWait), (25, 1, r.threshold),
    (26, 1, r.trimMargin), (27, 1, r.starveLimit), (28, 1, r.disorderLimit), (30, 2, r.rejoin),
    (32, 1, r.presence), (33, 1, r.lead), (34, 1, r.idInterval), (35, 1, r.closing), (36, 2, r.grace),
    (38, 1, r.idSpeed), (40, 2, r.pitch), (42, 4, r.qmax), (46, 2, r.cool), (48, 1, r.tuneCeiling),
    (49, 1, r.tuneLimit), (50, 1, r.swrLimit), (51, 1, r.ownAddress), (52, 1, r.radioAddress),
    (53, 1, r.antennaAddress), (54, 1, r.ampAddress), (55, 1, r.panelAddress)]

/-- R175: the fields of the device page but the queue snapshot and the station record. -/
def pageFields (s : State) : List FieldAt :=
  let f := s.floor
  let b := s.bus.believed
  [(0x00, 2, 0x0C12), (0x02, 1, 1), (0x03, 1, if s.mode = .serving then 1 else 0),
    (0x04, 1, 12), (0x05, 1, 48), (0x06, 1, 32), (0x07, 1, 4),
    (0x08, 1, f.state.code), (0x09, 1, (f.holder.map fun h => h.seat.val).getD 0xFF),
    (0x0A, 1, (f.holder.map fun h => h.member.val).getD 0xFF), (0x0B, 1, f.turnCount),
    (0x0C, 4, (f.grant.map Grant.freq).getD 0), (0x10, 1, (f.grant.map fun g => g.mode.code).getD 0),
    (0x11, 1, if (f.grant.map Grant.ampUsed).getD false then 1 else 0),
    (0x12, 2, (f.grant.map Grant.power).getD 0), (0x14, 2, (f.grant.map Grant.duration).getD 0),
    (0x16, 4, s.page.keyDownRemaining), (0x1A, 1, s.queue.length),
    (0x1B, 1, (f.state == .panelHeld).toNat + 2 * s.pins.txInhibit.toNat
      + 4 * (!s.keying.ampInService).toNat + 8 * s.ident.window.toNat + 16 * s.ident.pending.toNat),
    (0x1C, 4, s.page.q), (0x20, 2, s.page.idSeconds), (0x22, 2, 0),
    (0x24, 4, s.page.updateCount.toNat), (0x28, 4, s.page.stamp.toNat), (0x2C, 4, 0),
    (0x48, 1, b.port.isSome.toNat + 2 * b.freq.isSome.toNat + 4 * b.mode.isSome.toNat
      + 8 * b.drive.isSome.toNat + 16 * b.amp.isSome.toNat),
    (0x49, 1, b.port.getD 0), (0x4A, 4, b.freq.getD 0), (0x4E, 1, (b.mode.map TxMode.code).getD 0),
    (0x4F, 1, if b.amp = some .operate then 1 else 0), (0x50, 2, b.drive.getD 0)]

/-- R171, R176: the other fields of the station record: the callsign's length, the criteria and the flags. -/
def stationFlags (r : StationRecord) : List FieldAt :=
  [(0, 1, r.callsign.length),
    (29, 1, r.criteria.starve.toNat + 2 * r.criteria.disorder.toNat + 4 * r.criteria.resync.toNat),
    (39, 1, r.pulsedTune.toNat + 2 * r.wrap.toNat + 4 * r.ampPresent.toNat + 8 * r.pollEnable.toNat)]

/-- R100, R176: the fields of a seat board. -/
def boardFields (s : State) (seat : SeatNo) : List FieldAt :=
  let r := s.seats[seat]
  let c := r.counters
  let holds := s.floor.holder.any fun h => h.seat == seat
  [(0, 1, if r.attachment.isSome then 1 else 0),
    (1, 1, (r.attachment.map fun a => a.member.val).getD 0xFF),
    (2, 4, (r.attachment.map fun a => a.deadline.toNat).getD 0), (6, 1, r.saturated.toNat),
    (7, 1, r.criteria.starve.toNat + 2 * r.criteria.disorder.toNat + 4 * r.criteria.resync.toNat),
    (8, 1, r.warned.toNat), (9, 1, if holds then s.playout.frames.length else 0),
    (10, 1, if holds then s.playout.depth else 0), (12, 2, c.taken), (14, 2, c.late), (16, 2, c.early),
    (18, 2, c.duplicate), (20, 2, c.underflow), (22, 2, c.trimmed), (24, 2, c.resync), (26, 2, c.refused)]

/-- R171, R176: the fields of a member image entry. -/
def memberFields (r : Member) : List FieldAt :=
  [(0, 1, if r.state = .active then 1 else 2), (1, 1, r.grade), (2, 1, r.priority.toNat), (3, 1, r.misses),
    (4, 2, r.ceiling), (6, 2, r.allowance), (8, 1, (r.attached.map fun n => n.val).getD 0xFF),
    (9, 1, r.callsign.length), (20, 4, r.used / 1000), (24, 4, 0), (28, 4, 0)]

/-- R176: the fields of a band image entry. -/
def bandFields (g : Segment) : List FieldAt :=
  [(0, 1, 1), (1, 1, g.minGrade), (2, 1, g.modes.toNat), (3, 1, g.port), (4, 1, g.amp.toNat),
    (5, 4, g.low), (9, 4, g.high), (13, 2, g.ceiling)]

/-- R160, R163, R169, R175, R176: what the host reads at every address of the exchange memory. -/
structure MemoryShows (s : State) : Prop where
  page     : Shows s 0 (pageFields s)
  queued   : ∀ (i : Nat) (e : Entry), i < 12 → s.queue[i]? = some e →
    memoryByte s (0x30 + 2 * i) = BitVec.ofNat 8 e.seat.val
      ∧ memoryByte s (0x31 + 2 * i) = BitVec.ofNat 8 (e.member.val + if e.priority then 0x80 else 0)
  unqueued : ∀ i : Nat, i < 12 → s.queue.length ≤ i →
    memoryByte s (0x30 + 2 * i) = 0xFF ∧ memoryByte s (0x31 + 2 * i) = 0xFF
  station  : Shows s 0x80 (stationFields s.station) ∧ Shows s 0x80 (stationFlags s.station)
  callsign : ∀ i : Nat, i < 10 → memoryByte s (0x81 + i) = s.station.callsign.getD i 0
  /-- R175: the bytes not listed; byte 11 of the station record and what is behind it are log 41. -/
  unlisted : ∀ a : Nat, 0x52 ≤ a ∧ a < 0x80 ∨ a = 0x8B ∨ 0xB8 ≤ a ∧ a < 0x200 → memoryByte s a = 0
  board    : ∀ seat : SeatNo, Shows s (0x1780 + 2048 * seat.val) (boardFields s seat)
    ∧ ∀ i : Nat, i = 11 ∨ 28 ≤ i ∧ i < 128 → memoryByte s (0x1780 + 2048 * seat.val + i) = 0
  member   : ∀ (m : MemberNo) (r : Member), s.members[m] = some r →
    Shows s (0x200 + 32 * m.val) (memberFields r)
      ∧ ∀ i : Nat, i < 10 → memoryByte s (0x200 + 32 * m.val + 10 + i) = r.callsign.getD i 0
  noMember : ∀ m : MemberNo, s.members[m] = none → ∀ i : Nat, i < 32 →
    memoryByte s (0x200 + 32 * m.val + i) = if i = 8 then 0xFF else 0
  band     : ∀ (n : SlotNo) (g : Segment), s.plan[n] = some g →
    Shows s (0x800 + 32 * n.val) (bandFields g)
      ∧ ∀ i : Nat, 15 ≤ i ∧ i < 32 → memoryByte s (0x800 + 32 * n.val + i) = 0
  noBand   : ∀ n : SlotNo, s.plan[n] = none → ∀ i : Nat, i < 32 →
    memoryByte s (0x800 + 32 * n.val + i) = 0
  cells    : ∀ (cell : CellRef) (i : Nat), i < cell.size →
    memoryByte s (cell.base + i) = Memory.read s.ram (cell.base + i)
  unused   : ∀ a : Nat, 0x7000 ≤ a ∧ a < 0x7FF8 → memoryByte s a = 0
  register : Shows s 0x7FF8
    [(0, 2, s.port.summary.toNat), (2, 2, s.port.mask.toNat),
      (4, 2, if s.mode = .serving then 0x100 else 0), (6, 2, s.port.refused.toNat)]

/-- An order of a kind stands at the front of the hand-over list, and the part is running. -/
structure OrderReady (kind : Nat) (seat : SeatNo) (rest : List SeatNo) (s : State) : Prop where
  running : s.pins.resetLow = false
  front   : s.handovers = seat :: rest
  kind    : (orderKind s seat).toNat = kind

/-- The answer of the order at the front: its tag, its kind, a result and data (R165). -/
def answerWith (s : State) (seat : SeatNo) (result : Result) (data : List Byte) : Answer :=
  ⟨orderTag s seat, orderKind s seat, result, data⟩

/-- R48, R49: the station stands at a grant's setting: nothing that a setup waits for is outstanding, and no
item of the setup list differs from what is believed. -/
abbrev AtSetting (s : State) (g : Grant) : Prop :=
  floorOutstanding s = false ∧ passThroughOutstanding s = false
    ∧ (s.station.ampPresent = true → g.ampUsed = false → s.bus.believed.amp = some .standby)
    ∧ s.bus.believed.port = some g.port ∧ s.bus.believed.freq = some g.freq
    ∧ s.bus.believed.mode = some g.mode ∧ s.bus.believed.drive = some g.power
    ∧ (g.ampUsed = true → s.bus.believed.amp = some .operate)

/-- R136: a TUNE whose setup list is empty would be asked to key with an amplifier fault standing. -/
abbrev TuneFaults (s : State) (g : Grant) : Prop :=
  AtSetting s g ∧ g.mode = .tune ∧ s.pins.ampFault = true ∧ s.bus.believed.amp = some .operate

/-- R46, R48, R49, R57, R70: what the floor does with a grant that enters SETTING, within the act. With items
to place, or something to wait for, it stands in SETTING. With an empty setup list SETTING is left at once:
for GRANTED with its start-wait timer and an emptied playout queue, for TUNE for ON_AIR with the key request.
That no item is placed yet in SETTING is the model's choice: SETUP_PLACE places them in an act of its own
(log 44). `b` is a state with the station as it is when SETTING is entered. -/
structure GrantTaken (b t : State) (g : Grant) : Prop where
  setting : ¬ AtSetting b g → t.floor.state = .setting ∧ t.floor.setupPlaced = false
  granted : AtSetting b g → g.mode ≠ .tune →
    t.floor.state = .granted ∧ t.floor.startWait = some (b.station.startWait * 1000)
      ∧ t.playout.frames = [] ∧ t.playout.np = none
  onAir   : AtSetting b g → g.mode = .tune →
    t.floor.state = .onAir ∧ t.floor.startWait = none
      ∧ (b.mode = .serving → b.pins.txInhibit = false →
          t.keying.state ≠ .unkeyed
            ∧ (b.keying.state = .unkeyed → b.station.lead ≠ 0 →
                t.keying.state = .leading ∧ t.keying.lead = some b.station.lead
                  ∧ t.ident.window = true))

/-- R49, R70: the next turn is on the air already: a TUNE whose setup was empty. -/
def NextOnAir (t : State) : Prop :=
  t.floor.state = .onAir ∧ t.floor.holder.isSome = true ∧ grantIsTune t = true

/-- R59, R61: the holder's turn is over with a cause, and the floor has gone on. -/
structure TurnClosed (s t : State) (h : Holder) (cause : EndCause) : Prop where
  /-- R59, R132: the station is unkeyed; a next turn may have keyed it in the same act (R49, R70). -/
  unkeyed : t.keying.state = .unkeyed ∨ NextOnAir t
  /-- The seat holds the floor no more. -/
  gone    : ∀ h', t.floor.holder = some h' → h'.seat ≠ h.seat
  /-- R59: its timers are stopped; a start-wait timer that runs is that of a next turn (R51, R70). -/
  timers  : t.floor.hang = none ∧ t.floor.rejoin = none
    ∧ (t.floor.startWait = none ∨ t.floor.state = .granted)
  /-- Its waiting setup items are off the work list. That no item of a next turn stands there either, though
that turn may have entered SETTING in the same act, is the model's choice: SETUP_PLACE places its items in an
act of its own (log 44). -/
  setup   : ∀ x ∈ t.bus.floorWork, x.owner ≠ .setup
  /-- R61: a STANDBY is placed for an amplifier believed OPERATE. -/
  standby : cause ≠ .panelHeld → cause ≠ .shut → s.station.ampPresent = true →
    s.bus.believed.amp = some .operate → standbyOutstanding t = true

/-- R59 to R61: the holder's turn has ended with a cause, of which its seat is told. -/
structure TurnEnded (s t : State) (h : Holder) (cause : EndCause) (detail : EndDetail) : Prop
    extends TurnClosed s t h cause where
  /-- R60: the END notice, with the turn's keyed time. -/
  notice : Noticed s t h.seat (.ended cause detail true h.member s.floor.keyedMs)

/-- A turn has ended and, with nothing pending and nobody waiting, the floor stands IDLE (R45). -/
structure EndedToIdle (s t : State) (h : Holder) (cause : EndCause) (detail : EndDetail) : Prop
    extends TurnEnded s t h cause detail where
  idle : s.queue = [] → s.ident.pending = false →
    t.floor.state = .idle ∧ t.floor.holder = none ∧ t.floor.grant = none
      ∧ t.floor.turnCount = 0 ∧ t.floor.keyedMs = 0

/-- R49, R60: the setup item a message to the station is. -/
def IsItem (m : Message) : SetupItem → Prop
  | .ampStandby => m = .standby
  | .antenna => ∃ port, m = .select port
  | .frequency => ∃ freq mode, m = .setFreq freq mode
  | .drive => ∃ power, m = .setDrive power
  | .ampOperate => m = .operate

/-- R49, R60, R61, R153: the turn has ended SETUP_FAILED with an item as the detail. The amplifier's state is
unknown at the end where it was the amplifier's item that failed. -/
def SetupFailed (s t : State) (h : Holder) (item : SetupItem) : Prop :=
  EndedToIdle
    (if item = .ampStandby ∨ item = .ampOperate then
      s.withBus { s.bus with believed := { s.bus.believed with amp := none } } else s)
    t h .setupFailed (.item item)

/-- R64: an identification needs a STANDBY: an amplifier is present, and it is believed OPERATE or unknown, or
an OPERATE is in flight. -/
abbrev NeedsStandby (s : State) : Prop :=
  s.station.ampPresent = true
    ∧ (s.bus.believed.amp ≠ some .standby ∨ s.bus.inFlight.any (fun x => x.message == .operate) = true)

/-- R64: the floor has entered IDENT from IDLE, RESTING, LOCAL or SHUT, with a STANDBY placed where the
identification needs one and none is outstanding. -/
structure IdentEntered (s t : State) : Prop where
  ident   : t.floor.state = .ident ∧ t.floor.identAsked = false
  standby : NeedsStandby s → standbyOutstanding s = false →
    t.bus.floorWork = s.bus.floorWork ++ [⟨.standby, .standby, 0, 0, 0⟩]
  kept    : ¬ NeedsStandby s ∨ standbyOutstanding s = true → t.bus.floorWork = s.bus.floorWork

/-- R39: an entry joins a queue behind so many others: a normal entry at the back, a priority entry behind the
last priority entry, or at the front where there is none. -/
structure JoinsBehind (e : Entry) (q : List Entry) (i : Nat) : Prop where
  inside   : i ≤ q.length
  normal   : e.priority = false → i = q.length
  priority : e.priority = true → (∀ x ∈ q.drop i, x.priority = false)
    ∧ (i = 0 ∨ (q.take i).getLast?.any Entry.priority = true)

/-- R11: a seat has left its member with a cause, and the floor has acted on it (R62). -/
structure SeatLeft (s t : State) (seat : SeatNo) (m : MemberNo) (cause : SeatCause) : Prop where
  vacant    : t.seats[seat].attachment = none
  notice    : Noticed s t seat (.seat cause m)
  /-- R11: every other notice of the seat is discarded: the SEAT notice alone is pending, or stands in the
  report of this act. -/
  discarded :
    if partHeld s (.report seat) then
      t.seats[seat].notices = [] ∧ cellByte t (.report seat) 0 = 1
        ∧ cellBytes t (.report seat) 36 16 = (⟨.seat cause m, s.stamp⟩ : Notice).bytes
    else t.seats[seat].notices = [⟨.seat cause m, s.stamp⟩]
  /-- R62: an entry of the seat is gone from the queue. -/
  queue     : ∀ e ∈ t.queue, e.seat ≠ seat
  holder    : ∀ h, t.floor.holder = some h → h.seat ≠ seat
  unkeyed   : holderSeat s = some seat → t.keying.state = .unkeyed ∨ NextOnAir t
  /-- R62: a turn of the seat is over, with the turn-end cause that goes with the detach cause. -/
  turn      : ∀ h, s.floor.holder = some h → h.seat = seat → TurnClosed s t h cause.endCause

/-- R11: a seat has been detached from a member with a cause, and no other seat or member changed. -/
structure Detached (s t : State) (seat : SeatNo) (m : MemberNo) (cause : SeatCause) : Prop
    extends SeatLeft s t seat m cause where
  others : ∀ x : SeatNo, x ≠ seat → t.seats[x].attachment = s.seats[x].attachment
  member : ∀ x : MemberNo,
    t.members[x] = if x = m then s.members[m].map (fun r => { r with attached := none })
      else s.members[x]

/-- R13: a seat's attachment after the take of an order or of an audio cell from a seat, whose deadline
it renews. -/
def renewedAt (s : State) (seat x : SeatNo) : Option Attachment :=
  if x = seat then
    s.seats[x].attachment.map fun a =>
      { a with deadline := s.stamp + BitVec.ofNat 32 (s.station.presence * 1000) }
  else s.seats[x].attachment

/-- R13: the take of an order or of an audio cell has renewed the seat's deadline, and touched no other
attachment. -/
def RenewedAtTake (s t : State) (seat : SeatNo) : Prop :=
  ∀ x : SeatNo, t.seats[x].attachment = renewedAt s seat x

/-- R4, R11: the seat of a member suspended by an order has left it; the seat that gave the order has its
deadline renewed, and no other attachment changed. A member attached to no seat leaves all as it was. -/
structure Revoked (s t : State) (giver : SeatNo) (m : MemberNo) (attached : Option SeatNo) : Prop where
  left   : ∀ x, attached = some x → SeatLeft s t x m .suspended
  others : ∀ x : SeatNo, attached ≠ some x → t.seats[x].attachment = renewedAt s giver x
  alone  : attached = none → t.floor = s.floor ∧ t.queue = s.queue

/-- R97, R99: counters of one seat were raised in turn, and no other seat's. -/
def Counted (s t : State) (seat : SeatNo) (names : List CounterName) : Prop :=
  ∀ x : SeatNo,
    let r := if x = seat then names.foldl (fun r n => Seat.count s.station.wrap n r) s.seats[x]
      else s.seats[x]
    t.seats[x].counters = r.counters ∧ t.seats[x].saturated = r.saturated

/-- A report was written for a seat (R167, R173). -/
structure Reported (s t : State) (seat : SeatNo) : Prop where
  bytes   : cellBytes t (.report seat) 0 255 = reportBytes s.stamp s.seats[seat]
  given   : partHeld t (.report seat) = false
  notices : t.seats[seat].notices = []
  answer  : t.seats[seat].answer = none
  order   : s.seats[seat].answer.isSome = true → partHeld t (.order seat) = false
  summary : t.port.summary.getLsbD seat.val = true

/-! ### Frames -/

/-- The parts of the state by which a frame is stated. Not among them is what the close of any act may
write: the pending notices and answers, SUMMARY, the report cells, the device page, the source and the
requested key state, and the closing and poll timers with the poll's own entry and count. -/
inductive Part where
  | commands | freeCount | lines | stamp | mode | members | attachments | figures | plan | station
  | floor | queue | heat | playout | watch | ident | tone | keying | engine | work | believed
  | handovers | registers
  deriving DecidableEq, Repr

/-- Every part. -/
def Part.all : List Part :=
  [.commands, .freeCount, .lines, .stamp, .mode, .members, .attachments, .figures, .plan, .station,
   .floor, .queue, .heat, .playout, .watch, .ident, .tone, .keying, .engine, .work, .believed,
   .handovers, .registers]

/-- A part of the state is as it was. -/
def Kept (s t : State) : Part → Prop
  | .commands => t.pending = s.pending
  | .freeCount => t.free = s.free
  | .lines => t.pins = s.pins
  | .stamp => t.stamp = s.stamp
  | .mode => t.mode = s.mode
  | .members => t.members = s.members
  | .attachments => ∀ seat : SeatNo, t.seats[seat].attachment = s.seats[seat].attachment
  | .figures => ∀ seat : SeatNo,
    t.seats[seat].counters = s.seats[seat].counters
      ∧ t.seats[seat].saturated = s.seats[seat].saturated
      ∧ t.seats[seat].criteria = s.seats[seat].criteria
      ∧ t.seats[seat].warned = s.seats[seat].warned
  | .plan => t.plan = s.plan
  | .station => t.station = s.station
  | .floor => t.floor = s.floor
  | .queue => t.queue = s.queue
  | .heat => t.duty = s.duty
  | .playout => t.playout = s.playout
  | .watch => t.watch = s.watch
  | .ident => { t.ident with closing := s.ident.closing } = s.ident
  | .tone => t.tone = s.tone
  | .keying =>
    t.keying.state = s.keying.state ∧ t.keying.lead = s.keying.lead
      ∧ t.keying.ampInService = s.keying.ampInService
  | .engine =>
    t.bus.engine = s.bus.engine ∧ t.bus.attemptOpen = s.bus.attemptOpen
      ∧ t.bus.sbcLow = s.bus.sbcLow ∧ t.bus.sbdPulses = s.bus.sbdPulses
      ∧ t.bus.pulses = s.bus.pulses ∧ t.bus.inbound = s.bus.inbound ∧ t.bus.hold = s.bus.hold
      ∧ t.bus.followed = s.bus.followed ∧ t.bus.unfollowed = s.bus.unfollowed
      ∧ t.bus.acked = s.bus.acked ∧ t.bus.closed = s.bus.closed ∧ t.bus.reply = s.bus.reply
  | .work =>
    t.bus.inFlight = s.bus.inFlight ∧ t.bus.floorWork = s.bus.floorWork
      ∧ t.bus.cellWork = s.bus.cellWork
  | .believed => t.bus.believed = s.bus.believed
  | .handovers => t.handovers = s.handovers
  | .registers =>
    t.port.mask = s.port.mask ∧ t.port.refused = s.port.refused
      ∧ t.port.phase = s.port.phase ∧ t.port.served = s.port.served

/-- The parts a turn's end or a serving point may reach, with a key request or an unkey. -/
def turnParts : List Part := [.figures, .floor, .queue, .playout, .watch, .ident, .tone, .keying, .work]

/-- The parts a detachment may reach. -/
def detachParts : List Part := [.attachments, .members] ++ turnParts

/-- The parts a command may change. -/
def touches : Instr → List Part
  | .powerOn => Part.all.filter fun p => p ≠ .commands ∧ p ≠ .freeCount ∧ p ≠ .lines
  | .resetReleased => Part.all.filter fun p => p ≠ .commands ∧ p ≠ .freeCount
  | .restart | .registerWrite .. =>
    Part.all.filter fun p =>
      p ≠ .commands ∧ p ≠ .freeCount ∧ p ≠ .lines ∧ p ≠ .plan ∧ p ≠ .station
  | .hostWrite .. =>
    Part.all.filter fun p => p ≠ .commands ∧ p ≠ .lines ∧ p ≠ .plan ∧ p ≠ .station
  | .resetAsserted => [.lines, .playout, .ident, .tone, .keying, .engine]
  | .summaryWrite .. | .maskWrite .. | .exchangeTransactionClose => [.registers]
  | .orderCellHandover _ => [.handovers, .registers]
  | .reportCellReturn _ => [.registers]
  | .audioCellTake .. => [.registers, .freeCount, .attachments] ++ turnParts
  | .busCellHandover _ => [.registers, .work]
  | .attach | .detach | .memberWrite | .memberRemove => .handovers :: detachParts
  | .endService => [.handovers, .mode] ++ detachParts
  | .presence | .check | .unknownOrder => [.handovers, .attachments]
  | .changeCode | .dayRoll => [.handovers, .attachments, .members]
  | .bandWrite | .bandRemove => [.handovers, .attachments, .plan]
  | .request | .withdraw | .release | .forceRelease => [.handovers, .attachments] ++ turnParts
  | .ampRestore => [.handovers, .attachments, .keying]
  | .stationWrite => [.handovers, .attachments, .station, .heat, .believed]
  | .beginService => [.handovers, .attachments, .mode]
  | .presenceExpiry _ => detachParts
  | .setupPlace | .startWaitExpiry | .keyDownExpiry | .hangExpiry | .rejoinExpiry | .leadTimerExpiry
  | .playoutStep | .periodicIdExpiry | .closingExpiry | .identKeyRequest | .morseElementEnd
  | .idComplete | .noStatus => turnParts
  | .timeWarning => [.floor]
  | .keyedMillisecond => [.heat, .floor, .members]
  | .dutyIntervalExpiry => .heat :: turnParts
  | .trim => [.playout, .figures]
  | .disorderWindowEnd => [.watch]
  | .graceExpiry => [.ident]
  | .overlayComplete => [.ident, .watch]
  | .tuneGateToggle => [.tone]
  | .txInhibitAsserted | .txInhibitDeasserted | .ampFaultAsserted => .lines :: turnParts
  | .ampFaultDeasserted => [.lines]
  | .pollTimerExpiry => []
  | .busTransactionStart | .busAttemptEnd _ | .busStuck _ => [.engine, .believed] ++ turnParts
  | .foreignOpening _ | .busFree | .busRecovery | .stateQuery _ | .inboundHoldTimeout => [.engine]
  | .take | .give | .halt | .resume => .engine :: turnParts
  | .cwKeyTransition => [.playout]

/-- A refused order did nothing but renew its seat's deadline and answer a result code. -/
structure OrderRefused (s t : State) (seat : SeatNo) (rest : List SeatNo) (result : Result) : Prop where
  taken   : t.handovers = rest
  renewed : RenewedAtTake s t seat
  kept    : ∀ p : Part, p ≠ .handovers → p ≠ .attachments → Kept s t p
  answer  : Answered s t seat (answerWith s seat result [])

/-- R165: a command that takes the order at the front of the hand-over list. -/
def orderTake : Instr → Bool
  | .attach | .detach | .presence | .changeCode | .memberWrite | .memberRemove | .dayRoll
  | .bandWrite | .bandRemove | .check | .request | .withdraw | .release | .forceRelease
  | .ampRestore | .stationWrite | .beginService | .endService | .unknownOrder => true
  | _ => false

/-- A command that may bring the part to its power-on values, or restart it: CONTROL lies in the
register window, which REGISTER_WRITE and HOST_WRITE reach (R163). -/
def restartCommand : Instr → Bool
  | .powerOn | .resetReleased | .restart | .registerWrite .. | .hostWrite .. => true
  | _ => false

/-- The commands that come in through the exchange port. -/
def portCommand : Instr → Bool
  | .restart | .summaryWrite .. | .maskWrite .. | .registerWrite .. | .hostWrite ..
  | .orderCellHandover _ | .reportCellReturn _ | .audioCellTake .. | .busCellHandover _ => true
  | _ => false

/-- R133, R141: the commands the part takes up while RESET_N is low. -/
def lineCommand : Instr → Bool
  | .powerOn | .resetAsserted | .resetReleased | .txInhibitAsserted | .txInhibitDeasserted
  | .ampFaultAsserted | .ampFaultDeasserted => true
  | _ => false

/-- R161: a command that hands a cell over. -/
def handedCell : Instr → Option CellRef
  | .orderCellHandover seat => some (.order seat)
  | .reportCellReturn seat => some (.report seat)
  | .audioCellTake seat cell => some (.audio seat cell)
  | .busCellHandover n => some (.bus n)
  | _ => none

/-- R158, R160, R167: where the part itself writes: report cells, the hand-over bytes of order cells,
and the result fields and hand-over bytes of bus cells. -/
def partWrites (a : Nat) : Prop :=
  (∃ seat : SeatNo, (CellRef.report seat).base ≤ a ∧ a < (CellRef.report seat).base + 256)
    ∨ (∃ seat : SeatNo, a = (CellRef.order seat).handoverAddress)
    ∨ (∃ n : BusCellNo, (CellRef.bus n).base + 36 ≤ a ∧ a < (CellRef.bus n).base + 70
        ∨ a = (CellRef.bus n).handoverAddress)

end Sys2Proof.Machine
end

