-- ==== Sys2Proof/Certificates/Slice0/Obligations.lean ====
section
/-! DEFINITION. The statements for the provers: the step, power-on and the exchange port; the audio
path; the orders; the floor's, the identification's and the lines' events; the station bus and the panel;
the frames; and the laws that every step keeps. -/

open Sys2Proof Sys2Proof.Machine

/-! ### The step, power-on, reset and the registers -/

/-- A step carries out the command at the front of the queue, on the state with the queue's rest. -/
def Obligations.StepRunsTheFrontCommand : Prop :=
  ∀ (c : Instr) (rest : List Instr) (s : State),
    step (s.withPending (c :: rest)) = exec c (s.withPending rest)

/-- The model's own choice (log 3, log 4): on an empty queue one of the events that are due becomes the
next command, or a millisecond passes, in which the stamp rises by 1, every running timer comes down by 1,
nothing else changes, and a keyed station owes KEYED_MILLISECOND; while RESET_N is low the part stands
still. An expiry is due exactly when its timer stands at 0 under its own condition, PRESENCE_EXPIRY when the
stamp has come to the deadline, TIME_WARNING when 15,000 ms or less remain, KEY_DOWN_EXPIRY when the key-down
count has come to the grant's duration; each command given is then the moment (log 2). -/
def Obligations.EmptyQueueLetsTheClockAct : Prop :=
  ∀ s : State, s.pending = [] →
    (s.pins.resetLow = true → step s = .next s)
    ∧ (Running s → due s = [] →
        Gives (step s) fun t =>
          t.stamp = s.stamp + 1
            ∧ t.floor = { s.floor with
                startWait := s.floor.startWait.map (· - 1), hang := s.floor.hang.map (· - 1)
                rejoin := s.floor.rejoin.map (· - 1) }
            ∧ t.duty = { s.duty with timer := s.duty.timer - 1 }
            ∧ t.playout = { s.playout with timer := s.playout.timer.map (· - 1) }
            ∧ t.ident = { s.ident with
                periodic := s.ident.periodic.map (· - 1), closing := s.ident.closing.map (· - 1)
                grace := s.ident.grace.map (· - 1)
                sender := s.ident.sender.map fun x => { x with left := x.left - 1 } }
            ∧ t.tone.timer = s.tone.timer.map (· - 1) ∧ t.tone.gate = s.tone.gate
            ∧ t.tone.pitch = s.tone.pitch ∧ (s.tone.gate = true → t.tone.age = s.tone.age + 1)
            ∧ t.keying = { s.keying with
                lead := s.keying.lead.map (· - 1), poll := s.keying.poll.map (· - 1) }
            ∧ t.bus = { s.bus with hold := s.bus.hold.map (· - 1) }
            ∧ t.seats = s.seats ∧ t.ram = s.ram ∧ t.port = s.port ∧ t.page = s.page
            ∧ t.source = s.source
            ∧ (∀ p ∈ [Part.freeCount, .lines, .mode, .members, .plan, .station, .queue, .watch,
                .handovers], Kept s t p)
            ∧ t.pending = if s.keying.state = .unkeyed then [] else [.keyedMillisecond])
    ∧ (.dutyIntervalExpiry ∈ due s ↔ s.duty.timer = 0)
    ∧ (.startWaitExpiry ∈ due s ↔ s.floor.state = .granted ∧ s.floor.startWait = some 0)
    ∧ (.hangExpiry ∈ due s ↔ s.floor.state = .hang ∧ s.floor.hang = some 0)
    ∧ (.rejoinExpiry ∈ due s ↔ s.floor.state = .stalled ∧ s.floor.rejoin = some 0)
    ∧ (.keyDownExpiry ∈ due s ↔ s.floor.state = .onAir
        ∧ ∃ g, s.floor.grant = some g ∧ g.duration * 1000 ≤ s.floor.keyDown)
    ∧ (.timeWarning ∈ due s ↔ s.floor.state = .onAir ∧ s.floor.timeWarned = false
        ∧ s.floor.holder.isSome = true
        ∧ ∃ g, s.floor.grant = some g ∧ 15 < g.duration
          ∧ g.duration * 1000 - s.floor.keyDown ≤ 15000)
    ∧ (.leadTimerExpiry ∈ due s ↔ s.keying.state = .leading ∧ s.keying.lead = some 0)
    ∧ (.playoutStep ∈ due s ↔ s.playout.timer = some 0)
    ∧ (.periodicIdExpiry ∈ due s ↔ s.ident.periodic = some 0)
    ∧ (.closingExpiry ∈ due s ↔ s.ident.closing = some 0)
    ∧ (.graceExpiry ∈ due s ↔ s.ident.grace = some 0)
    ∧ (.morseElementEnd ∈ due s ↔ ∃ x, s.ident.sender = some x ∧ x.left = 0)
    ∧ (.tuneGateToggle ∈ due s ↔ s.tone.timer = some 0)
    ∧ (.pollTimerExpiry ∈ due s ↔ s.keying.poll = some 0)
    ∧ (.inboundHoldTimeout ∈ due s ↔ s.bus.engine = .following ∧ s.bus.hold = some 0)
    ∧ (∀ x : SeatNo, .presenceExpiry x ∈ due s ↔
        ∃ a, s.seats[x].attachment = some a ∧ a.deadline = s.stamp)
    ∧ (Running s → due s ≠ [] →
        Gives (step s) fun t =>
          (∃ c ∈ due s, t.pending = [c]) ∧ t = (s.withFree t.free).withPending t.pending)

/-- R182: the values the manual gives the part right after power-on, where every law holds. POWER_ON and
the release of RESET_N give every block these values; RESTART does too, but for the member records, whose
seats are cleared, the band plan and the station record. The queue of commands, the free-value counter and
the input levels are the model's own and stay (log 11, log 25). That RESTART leaves the port serving nothing
until the close is read by inference (log 33). -/
def Obligations.PowerOnAndRestart : Prop :=
  (State.reset.mode = .configuring ∧ State.reset.stamp = 0
      ∧ (∀ m : MemberNo, State.reset.members[m] = none)
      ∧ (∀ i : SlotNo, State.reset.plan[i] = none)
      ∧ (∀ seat : SeatNo, State.reset.seats[seat] = Seat.vacant)
      ∧ State.reset.station = StationRecord.default
      ∧ State.reset.floor.state = .idle ∧ State.reset.floor.holder = none ∧ State.reset.queue = []
      ∧ State.reset.duty.q = 0 ∧ State.reset.duty.timer = 1000
      ∧ State.reset.keying.state = .unkeyed ∧ State.reset.keying.ampInService = true
      ∧ State.reset.ident.window = false ∧ State.reset.ident.pending = false
      ∧ State.reset.playout.frames = [] ∧ State.reset.playout.np = none
      ∧ State.reset.bus.engine = .free ∧ State.reset.bus.believed = Believed.unknown
      ∧ State.reset.handovers = []
      ∧ (∀ a : Nat, Memory.read State.reset.ram a =
          if ∃ seat : SeatNo, a = (CellRef.report seat).handoverAddress then 1 else 0)
      ∧ registerRead State.reset 0 = 0 ∧ registerRead State.reset 1 = 0
      ∧ registerRead State.reset 2 = 0 ∧ registerRead State.reset 3 = 0x8000
      ∧ pttOut State.reset = false ∧ keyOut State.reset = false ∧ intLine State.reset = false
      ∧ Memory.wf State.reset.ram = true ∧ KeyingLaw State.reset ∧ FloorLaw State.reset
      ∧ IdentLaw State.reset ∧ PlayoutLaw State.reset ∧ HeatLaw State.reset ∧ SeatLaw State.reset
      ∧ NoticeLaw State.reset ∧ OrderLaw State.reset ∧ BusLaw State.reset ∧ Settled State.reset)
  ∧ (∀ s : State,
      exec .powerOn s
        = .next (((State.reset.withPending s.pending).withFree s.free).withPins s.pins)
      ∧ exec .resetReleased s
        = .next (((State.reset.withPending s.pending).withFree s.free).withPins
            { s.pins with resetLow := false })
      ∧ (PortTakes s → ∀ v : Byte, v.getLsbD 0 = true →
          exec (.registerWrite 4 v) s = exec .restart s
          ∧ Gives (exec .restart s) fun t =>
              t.plan = s.plan ∧ t.station = s.station
                ∧ (∀ m : MemberNo,
                    t.members[m] = s.members[m].map fun r => { r with attached := none })
                ∧ t.port = { State.reset.port with phase := .restarted }
                ∧ t.pending = s.pending ∧ t.free = s.free ∧ t.pins = s.pins
                ∧ ((((((((t.withPlan State.reset.plan).withStation State.reset.station).withMembers
                    State.reset.members).withPort State.reset.port).withPending []).withFree
                    0).withPins State.reset.pins)) = State.reset))

/-- R141: while RESET_N is low, PTT_OUT and KEY_OUT are low, the DAC is silent and the bus lines are
released, and the port answers nothing; no command but power-on, the reset line and the two radio lines
changes anything, and INT follows the registers that are kept (log 12, the model's choice). -/
def Obligations.ResetLineHoldsThePart : Prop :=
  (∀ s : State, Gives (exec .resetAsserted s) fun t =>
      t.pins.resetLow = true ∧ pttOut t = false ∧ keyOut t = false ∧ t.keying.state = .unkeyed
        ∧ t.source = .silence ∧ t.bus.engine = .free ∧ t.bus.attemptOpen = false
        ∧ (∀ k : Nat, dacSample t k = 0) ∧ (∀ a : Nat, portRead t a = none)
        ∧ t.floor = s.floor ∧ t.queue = s.queue ∧ t.ram = s.ram ∧ intLine t = intLine s)
  ∧ (∀ (c : Instr) (s : State), s.pins.resetLow = true → lineCommand c = false →
      exec c s = .next s)
  ∧ (∀ s : State, s.pins.resetLow = true →
      exec .txInhibitAsserted s = .next (s.withPins { s.pins with txInhibit := true })
        ∧ exec .txInhibitDeasserted s = .next (s.withPins { s.pins with txInhibit := false })
        ∧ exec .ampFaultAsserted s = .next (s.withPins { s.pins with ampFault := true }))

/-- R162, R163: the two bytes of SUMMARY and of MASK, the register positions that are another command's or
have no behaviour, and INT, which is asserted at once exactly while the two registers have a set bit in
common. The host's write of one byte at a register's address is the write of that register. That a write
transaction is one command is read by inference (log 13). -/
def Obligations.RegisterWritesReachTheirBits : Prop :=
  ∀ (s : State) (high : Bool) (v : Byte), PortTakes s →
    Gives (exec (.summaryWrite high v) s) (fun t =>
      t = s.withPort t.port
        ∧ (∀ i : Fin 16, t.port.summary.getLsbD i.val =
            (s.port.summary.getLsbD i.val
              && !(high == decide (8 ≤ i.val) && v.getLsbD (i.val % 8))))
        ∧ t.port.mask = s.port.mask ∧ t.port.phase = s.port.phase
        ∧ t.port.served = s.port.served
        ∧ t.port.refused =
            (if high = true ∧ v.getLsbD 6 = true then 0x8000 else s.port.refused)
        ∧ (intLine t = true ↔ ∃ i : Fin 16,
            t.port.summary.getLsbD i.val = true ∧ t.port.mask.getLsbD i.val = true))
    ∧ Gives (exec (.maskWrite high v) s) (fun t =>
      t = s.withPort t.port
        ∧ (∀ i : Fin 16, t.port.mask.getLsbD i.val =
            (decide (i.val < 15)
              && if high = decide (8 ≤ i.val) then v.getLsbD (i.val % 8)
                else s.port.mask.getLsbD i.val))
        ∧ t.port.summary = s.port.summary ∧ t.port.refused = s.port.refused
        ∧ t.port.phase = s.port.phase ∧ t.port.served = s.port.served
        ∧ (intLine t = true ↔ ∃ i : Fin 16,
            t.port.summary.getLsbD i.val = true ∧ t.port.mask.getLsbD i.val = true))
    ∧ exec (.registerWrite 0 v) s = exec (.summaryWrite false v) s
    ∧ exec (.registerWrite 1 v) s = exec (.summaryWrite true v) s
    ∧ exec (.registerWrite 2 v) s = exec (.maskWrite false v) s
    ∧ exec (.registerWrite 3 v) s = exec (.maskWrite true v) s
    ∧ (v.getLsbD 0 = false → exec (.registerWrite 4 v) s = .next s)
    ∧ (∀ p : Fin 8, 5 ≤ p.val → exec (.registerWrite p v) s = .next s)
    ∧ (∀ (command : Byte) (address : BitVec 16) (p : Fin 8), IsWrite command →
      address.toNat % 0x8000 = 0x7FF8 + p.val →
      exec (.hostWrite command address [v]) s = exec (.registerWrite p v) s)

/-- R159, R163: a bad command byte makes the port ignore the transaction, so that it sends nothing and no
command of the port does anything, until CS_N rises. A read transaction stores nothing: behind its
turnaround byte the port sends the byte at each successive address. After a RESTART writes are ignored and
reads return 00h until CS_N rises. R160, R163, R169, R175, R176: the byte at every address is that of the
layouts: the device page, the member and band images, the cells, the seat boards, the zeros behind them and
the registers. That a transaction is one command is read by inference (log 13), as is that the page and the
images show their fields as they stand (log 24); what the bytes no layout names show is the model's choice
(log 41). -/
def Obligations.PortIgnoresUntilTheClose : Prop :=
  ∀ s : State,
    (∀ (command : Byte) (address : BitVec 16) (data : List Byte), PortTakes s →
      (commandOk command = false →
        exec (.hostWrite command address data) s
          = .next (s.withPort { s.port with phase := .ignoring }))
      ∧ (readCommand command = true →
        Gives (exec (.hostWrite command address data) s) fun t =>
          t = s.withPort { s.port with served := t.port.served }
            ∧ t.port.served.length = data.length - 1
            ∧ ∀ i : Nat, i + 1 < data.length →
                t.port.served[i]? = some (memoryByte s (nextAddress^[i] (address.toNat % 0x8000)))))
    ∧ (s.port.phase = .ignoring →
      (∀ a : Nat, portRead s a = none)
        ∧ ∀ c : Instr, portCommand c = true → exec c s = .next s)
    ∧ (s.port.phase = .restarted → Running s →
      (∀ c : Instr, portCommand c = true →
        (∀ command address data, c = .hostWrite command address data → readCommand command = false) →
        exec c s = .next s)
      ∧ ∀ (command : Byte) (address : BitVec 16) (data : List Byte), readCommand command = true →
        exec (.hostWrite command address data) s
          = .next (s.withPort
              { s.port with served := List.replicate (data.length - 1) 0 }))
    ∧ (Running s →
        exec .exchangeTransactionClose s
          = .next (s.withPort { s.port with phase := .serving }))
    ∧ MemoryShows s

/-! ### The exchange memory and the hand-overs -/

/-- R159 to R161: a burst into the bytes of a host-held cell below its hand-over byte is stored, one byte
at each successive address, and nothing else changes. That a burst is one command is read by inference (log
13). -/
def Obligations.HostWriteStoresItsBurst : Prop :=
  ∀ (s : State) (command : Byte) (address : BitVec 16) (data : List Byte) (cell : CellRef)
    (offset : Nat), PortTakes s → Settled s → IsWrite command → partHeld s cell = false →
    address.toNat % 0x8000 = cell.base + offset → offset + data.length < cell.size →
    Gives (exec (.hostWrite command address data) s) fun t =>
      t = s.withRam t.ram
        ∧ (∀ i : Fin data.length, Memory.read t.ram (cell.base + offset + i.val) = data[i])
        ∧ (∀ a : Nat, a < cell.base + offset ∨ cell.base + offset + data.length ≤ a →
            Memory.read t.ram a = Memory.read s.ram a)

/-- R160 to R162: a byte written into a region that takes none, into a part-held cell, or into a hand-over
byte otherwise than to hand the cell over, is discarded; the first such write is latched in REFUSED with
SUMMARY bit 14. That a write transaction is one command is read by inference (log 13). -/
def Obligations.RefusedWriteIsLatched : Prop :=
  ∀ (s : State) (command : Byte) (address : BitVec 16) (v : Byte), PortTakes s → Settled s →
    IsWrite command → address.toNat % 0x8000 < 0x7FF8 →
    ((∀ cell : CellRef, ¬ (cell.base ≤ address.toNat % 0x8000
        ∧ address.toNat % 0x8000 < cell.base + cell.size))
      ∨ ∃ cell : CellRef, cell.base ≤ address.toNat % 0x8000
          ∧ address.toNat % 0x8000 < cell.base + cell.size
          ∧ (partHeld s cell = true
            ∨ address.toNat % 0x8000 = cell.handoverAddress ∧ v ≠ 1)) →
    if s.port.summary.getLsbD 14 = true then exec (.hostWrite command address [v]) s = .next s
    else Gives (exec (.hostWrite command address [v]) s) fun t =>
      t = s.withPort t.port ∧ t.port.summary = s.port.summary ||| 0x4000
        ∧ t.port.refused = BitVec.ofNat 16 (address.toNat % 0x8000)
        ∧ t.port.mask = s.port.mask ∧ t.port.phase = s.port.phase
        ∧ t.port.served = s.port.served

/-- R161: the command that hands a cell over is the host's write of 01h to its hand-over byte. R164, R167,
R168: an order cell handed over joins the hand-over list at its back; a returned report cell is kept until
something waits for its seat, and is given back at once with a report of all that waits. That a write
transaction is one command is read by inference (log 13). -/
def Obligations.CellsAreHandedOver : Prop :=
  (∀ (c : Instr) (cell : CellRef) (s : State) (command : Byte) (address : BitVec 16),
      handedCell c = some cell → IsWrite command →
      address.toNat % 0x8000 = cell.handoverAddress →
      exec (.hostWrite command address [1]) s = exec c s)
  ∧ (∀ (s : State) (seat : SeatNo), PortTakes s → Settled s →
      (partHeld s (.order seat) = false →
        Gives (exec (.orderCellHandover seat) s) fun t =>
          t = (s.withHandovers (s.handovers ++ [seat])).withRam t.ram
            ∧ partHeld t (.order seat) = true)
      ∧ (partHeld s (.order seat) = true →
        Gives (exec (.orderCellHandover seat) s) fun t => t = s.withPort t.port)
      ∧ (partHeld s (.report seat) = false →
        s.seats[seat].answer = none → s.seats[seat].notices = [] →
        Gives (exec (.reportCellReturn seat) s) fun t =>
          t = s.withRam t.ram ∧ partHeld t (.report seat) = true)
      ∧ (partHeld s (.report seat) = false →
        (s.seats[seat].answer.isSome = true ∨ s.seats[seat].notices ≠ []) →
        Gives (exec (.reportCellReturn seat) s) fun t =>
          Reported s t seat ∧ t.handovers = s.handovers ∧ t.floor = s.floor ∧ t.queue = s.queue))

/-- R156, R158: a bus cell handed over joins the pass-through work with its fields, or comes back
BAD_FIELD (code 4). -/
def Obligations.BusCellIsJudgedAtItsHandOver : Prop :=
  ∀ (s : State) (n : BusCellNo) (f : BusFields), PortTakes s → Settled s →
    partHeld s (.bus n) = false → f = busFields s n →
    Gives (exec (.busCellHandover n) s) fun t =>
      if f.direction ≤ 1 ∧ f.address ≤ 63 ∧ f.address ≠ s.station.ownAddress ∧ f.length ≤ 32
          ∧ ¬ (f.direction = 1 ∧ f.address = 0) then
        partHeld t (.bus n) = true
          ∧ t.bus = { s.bus with cellWork := s.bus.cellWork ++
              [⟨.cell (f.direction == 1) f.address f.length (cellBytes s (.bus n) 4 f.length),
                .cell n, 0, 0, 0⟩] }
      else
        partHeld t (.bus n) = false ∧ cellBytes t (.bus n) 36 2 = [4, 0]
          ∧ t.port.summary.getLsbD 12 = true ∧ t.bus = s.bus

/-! ### The audio path -/

/-- R83, R87, R97, R99: what becomes of a frame in an audio cell handed over. A frame that is not a stream
frame is counted refused and goes no further. The first stream frame, with np undefined, is inserted and
np is its number. A stream frame with np defined is late, early, a duplicate or inserted by its distance
from np. R104, R109: while the watch is watching or recording, a late, early or duplicate frame raises the
disorder count by 1, up to 50, and changes nothing else of the watch. The bounds on the disorder count and on
the queue's length are where no criterion is met and no start threshold reached. -/
def Obligations.AudioFrameIsPlacedByItsDistance : Prop :=
  ∀ (s : State) (seat : SeatNo) (cell : AudioCellNo) (head : AudioFrame), PortTakes s →
    partHeld s (.audio seat cell) = false → head = audioHead s (.audio seat cell) →
    (streamFrame seat head s = false →
      Gives (exec (.audioCellTake seat cell) s) fun t =>
        partHeld t (.audio seat cell) = false ∧ RenewedAtTake s t seat
          ∧ t.playout = s.playout ∧ t.floor = s.floor ∧ t.watch = s.watch
          ∧ Counted s t seat [.refused])
    ∧ (streamFrame seat head s = true → s.playout.np = none →
      (s.floor.state = .onAir ∨ s.playout.frames.length + 1 < s.station.threshold) →
      Gives (exec (.audioCellTake seat cell) s) fun t =>
        partHeld t (.audio seat cell) = false ∧ RenewedAtTake s t seat ∧ t.floor = s.floor
          ∧ t.playout = { s.playout with
              frames := s.playout.frames ++ [⟨head.seq, audioPayload s (.audio seat cell)⟩]
              np := some head.seq }
          ∧ t.watch = s.watch ∧ Counted s t seat [.taken])
    ∧ (∀ (np : BitVec 16) (d : Nat) (seen : Watch), streamFrame seat head s = true →
      s.playout.np = some np → d = (head.seq - np).toNat →
      seen = (if watching s = true ∨ recording s = true then
        { s.watch with disorder := min 50 (s.watch.disorder + 1) } else s.watch) →
      (s.station.criteria.disorder = false ∨ s.watch.disorder + 1 ≠ s.station.disorderLimit) →
      (s.floor.state = .onAir ∨ s.playout.frames.length + 1 < s.station.threshold) →
      (16 ≤ d → d < 32768 → s.playout.earlyRun < 3) →
      Gives (exec (.audioCellTake seat cell) s) fun t =>
        partHeld t (.audio seat cell) = false ∧ RenewedAtTake s t seat ∧ t.floor = s.floor
          ∧ if 32768 ≤ d then t.playout = s.playout ∧ t.watch = seen ∧ Counted s t seat [.late]
            else if 16 ≤ d then
              t.playout = { s.playout with earlyRun := s.playout.earlyRun + 1 }
                ∧ t.watch = seen ∧ Counted s t seat [.early]
            else if s.playout.holds head.seq = true then
              t.playout = s.playout ∧ t.watch = seen ∧ Counted s t seat [.duplicate]
            else
              t.playout = { s.playout with
                  frames := s.playout.frames ++ [⟨head.seq, audioPayload s (.audio seat cell)⟩]
                  earlyRun := 0 }
                ∧ t.watch = s.watch ∧ Counted s t seat [.taken])

/-- R51, R54, R89, R130, R131: the frame that brings the queue to the start threshold in GRANTED or STALLED
puts the floor ON_AIR, and the station is keyed with its lead delay and the ID window opens; with a lead delay
of 0 it is KEYED at once and plays the frame of np. R88, R106, R53: after three early frames in a row a fourth
resyncs the stream: it alone is held and np is its number. Below the start threshold in GRANTED nothing else
follows, in STALLED the RESYNC criterion is added to the set; while watching ON_AIR it stalls the turn. R104,
R107, R109: the late, early or duplicate frame that brings the disorder count to its limit meets DISORDER:
while watching it stalls the turn, or ends it LINK when the rejoin window is 0; while recording it is added to
the set. A turn's end leaves no setup item on the work list, not even of a next turn: the model's choice (log
44). -/
def Obligations.ThresholdAndResyncActOnTheFloor : Prop :=
  ∀ (s : State) (seat : SeatNo) (cell : AudioCellNo) (head : AudioFrame) (h : Holder), PortTakes s →
    partHeld s (.audio seat cell) = false → head = audioHead s (.audio seat cell) →
    streamFrame seat head s = true → s.floor.holder = some h →
    (s.floor.state = .granted ∨ s.floor.state = .stalled →
      s.station.threshold ≤ s.playout.frames.length + 1 →
      s.mode = .serving → s.pins.txInhibit = false → s.pins.ampFault = false →
      s.keying.state = .unkeyed →
      ((s.playout.np = none
        ∨ ∃ np, s.playout.np = some np ∧ (head.seq - np).toNat < 16
            ∧ s.playout.holds head.seq = false) →
        s.station.lead ≠ 0 →
        Gives (exec (.audioCellTake seat cell) s) fun t =>
          t.floor = { s.floor with state := .onAir, startWait := none, rejoin := none }
            ∧ t.keying.state = .leading ∧ t.keying.lead = some s.station.lead
            ∧ pttOut t = true ∧ keyOut t = false ∧ t.ident.window = true
            ∧ t.playout.frames
                = s.playout.frames ++ [⟨head.seq, audioPayload s (.audio seat cell)⟩]
            ∧ Counted s t seat [.taken])
      ∧ (∀ np : BitVec 16,
        (s.playout.np = none ∧ np = head.seq
          ∨ s.playout.np = some np ∧ (head.seq - np).toNat < 16
            ∧ s.playout.holds head.seq = false
            ∧ (head.seq = np ∨ s.playout.holds np = true)) →
        s.station.lead = 0 → s.playout.trimRun < 249 →
        Gives (exec (.audioCellTake seat cell) s) fun t =>
          t.floor = { s.floor with state := .onAir, startWait := none, rejoin := none }
            ∧ t.keying.state = .keyed ∧ t.keying.lead = none ∧ pttOut t = true
            ∧ t.ident.window = true ∧ t.playout.np = some (np + 1)
            ∧ t.playout.timer = some 20 ∧ t.playout.u = 0 ∧ Counted s t seat [.taken]))
    ∧ (∀ np : BitVec 16, s.playout.np = some np → 16 ≤ (head.seq - np).toNat →
      (head.seq - np).toNat < 32768 → 3 ≤ s.playout.earlyRun →
      (s.floor.state = .granted → 1 < s.station.threshold →
        Gives (exec (.audioCellTake seat cell) s) fun t =>
          t.playout = { s.playout with
              frames := [⟨head.seq, audioPayload s (.audio seat cell)⟩]
              np := some head.seq, earlyRun := 0 }
            ∧ t.floor = s.floor ∧ Counted s t seat [.taken, .resync])
      ∧ (s.floor.state = .stalled → 1 < s.station.threshold → s.station.criteria.resync = true →
        Gives (exec (.audioCellTake seat cell) s) fun t =>
          t.playout = { s.playout with
              frames := [⟨head.seq, audioPayload s (.audio seat cell)⟩]
              np := some head.seq, earlyRun := 0 }
            ∧ t.floor = s.floor ∧ t.keying.state = s.keying.state
            ∧ t.watch = { s.watch with criteria := { s.watch.criteria with resync := true } }
            ∧ t.seats[seat].criteria = { s.watch.criteria with resync := true }
            ∧ Counted s t seat [.taken, .resync])
      ∧ (watching s = true → s.station.criteria.resync = true → s.station.rejoin ≠ 0 →
        Gives (exec (.audioCellTake seat cell) s) fun t =>
          t.playout.frames = [⟨head.seq, audioPayload s (.audio seat cell)⟩]
            ∧ t.playout.np = some head.seq ∧ t.floor.state = .stalled
            ∧ t.floor.rejoin = some s.station.rejoin ∧ t.floor.holder = s.floor.holder
            ∧ t.keying.state = .unkeyed ∧ t.watch.criteria.resync = true))
    ∧ (∀ (np : BitVec 16) (d : Nat), s.playout.np = some np → d = (head.seq - np).toNat →
      (32768 ≤ d ∨ 16 ≤ d ∧ s.playout.earlyRun < 3 ∨ d < 16 ∧ s.playout.holds head.seq = true) →
      s.station.criteria.disorder = true → s.station.disorderLimit ≤ 50 →
      s.watch.disorder + 1 = s.station.disorderLimit →
      (s.floor.state = .stalled →
        Gives (exec (.audioCellTake seat cell) s) fun t =>
          t.floor = s.floor ∧ t.keying.state = s.keying.state
            ∧ t.watch = { s.watch with
                disorder := s.station.disorderLimit
                criteria := { s.watch.criteria with disorder := true } }
            ∧ t.seats[seat].criteria = { s.watch.criteria with disorder := true })
      ∧ (watching s = true → s.station.rejoin ≠ 0 →
        Gives (exec (.audioCellTake seat cell) s) fun t =>
          t.floor = { s.floor with state := .stalled, rejoin := some s.station.rejoin }
            ∧ t.keying.state = .unkeyed ∧ t.watch.steps = 0 ∧ t.watch.disorder = 0
            ∧ t.watch.criteria = { s.watch.criteria with disorder := true }
            ∧ t.seats[seat].criteria = { s.watch.criteria with disorder := true })
      ∧ (watching s = true → s.station.rejoin = 0 → FloorLaw s →
        Gives (exec (.audioCellTake seat cell) s) fun t =>
          EndedToIdle s t h .link (.criteria { s.watch.criteria with disorder := true })))

/-- R90 to R94: a playout step plays the frame of np or, without it, silence; either way np goes on by one.
The bound on the trim run is where no frame is trimmed. R53, R105, R111: the silent step that brings u to the
starve limit stalls the turn, or ends it LINK with the criteria set when the rejoin window is 0. R108: the one
that brings u to half the limit warns the holder, once in a turn; with a limit of 1 the warning and STARVE
meet in one step. The command is the moment of the step, whatever the playout timer still holds (log 2, the
model's choice). A turn's end leaves no setup item on the work list, not even of a next turn: the model's
choice (log 44). -/
def Obligations.PlayoutStepPlaysOrStarves : Prop :=
  (∀ (s : State) (np : BitVec 16), Running s → stepsMade s = true → s.playout.np = some np →
      s.playout.timer.isSome = true → s.playout.trimRun < 249 →
      (∀ f : Frame, s.playout.frames.find? (fun x => x.seq == np) = some f →
        Gives (exec .playoutStep s) fun t =>
          t.playout.np = some (np + 1) ∧ t.playout.u = 0 ∧ t.playout.timer = some 20
            ∧ t.playout.frames = s.playout.frames.filter (fun x => x.seq != np)
            ∧ (∀ v, f.payload = .voice v → t.playout.step = .samples v)
            ∧ (∀ ts, f.payload = .cw ts → t.playout.step = .keying (effectOrder ts))
            ∧ t.floor = s.floor ∧ t.keying.state = .keyed)
      ∧ (s.playout.holds np = false → overlayInProgress s = false →
        (s.station.criteria.starve = false ∨ s.playout.u + 1 ≠ s.station.starveLimit) →
        ∀ h : Holder, s.floor.holder = some h →
        Gives (exec .playoutStep s) fun t =>
          t.playout.np = some (np + 1) ∧ t.playout.u = s.playout.u + 1
            ∧ t.playout.timer = some 20 ∧ t.playout.step = .silence
            ∧ t.playout.frames = s.playout.frames ∧ Counted s t h.seat [.underflow]
            ∧ t.floor = s.floor ∧ t.keying.state = .keyed))
  ∧ (∀ (s : State) (np : BitVec 16) (h : Holder), Running s → FloorLaw s → watching s = true →
      s.playout.np = some np → s.playout.timer.isSome = true → s.playout.holds np = false →
      s.floor.holder = some h → s.station.criteria.starve = true →
      (s.playout.u + 1 = max 1 (s.station.starveLimit / 2) → s.watch.warned = false →
        Gives (exec .playoutStep s) fun t =>
          Noticed s t h.seat (.warnLink (s.playout.u + 1) s.station.starveLimit)
            ∧ t.seats[h.seat].warned = true
            ∧ (s.playout.u + 1 ≠ s.station.starveLimit → t.watch.warned = true ∧ t.floor = s.floor)
            ∧ (s.station.starveLimit = 1 → s.station.rejoin ≠ 0 →
                t.watch.warned = true ∧ t.floor.state = .stalled)
            ∧ (s.station.starveLimit = 1 → s.station.rejoin = 0 →
                EndedToIdle s t h .link (.criteria { s.watch.criteria with starve := true })))
      ∧ (s.station.rejoin ≠ 0 → s.playout.u + 1 = s.station.starveLimit →
        Gives (exec .playoutStep s) fun t =>
          t.floor = { s.floor with state := .stalled, rejoin := some s.station.rejoin }
            ∧ t.keying.state = .unkeyed ∧ t.queue = s.queue
            ∧ t.watch.criteria = { s.watch.criteria with starve := true }
            ∧ t.seats[h.seat].criteria = { s.watch.criteria with starve := true }
            ∧ t.watch.steps = 0 ∧ t.watch.disorder = 0)
      ∧ (s.station.rejoin = 0 → s.playout.u + 1 = s.station.starveLimit →
        Gives (exec .playoutStep s) fun t =>
          EndedToIdle s t h .link (.criteria { s.watch.criteria with starve := true })))

/-- R93, R94, R103, R126: the trim at its 250th step, the end of a disorder window, a key transition of the
running CW frame, and a phase of a pulsed tune-up: each burst begins at zero phase, and through a closed
gate the DAC plays 0. That the first two stand alone is the model's choice (log 9). Each command is the
moment itself (log 2, the model's choice). -/
def Obligations.MomentsOfTheStream : Prop :=
  ∀ s : State, Running s →
    (∀ np : BitVec 16, stepsMade s = true → s.playout.np = some np → 249 ≤ s.playout.trimRun →
      s.station.threshold + s.station.trimMargin ≤ s.playout.depth →
      ∀ h : Holder, s.floor.holder = some h →
      Gives (exec .trim s) fun t =>
        t.playout = { s.playout with
            frames := s.playout.frames.filter (fun x => x.seq != np)
            np := some (np + 1), trimRun := 0 }
          ∧ Counted s t h.seat [.trimmed])
    ∧ (watching s = true → 49 ≤ s.watch.steps →
      Gives (exec .disorderWindowEnd s) fun t =>
        t.watch = { s.watch with steps := 0, disorder := 0 })
    ∧ (∀ (x : Transition) (rest : List Transition), s.keying.state = .keyed →
      s.playout.step = .keying (x :: rest) →
      Gives (exec .cwKeyTransition s) fun t =>
        t.playout = { s.playout with carriedKey := x.down, step := .keying rest }
          ∧ (stepsMade s = true → grantIsCw s = true → overlayInProgress s = false →
              keyOut t = x.down))
    ∧ (s.tone.timer.isSome = true →
      Gives (exec .tuneGateToggle s) fun t =>
        t.tone = { s.tone with gate := !s.tone.gate, timer := some 250, age := 0 }
          ∧ (t.source = .tuneTone →
              dacSample t 0 = 0 ∧ (s.tone.gate = true → ∀ k : Nat, dacSample t k = 0)))

/-- R64, R118, R126, R130, R131: the floor's key request in IDENT keys the station with its lead delay; at
the lead timer's expiry the station is KEYED, the playout interval begins and the identification, the tune
tone or the stream with its first frame begins. The command is the moment of the expiry, whatever the lead
timer still holds (log 2, the model's choice). That IDENT asks for keying once, and the order of what begins
at KEYED, are read by inference (log 36, log 7). That IDENT asks in an act of its own is the model's choice
(log 44). -/
def Obligations.KeyingUpTakesTheLeadDelay : Prop :=
  ∀ s : State, Running s →
    (s.floor.state = .ident → s.floor.identAsked = false → floorOutstanding s = false →
      s.mode = .serving → s.pins.txInhibit = false → s.pins.ampFault = false →
      s.keying.state = .unkeyed → s.station.lead ≠ 0 →
      Gives (exec .identKeyRequest s) fun t =>
        t.keying.state = .leading ∧ t.keying.lead = some s.station.lead
          ∧ t.floor = { s.floor with identAsked := true } ∧ t.ident.window = true)
    ∧ (s.keying.state = .leading → s.floor.state = .ident →
      Gives (exec .leadTimerExpiry s) fun t =>
        t.keying.state = .keyed ∧ t.keying.lead = none ∧ t.playout.timer = some 20
          ∧ t.ident.sender
              = some (newSender s.station false (s.ident.lastMode == some .cw)))
    ∧ (s.keying.state = .leading → s.floor.state = .onAir → grantIsTune s = true →
      s.ident.sender = none →
      Gives (exec .leadTimerExpiry s) fun t =>
        t.keying.state = .keyed ∧ t.source = .tuneTone ∧ t.tone.gate = true ∧ t.tone.age = 0
          ∧ t.tone.pitch = s.station.pitch
          ∧ t.tone.timer = (if s.station.pulsedTune then some 250 else none)
          ∧ t.playout.timer = some 20)
    ∧ (∀ (np : BitVec 16) (f : Frame), s.keying.state = .leading → s.floor.state = .onAir →
      grantIsTune s = false → s.ident.overdue = false → s.playout.np = some np →
      s.playout.trimRun = 0 → s.playout.frames.find? (fun x => x.seq == np) = some f →
      Gives (exec .leadTimerExpiry s) fun t =>
        t.keying.state = .keyed ∧ t.keying.lead = none ∧ t.playout.timer = some 20
          ∧ t.playout.np = some (np + 1) ∧ t.playout.u = 0
          ∧ t.playout.frames = s.playout.frames.filter (fun x => x.seq != np)
          ∧ t.floor = s.floor)

/-! ### Orders on members and seats -/

/-- R3: an order that needs management authority, from a seat without it, is refused with NOT_TRUSTEE. R165:
an order of a kind that is none of the manual's is refused with UNKNOWN_ORDER; a take command for another
kind than the front order's, or with no order waiting, does nothing (the model's choice, log 1). -/
def Obligations.OrdersAreTurnedAway : Prop :=
  (∀ (c : Instr) (kind : Nat) (s : State) (seat : SeatNo) (rest : List SeatNo),
      (c, kind) ∈ [(Instr.memberWrite, 5), (.memberRemove, 6), (.dayRoll, 7), (.bandWrite, 8),
        (.bandRemove, 9), (.forceRelease, 14), (.ampRestore, 15), (.stationWrite, 16),
        (.beginService, 17), (.endService, 18)] →
      OrderReady kind seat rest s → s.mode = .serving → attachedMember s seat ≠ some 0 →
      Gives (exec c s) fun t => OrderRefused s t seat rest .notTrustee)
  ∧ ((∀ (s : State) (seat : SeatNo) (rest : List SeatNo) (kind : Nat), OrderReady kind seat rest s →
      kind = 0 ∨ 18 < kind →
      Gives (exec .unknownOrder s) fun t => OrderRefused s t seat rest .unknownOrder)
    ∧ (∀ (c : Instr) (s : State), orderTake c = true → Settled s →
      (∀ seat rest, s.handovers = seat :: rest → orderCommand (orderKind s seat) ≠ c) →
      exec c s = .next s))

/-- R9: an ATTACH that passes every check attaches the seat, clears the miss count, starts the presence
deadline and answers with the member's figures. R9, R10: its refusals in their order; a wrong code raises the
member's miss count, and the fourth suspends the member. R4, R11, R62: a seat it is attached to is vacated
with a SEAT notice of cause SUSPENDED and its other notices discarded, and its turn or its queue entry ends. A
turn's end leaves no setup item on the work list, not even of a next turn: the model's choice (log 44). -/
def Obligations.AttachChecksAndTakesTheSeat : Prop :=
  (∀ (s : State) (seat : SeatNo) (rest : List SeatNo) (m : MemberNo) (r : Member),
      OrderReady 1 seat rest s → attachedMember s seat = none →
      memberNo (bodyByte s seat 4) = some m → s.members[m] = some r → r.state = .active →
      cellBytes s (.order seat) 5 8 = r.code → r.attached = none →
      Gives (exec .attach s) fun t =>
        t.handovers = rest
          ∧ (∀ x : MemberNo, t.members[x] =
              if x = m then some { r with attached := some seat, misses := 0 } else s.members[x])
          ∧ (∀ x : SeatNo, t.seats[x].attachment =
              if x = seat then some ⟨m, s.stamp + BitVec.ofNat 32 (s.station.presence * 1000)⟩
              else s.seats[x].attachment)
          ∧ t.floor = s.floor ∧ t.queue = s.queue
          ∧ Answered s t seat (answerWith s seat .done
              ([byteOf m.val, byteOf r.grade, flagByte r.priority] ++ le16 r.ceiling
                ++ le32 (r.allowance * 60 - r.used / 1000))))
  ∧ (∀ (s : State) (seat : SeatNo) (rest : List SeatNo), OrderReady 1 seat rest s →
      ((attachedMember s seat).isSome = true →
        Gives (exec .attach s) fun t => OrderRefused s t seat rest .inUse)
      ∧ (attachedMember s seat = none → memberNo (bodyByte s seat 4) = none →
        Gives (exec .attach s) fun t => OrderRefused s t seat rest .badField)
      ∧ ∀ m : MemberNo, attachedMember s seat = none → memberNo (bodyByte s seat 4) = some m →
        (s.members[m] = none →
          Gives (exec .attach s) fun t => OrderRefused s t seat rest .noMember)
        ∧ ∀ r : Member, s.members[m] = some r →
          (r.state = .suspended →
            Gives (exec .attach s) fun t => OrderRefused s t seat rest .suspended)
          ∧ (r.state = .active → cellBytes s (.order seat) 5 8 = r.code → r.attached.isSome = true →
            Gives (exec .attach s) fun t => OrderRefused s t seat rest .inUse)
          ∧ (r.state = .active → cellBytes s (.order seat) 5 8 ≠ r.code → r.misses < 3 →
            Gives (exec .attach s) fun t =>
              (∀ x : MemberNo, t.members[x] =
                if x = m then some { r with misses := r.misses + 1 } else s.members[x])
                ∧ t.floor = s.floor ∧ t.queue = s.queue ∧ RenewedAtTake s t seat
                ∧ Answered s t seat (answerWith s seat .badCode [byteOf (r.misses + 1)]))
          ∧ (r.state = .active → cellBytes s (.order seat) 5 8 ≠ r.code → 3 ≤ r.misses →
            SeatLaw s →
            Gives (exec .attach s) fun t =>
              (∀ x : MemberNo, t.members[x] =
                if x = m then some { r with state := .suspended, misses := 0, attached := none }
                else s.members[x])
                ∧ (∀ x : SeatNo, r.attached = some x → t.seats[x].attachment = none)
                ∧ (FloorLaw s → Revoked s t seat m r.attached)
                ∧ Answered s t seat (answerWith s seat .badCode [0])))

/-- R11 to R13, R62: DETACH and the expiry of the presence deadline, when the stamp is equal to it, detach an
ATTACHED seat with their causes: the SEAT notice alone of its notices is kept, its turn or its queue entry
ends, and no other seat or member changes. DETACH from a VACANT seat is refused, and with the deadline
renewed, or the seat VACANT, the expiry does not occur. A turn's end leaves no setup item on the work list,
not even of a next turn: the model's choice (log 44). -/
def Obligations.SeatIsDetached : Prop :=
  ∀ (s : State) (seat : SeatNo) (m : MemberNo), FloorLaw s →
    (∀ rest, OrderReady 2 seat rest s → attachedMember s seat = some m →
      Gives (exec .detach s) fun t =>
        t.handovers = rest ∧ Detached s t seat m .detach
          ∧ Answered s t seat (answerWith s seat .done []))
    ∧ (∀ rest, OrderReady 2 seat rest s → attachedMember s seat = none →
      Gives (exec .detach s) fun t => OrderRefused s t seat rest .notAttached)
    ∧ (Running s → s.seats[seat].attachment = some ⟨m, s.stamp⟩ →
      Gives (exec (.presenceExpiry seat) s) fun t => Detached s t seat m .presence)
    ∧ (Settled s → (∀ a, s.seats[seat].attachment = some a → a.deadline ≠ s.stamp) →
      exec (.presenceExpiry seat) s = .next s)

/-- R14: PRESENCE renews an ATTACHED seat's deadline, answers with the milliseconds to it and does nothing
else; from a VACANT seat it is refused. -/
def Obligations.PresenceKeepsASeatAttached : Prop :=
  ∀ (s : State) (seat : SeatNo) (rest : List SeatNo), OrderReady 3 seat rest s →
    ((attachedMember s seat).isSome = true →
      Gives (exec .presence s) fun t =>
        t.handovers = rest ∧ RenewedAtTake s t seat
          ∧ (∀ p : Part, p ≠ .handovers → p ≠ .attachments → Kept s t p)
          ∧ Answered s t seat (answerWith s seat .done
              (le32 (BitVec.ofNat 32 (s.station.presence * 1000)).toNat)))
    ∧ (attachedMember s seat = none →
      Gives (exec .presence s) fun t => OrderRefused s t seat rest .notAttached)

/-- R15: CHANGE_CODE stores a new code for the attached member itself or on authority, after its checks
in turn. -/
def Obligations.ChangeCodeStoresACode : Prop :=
  ∀ (s : State) (seat : SeatNo) (rest : List SeatNo), OrderReady 4 seat rest s →
    (memberNo (bodyByte s seat 4) = none →
      Gives (exec .changeCode s) fun t => OrderRefused s t seat rest .badField)
    ∧ ∀ m : MemberNo, memberNo (bodyByte s seat 4) = some m →
      (attachedMember s seat ≠ some m → hasAuthority s seat = false →
        Gives (exec .changeCode s) fun t => OrderRefused s t seat rest .notTrustee)
      ∧ (attachedMember s seat = some m ∨ hasAuthority s seat = true →
        (s.members[m] = none →
          Gives (exec .changeCode s) fun t => OrderRefused s t seat rest .noMember)
        ∧ ∀ r : Member, s.members[m] = some r →
          ((∀ b ∈ cellBytes s (.order seat) 5 8, b = 0) →
            Gives (exec .changeCode s) fun t => OrderRefused s t seat rest .badField)
          ∧ ((∃ b ∈ cellBytes s (.order seat) 5 8, b ≠ 0) →
            Gives (exec .changeCode s) fun t =>
              t.handovers = rest
                ∧ (∀ x : MemberNo, t.members[x] =
                    if x = m then some { r with code := cellBytes s (.order seat) 5 8 }
                    else s.members[x])
                ∧ RenewedAtTake s t seat ∧ Answered s t seat (answerWith s seat .done [])))

/-- R4, R5, R7: MEMBER_WRITE replaces a record's fields, its ceiling taken into 1 to 1500 and its allowance to
1440 at most; used time is kept, the code too where the one given is zero. Writing SUSPENDED detaches the
member, and MEMBER_REMOVE clears a record and detaches its seat: a SEAT notice of cause SUSPENDED, its other
notices discarded, its turn or its queue entry ended. A member number above 47, a field that cannot be read,
or a zero code for an absent record is a BAD_FIELD. That an absent record reads as zeros is read by inference
(log 20). A turn's end leaves no setup item on the work list, not even of a next turn: the model's choice (log
44). -/
def Obligations.MemberRecordsAreWrittenAndRemoved : Prop :=
  (∀ (s : State) (seat : SeatNo) (rest : List SeatNo), hasAuthority s seat = true →
    47 < (bodyByte s seat 4).toNat →
    (OrderReady 5 seat rest s →
      Gives (exec .memberWrite s) fun t => OrderRefused s t seat rest .badField)
    ∧ (OrderReady 6 seat rest s →
      Gives (exec .memberRemove s) fun t => OrderRefused s t seat rest .badField))
  ∧ ∀ (s : State) (seat : SeatNo) (rest : List SeatNo) (m : MemberNo), SeatLaw s →
    hasAuthority s seat = true → memberNo (bodyByte s seat 4) = some m →
    (OrderReady 5 seat rest s →
      (parseMember s seat = none
        ∨ ∃ f, parseMember s seat = some f ∧ zeroCode f.code = true ∧ s.members[m] = none) →
      Gives (exec .memberWrite s) fun t => OrderRefused s t seat rest .badField)
    ∧ (∀ f : MemberFields, OrderReady 5 seat rest s → parseMember s seat = some f →
      (zeroCode f.code = true → s.members[m].isSome = true) →
      Gives (exec .memberWrite s) fun t =>
        t.handovers = rest
          ∧ (∀ x : MemberNo, t.members[x] =
              if x = m then
                some
                  { state := f.state, grade := f.grade, callsign := f.callsign
                    code := if zeroCode f.code = true then (memberOf s m).code else f.code
                    misses := 0, priority := f.priority
                    ceiling := max 1 (min 1500 f.ceiling), allowance := min 1440 f.allowance
                    used := (memberOf s m).used
                    attached := if f.state = .suspended then none else (memberOf s m).attached }
              else s.members[x])
          ∧ (∀ x : SeatNo, f.state = .suspended → (memberOf s m).attached = some x →
              t.seats[x].attachment = none)
          ∧ (f.state = .suspended → FloorLaw s → Revoked s t seat m (memberOf s m).attached)
          ∧ (f.state = .active →
              RenewedAtTake s t seat ∧ t.floor = s.floor ∧ t.queue = s.queue)
          ∧ Answered s t seat (answerWith s seat .done
              [byteOf m.val,
                byteOf ((if f.ceiling = 0 ∨ 1500 < f.ceiling then 1 else 0)
                  + if 1440 < f.allowance then 1 else 0)]))
    ∧ (OrderReady 6 seat rest s → s.members[m].isSome = true → (m = 0 → s.mode = .configuring) →
      Gives (exec .memberRemove s) fun t =>
        t.handovers = rest
          ∧ (∀ x : MemberNo, t.members[x] = if x = m then none else s.members[x])
          ∧ (∀ x : SeatNo, (memberOf s m).attached = some x → t.seats[x].attachment = none)
          ∧ (FloorLaw s → Revoked s t seat m (memberOf s m).attached)
          ∧ Answered s t seat (answerWith s seat .done []))
    ∧ (OrderReady 6 seat rest s → s.members[m] = none →
      Gives (exec .memberRemove s) fun t => OrderRefused s t seat rest .noMember)
    ∧ (OrderReady 6 seat rest s → s.members[m].isSome = true → m = 0 → s.mode = .serving →
      Gives (exec .memberRemove s) fun t => OrderRefused s t seat rest .badField)

/-- R17: DAY_ROLL sets every present member's used time to 0 and changes no other field; the member image
shows it; it is taken in either mode and every floor state, touching no grant. -/
def Obligations.DayRollStartsANewDay : Prop :=
  ∀ (s : State) (seat : SeatNo) (rest : List SeatNo), OrderReady 7 seat rest s →
    (hasAuthority s seat = true →
      Gives (exec .dayRoll s) fun t =>
        t.handovers = rest
          ∧ (∀ m : MemberNo, t.members[m] = s.members[m].map fun r => { r with used := 0 })
          ∧ (∀ (m : MemberNo) (j : Fin 4), memoryByte t (0x0200 + 32 * m.val + 20 + j.val) = 0)
          ∧ RenewedAtTake s t seat
          ∧ (∀ p : Part, p ≠ .handovers → p ≠ .attachments → p ≠ .members → Kept s t p)
          ∧ Answered s t seat (answerWith s seat .done []))
    ∧ (hasAuthority s seat = false →
      Gives (exec .dayRoll s) fun t => OrderRefused s t seat rest .notTrustee)

/-! ### Orders on the band plan and the station -/

/-- R19: the checks of BAND_WRITE in turn, and the slot it writes with its ceiling taken into 1 to
1500. -/
def Obligations.BandWriteFillsASlot : Prop :=
  ∀ (s : State) (seat : SeatNo) (rest : List SeatNo) (f : BandFields), OrderReady 8 seat rest s →
    hasAuthority s seat = true → f = parseBand s seat →
    (slotNo (bodyByte s seat 4) = none →
      Gives (exec .bandWrite s) fun t => OrderRefused s t seat rest .badField)
    ∧ ∀ i : SlotNo, slotNo (bodyByte s seat 4) = some i →
      let free := s.floor.state = .idle ∨ s.floor.state = .resting ∨ s.floor.state = .panelHeld
        ∨ s.floor.state = .shut
      let good := f.low < f.high ∧ 1 ≤ f.minGrade ∧ f.minGrade ≤ 4 ∧ f.modes &&& 0xC0 = 0
        ∧ 1 ≤ f.port ∧ f.port ≤ 8 ∧ f.amp ≤ 1
      let shared := ∃ j : SlotNo, j ≠ i ∧
        (s.plan[j].any fun g => decide (g.low < f.high) && decide (f.low < g.high)) = true
      Gives (exec .bandWrite s) fun t =>
        if ¬ free then OrderRefused s t seat rest .floorBusy
        else if ¬ good then OrderRefused s t seat rest .badField
        else if shared then OrderRefused s t seat rest .overlap
        else
          t.handovers = rest
            ∧ (∀ j : SlotNo, t.plan[j] =
                if j = i then
                  some
                    { low := f.low, high := f.high, minGrade := f.minGrade, modes := f.modes
                      ceiling := max 1 (min 1500 f.ceiling), port := f.port
                      amp := decide (f.amp = 1) }
                else s.plan[j])
            ∧ Answered s t seat (answerWith s seat .done
                [byteOf i.val, if f.ceiling = 0 ∨ 1500 < f.ceiling then 1 else 0])

/-- R20: the checks of BAND_REMOVE in turn, and the slot it empties; with the last segment gone every
grant computation ends OUT_OF_PLAN. -/
def Obligations.BandRemoveEmptiesASlot : Prop :=
  ∀ (s : State) (seat : SeatNo) (rest : List SeatNo), OrderReady 9 seat rest s →
    (hasAuthority s seat = false →
      Gives (exec .bandRemove s) fun t => OrderRefused s t seat rest .notTrustee)
    ∧ (hasAuthority s seat = true → slotNo (bodyByte s seat 4) = none →
      Gives (exec .bandRemove s) fun t => OrderRefused s t seat rest .badField)
    ∧ ∀ i : SlotNo, hasAuthority s seat = true → slotNo (bodyByte s seat 4) = some i →
      let free := s.floor.state = .idle ∨ s.floor.state = .resting ∨ s.floor.state = .panelHeld
        ∨ s.floor.state = .shut
      Gives (exec .bandRemove s) fun t =>
        if ¬ free then OrderRefused s t seat rest .floorBusy
        else if s.plan[i] = none then OrderRefused s t seat rest .badField
        else
          t.handovers = rest ∧ RenewedAtTake s t seat
            ∧ (∀ j : SlotNo, t.plan[j] = if j = i then none else s.plan[j])
            ∧ (∀ j : Fin 32, memoryByte t (0x0800 + 32 * i.val + j.val) = 0)
            ∧ t.mode = s.mode ∧ t.floor = s.floor
            ∧ Answered s t seat (answerWith s seat .done [])
            ∧ ((∀ j : SlotNo, j ≠ i → s.plan[j] = none) → ∀ (m : MemberNo) (q : Request),
                computeGrant (grantInputs t m) q = .refusal .outOfPlan)

/-- R13, R35, R36: CHECK answers what the grant computation finds, and changes nothing but the seat's
presence deadline, which its take renews. -/
def Obligations.CheckReadsTheTables : Prop :=
  ∀ (s : State) (seat : SeatNo) (rest : List SeatNo), OrderReady 10 seat rest s →
    (attachedMember s seat = none →
      Gives (exec .check s) fun t => OrderRefused s t seat rest .notAttached)
    ∧ ∀ m : MemberNo, attachedMember s seat = some m →
      (parseRequest s seat = none →
        Gives (exec .check s) fun t => OrderRefused s t seat rest .badField)
      ∧ ∀ q : Request, parseRequest s seat = some q →
        (∀ e, computeGrant (grantInputs s m) q = .refusal e →
          Gives (exec .check s) fun t => OrderRefused s t seat rest e)
        ∧ (∀ f h, computeGrant (grantInputs s m) q = .short f h →
          Gives (exec .check s) fun t =>
            t.handovers = rest ∧ RenewedAtTake s t seat
              ∧ (∀ p : Part, p ≠ .handovers → p ≠ .attachments → Kept s t p)
              ∧ Answered s t seat (answerWith s seat .done
                  ([1, flagByte f.ampUsed, byteOf f.port, byteOf f.slot.val] ++ le16 f.power
                    ++ le16 f.ceiling ++ le32 f.aRem ++ le32 h ++ le16 0 ++ [3])))
        ∧ (∀ f h g, computeGrant (grantInputs s m) q = .grant f h g →
          Gives (exec .check s) fun t =>
            t.handovers = rest ∧ RenewedAtTake s t seat
              ∧ (∀ p : Part, p ≠ .handovers → p ≠ .attachments → Kept s t p)
              ∧ Answered s t seat (answerWith s seat .done
                  ([0, flagByte g.ampUsed, byteOf g.port, byteOf f.slot.val] ++ le16 g.power
                    ++ le16 f.ceiling ++ le32 f.aRem ++ le32 (h.getD 0xFFFFFFFF)
                    ++ le16 g.duration ++ [byteOf g.limit.code])))

/-- R24 to R32: a grant stays within every limit: its power within the member's and the station's
ceilings and, without the amplifier, the transceiver's; its duration within the key limit, the allowance
and the heat; and every frequency of its guarded span lies in a present segment that admits the member's
grade and the mode, at a ceiling no lower than the power. -/
def Obligations.GrantStaysWithinItsLimits : Prop :=
  ∀ (inp : GrantInputs) (r : Request) (f : Figures) (h : Option Nat) (g : Grant),
    computeGrant inp r = .grant f h g →
    g.freq = r.freq ∧ g.mode = r.mode
      ∧ g.power ≤ inp.member.ceiling ∧ g.power ≤ inp.station.cst
      ∧ (r.preq ≠ 0 → g.power ≤ r.preq)
      ∧ (g.ampUsed = false → g.power ≤ inp.station.cb)
      ∧ (g.ampUsed = true → inp.station.ampPresent = true ∧ inp.ampInService = true
          ∧ inp.station.cb < g.power ∧ r.mode ≠ .tune)
      ∧ (r.mode = .tune → g.power ≤ inp.station.tuneCeiling
          ∧ g.duration ≤ inp.station.tuneLimit)
      ∧ g.duration ≤ inp.station.keyLimit
      ∧ g.duration ≤ inp.member.allowance * 60 - inp.member.used / 1000
      ∧ grantThreshold inp.station r.mode ≤ inp.member.allowance * 60 - inp.member.used / 1000
      ∧ (inp.q ≤ inp.station.qmax →
          inp.q + g.duration * g.power ≤ inp.station.qmax + g.duration * inp.station.cool)
      ∧ r.mode.below + inp.station.guard ≤ r.freq
      ∧ (∀ x : Nat, r.freq - (r.mode.below + inp.station.guard) ≤ x →
          x ≤ r.freq + r.mode.above + inp.station.guard →
          ∃ seg ∈ inp.plan, seg.2.low ≤ x ∧ x < seg.2.high ∧ seg.2.permits r.mode = true
            ∧ seg.2.minGrade ≤ inp.member.grade ∧ g.power ≤ seg.2.ceiling)

/-- R137: AMP_RESTORE: authority, then AMP_FAULT deasserted, and the amplifier is in service again; the
answer carries the service state before. -/
def Obligations.AmpRestoreReturnsTheAmplifier : Prop :=
  ∀ (s : State) (seat : SeatNo) (rest : List SeatNo), OrderReady 15 seat rest s →
    (hasAuthority s seat = false →
      Gives (exec .ampRestore s) fun t => OrderRefused s t seat rest .notTrustee)
    ∧ (hasAuthority s seat = true → s.pins.ampFault = true →
      Gives (exec .ampRestore s) fun t => OrderRefused s t seat rest .stillFaulted)
    ∧ (hasAuthority s seat = true → s.pins.ampFault = false →
      Gives (exec .ampRestore s) fun t =>
        t.handovers = rest ∧ RenewedAtTake s t seat ∧ t.keying.ampInService = true
          ∧ t.keying.state = s.keying.state ∧ t.keying.lead = s.keying.lead
          ∧ (∀ p : Part, p ≠ .handovers → p ≠ .attachments → p ≠ .keying → Kept s t p)
          ∧ Answered s t seat (answerWith s seat .done
              [if s.keying.ampInService then 1 else 0]))

/-- R79, R155, R176, R180, R181: STATION_WRITE reads its body by the layout of the record, replaces the record
with every field in its range, counts the fields it had to change, brings Q down to a lowered Qmax, and makes
unknown what is believed of a device whose address moved. -/
def Obligations.StationWriteReplacesTheRecord : Prop :=
  ∀ (s : State) (seat : SeatNo) (rest : List SeatNo), OrderReady 16 seat rest s →
    hasAuthority s seat = true →
    (s.mode = .serving → stationFree s = false →
      Gives (exec .stationWrite s) fun t => OrderRefused s t seat rest .floorBusy)
    ∧ (s.mode = .configuring ∨ stationFree s = true →
      (parseStation s seat = none →
        Gives (exec .stationWrite s) fun t => OrderRefused s t seat rest .badField)
      ∧ ∀ r : StationRecord, parseStation s seat = some r →
        Gives (exec .stationWrite s) fun t =>
          t.handovers = rest ∧ t.station = r.clamped
            ∧ (∀ x ∈ stationFields r, fromLE (cellBytes s (.order seat) (4 + x.1) x.2.1) = x.2.2)
            ∧ (cellByte s (.order seat) 4).toNat = r.callsign.length
            ∧ cellBytes s (.order seat) 5 r.callsign.length = r.callsign
            ∧ t.station.callsign = r.callsign
            ∧ (∀ x ∈ [(t.station.cst, 1, 1500, r.cst), (t.station.cb, 1, 200, r.cb),
                (t.station.guard, 0, 2000, r.guard), (t.station.keyLimit, 30, 600, r.keyLimit),
                (t.station.hangTime, 0, 10, r.hangTime), (t.station.turnLimit, 1, 8, r.turnLimit),
                (t.station.startWait, 1, 30, r.startWait), (t.station.threshold, 1, 12, r.threshold),
                (t.station.trimMargin, 2, 8, r.trimMargin), (t.station.starveLimit, 1, 50, r.starveLimit),
                (t.station.disorderLimit, 1, 50, r.disorderLimit),
                (t.station.rejoin, 0, 5000, r.rejoin - r.rejoin % 100),
                (t.station.presence, 5, 120, r.presence), (t.station.lead, 0, 100, r.lead),
                (t.station.idInterval, 1, 30, r.idInterval), (t.station.closing, 10, 120, r.closing),
                (t.station.grace, 0, 300, r.grace), (t.station.idSpeed, 10, 30, r.idSpeed),
                (t.station.qmax, 1000, 4000000, r.qmax), (t.station.cool, 0, 1500, r.cool),
                (t.station.tuneCeiling, 5, 100, r.tuneCeiling),
                (t.station.tuneLimit, 5, 30, r.tuneLimit), (t.station.swrLimit, 15, 50, r.swrLimit),
                (t.station.ownAddress, 1, 63, r.ownAddress),
                (t.station.radioAddress, 1, 63, r.radioAddress),
                (t.station.antennaAddress, 1, 63, r.antennaAddress),
                (t.station.ampAddress, 1, 63, r.ampAddress),
                (t.station.panelAddress, 1, 63, r.panelAddress)],
              x.1 = max x.2.1 (min x.2.2.1 x.2.2.2))
            ∧ t.station.minGrant = min (max 5 (min 60 r.minGrant)) t.station.keyLimit
            ∧ (t.station.pitch ∈ [500, 600, 700, 800, 1000]
                ∧ ∀ p ∈ [500, 600, 700, 800, 1000],
                  (max t.station.pitch r.pitch - min t.station.pitch r.pitch
                      < max p r.pitch - min p r.pitch)
                    ∨ (max t.station.pitch r.pitch - min t.station.pitch r.pitch
                        = max p r.pitch - min p r.pitch) ∧ t.station.pitch ≤ p)
            ∧ t.station.criteria = ⟨(cellByte s (.order seat) 33).getLsbD 0,
                (cellByte s (.order seat) 33).getLsbD 1, (cellByte s (.order seat) 33).getLsbD 2⟩
            ∧ t.station.pulsedTune = (cellByte s (.order seat) 43).getLsbD 0
            ∧ t.station.wrap = (cellByte s (.order seat) 43).getLsbD 1
            ∧ t.station.ampPresent = (cellByte s (.order seat) 43).getLsbD 2
            ∧ t.station.pollEnable = (cellByte s (.order seat) 43).getLsbD 3
            ∧ t.duty = { s.duty with q := min s.duty.q t.station.qmax }
            ∧ t.bus.believed.freq =
                (if t.station.radioAddress = s.station.radioAddress then s.bus.believed.freq
                  else none)
            ∧ t.bus.believed.mode =
                (if t.station.radioAddress = s.station.radioAddress then s.bus.believed.mode
                  else none)
            ∧ t.bus.believed.drive =
                (if t.station.radioAddress = s.station.radioAddress then s.bus.believed.drive
                  else none)
            ∧ t.bus.believed.port =
                (if t.station.antennaAddress = s.station.antennaAddress then s.bus.believed.port
                  else none)
            ∧ t.bus.believed.amp =
                (if t.station.ampAddress = s.station.ampAddress then s.bus.believed.amp else none)
            ∧ t.floor = s.floor ∧ t.queue = s.queue
            ∧ Answered s t seat (answerWith s seat .done [BitVec.ofNat 8
                (((stationFields r).zip (stationFields t.station)).countP fun x => x.1 != x.2)]))

/-- R177 to R179: BEGIN_SERVICE turns a complete station to SERVING; END_SERVICE detaches every other seat,
clears the queue and turns the station to CONFIGURING, where the floor stands IDLE. R11: each seat it detaches
is told SERVICE_END and loses its other notices. A turn's end leaves no setup item on the work list, not even
of a next turn: the model's choice (log 44). -/
def Obligations.ServiceBeginsAndEnds : Prop :=
  ∀ (s : State) (seat : SeatNo) (rest : List SeatNo), hasAuthority s seat = true →
    (OrderReady 17 seat rest s → s.mode = .configuring → s.members[(0 : MemberNo)].isSome = true →
      s.station.callsign ≠ [] → (∃ i : SlotNo, s.plan[i].isSome = true) →
      Gives (exec .beginService s) fun t =>
        t.handovers = rest ∧ t.mode = .serving ∧ t.floor = s.floor
          ∧ Answered s t seat (answerWith s seat .done []))
    ∧ (OrderReady 17 seat rest s → s.mode = .serving →
      Gives (exec .beginService s) fun t => OrderRefused s t seat rest .notConfiguring)
    ∧ (OrderReady 17 seat rest s → s.mode = .configuring →
      (s.members[(0 : MemberNo)] = none ∨ s.station.callsign = []
        ∨ ∀ i : SlotNo, s.plan[i] = none) →
      Gives (exec .beginService s) fun t => OrderRefused s t seat rest .incomplete)
    ∧ (OrderReady 18 seat rest s → s.mode = .configuring →
      Gives (exec .endService s) fun t => OrderRefused s t seat rest .notServing)
    ∧ (OrderReady 18 seat rest s → s.mode = .serving →
      stationFree s = false ∨ s.ident.window = true →
      Gives (exec .endService s) fun t => OrderRefused s t seat rest .floorBusy)
    ∧ (OrderReady 18 seat rest s → s.mode = .serving → stationFree s = true →
      s.ident.window = false → IdentLaw s → FloorLaw s →
      Gives (exec .endService s) fun t =>
        t.handovers = rest ∧ t.mode = .configuring ∧ t.floor.state = .idle ∧ t.queue = []
          ∧ (∀ x : SeatNo, x ≠ seat → t.seats[x].attachment = none)
          ∧ (∀ (x : SeatNo) (m : MemberNo), x ≠ seat → attachedMember s x = some m →
              SeatLeft s t x m .serviceEnd)
          ∧ attachedMember t seat = attachedMember s seat
          ∧ Answered s t seat (answerWith s seat .done []))

/-! ### Floor orders -/

/-- R38, R39, R41, R42: a REQUEST that passes its checks while the floor is neither IDLE nor RESTING joins the
queue: a normal entry at the back, a priority entry behind the last priority entry or at the front; the answer
gives its position. The floor stays as it is. R45: so it does in IDLE under TX_INHIBIT. R39, R44: in RESTING
the head stays at position 1 and a priority entry joins in the same way behind it; the join is a serving
point, at which the head waits on, becomes the holder, or is removed REFUSED_AT_GRANT. R41: its refusals in
their order. That a priority entry goes to the front where there is no other is read by inference (log 19),
and so is the keyed time of 0 in a queued entry's END notice (log 30). R49, R70: with an empty setup list the
head that becomes the holder has left SETTING within the act. That the items of a setup are placed in an act
of their own, so that none stands on the work list yet, is the model's choice (log 44). -/
def Obligations.RequestJoinsOrIsRefused : Prop :=
  (∀ (s : State) (seat : SeatNo) (rest : List SeatNo) (m : MemberNo) (q : Request) (fig : Figures)
      (e : Entry), OrderReady 11 seat rest s → s.mode = .serving → attachedMember s seat = some m →
      s.floor.state ≠ .idle ∨ s.pins.txInhibit = true → s.floor.state ≠ .resting →
      s.floor.state ≠ .shut →
      parseRequest s seat = some q → bodyByte s seat 11 = 0 ∨ bodyByte s seat 11 = 1 →
      (bodyByte s seat 11 = 1 → (memberOf s m).priority = true) → queued s seat = false →
      holderSeat s ≠ some seat → admission (grantInputs s m) q = .ok fig →
      e = ⟨seat, m, q, bodyByte s seat 11 == 1⟩ →
      Gives (exec .request s) fun t =>
        t.handovers = rest ∧ t.floor = s.floor ∧ t.ident.lastMode = s.ident.lastMode
          ∧ (e.priority = false →
              t.queue = s.queue ++ [e]
                ∧ Answered s t seat (answerWith s seat .done [byteOf (s.queue.length + 1), 0]))
          ∧ (e.priority = true → ∃ i : Fin (s.queue.length + 1),
              t.queue = s.queue.take i.val ++ e :: s.queue.drop i.val
                ∧ (∀ x ∈ s.queue.drop i.val, x.priority = false)
                ∧ (i.val = 0 ∨ (s.queue.take i.val).getLast?.any Entry.priority = true)
                ∧ Answered s t seat (answerWith s seat .done [byteOf (i.val + 1), 0])))
  ∧ (∀ (s : State) (seat : SeatNo) (rest : List SeatNo) (m : MemberNo) (q : Request) (fig : Figures)
      (e head : Entry) (more : List Entry), OrderReady 11 seat rest s → s.mode = .serving →
      s.pins.txInhibit = false → s.ident.pending = false → attachedMember s seat = some m →
      s.floor.state = .resting → s.floor.holder = none → s.queue = head :: more →
      parseRequest s seat = some q → bodyByte s seat 11 = 0 ∨ bodyByte s seat 11 = 1 →
      (bodyByte s seat 11 = 1 → (memberOf s m).priority = true) → queued s seat = false →
      admission (grantInputs s m) q = .ok fig → e = ⟨seat, m, q, bodyByte s seat 11 == 1⟩ →
      ∃ i : Fin (more.length + 1),
        (e.priority = false → i.val = more.length)
        ∧ (e.priority = true → (∀ x ∈ more.drop i.val, x.priority = false)
            ∧ (i.val = 0 ∨ (more.take i.val).getLast?.any Entry.priority = true))
        ∧ (∀ fig' h, computeGrant (grantInputs s head.member) head.req = .short fig' h →
          Gives (exec .request s) fun t =>
            t.handovers = rest ∧ t.floor = s.floor
              ∧ t.queue = head :: (more.take i.val ++ e :: more.drop i.val)
              ∧ Answered s t seat (answerWith s seat .done [byteOf (i.val + 2), 0]))
        ∧ (∀ fig' h g, computeGrant (grantInputs s head.member) head.req = .grant fig' h g →
          ¬ TuneFaults s g →
          Gives (exec .request s) fun t =>
            GrantTaken s t g ∧ t.floor.holder = some ⟨head.seat, head.member⟩
              ∧ t.floor.grant = some g ∧ t.queue = more.take i.val ++ e :: more.drop i.val
              ∧ Answered s t seat (answerWith s seat .done [byteOf (i.val + 2), 0]))
        ∧ (∀ r, computeGrant (grantInputs s head.member) head.req = .refusal r → FloorLaw s →
          Gives (exec .request s) fun t =>
            Noticed s t head.seat (.ended .refusedAtGrant (.refusal r) false head.member 0)
              ∧ (∀ x ∈ t.queue, x.seat ≠ head.seat)
              ∧ Answered s t seat (answerWith s seat .done [byteOf (i.val + 2), 0])))
  ∧ (∀ (s : State) (seat : SeatNo) (rest : List SeatNo), OrderReady 11 seat rest s →
      (s.mode = .configuring →
        Gives (exec .request s) fun t => OrderRefused s t seat rest .notServing)
      ∧ (s.mode = .serving → attachedMember s seat = none →
        Gives (exec .request s) fun t => OrderRefused s t seat rest .notAttached)
      ∧ ∀ m : MemberNo, s.mode = .serving → attachedMember s seat = some m →
        (s.floor.state = .shut →
          Gives (exec .request s) fun t => OrderRefused s t seat rest .shut)
        ∧ (s.floor.state ≠ .shut →
          (parseRequest s seat = none ∨ 1 < (bodyByte s seat 11).toNat →
            Gives (exec .request s) fun t => OrderRefused s t seat rest .badField)
          ∧ ∀ q : Request, parseRequest s seat = some q →
            (bodyByte s seat 11 = 1 → (memberOf s m).priority = false →
              Gives (exec .request s) fun t => OrderRefused s t seat rest .noPrivilege)
            ∧ (bodyByte s seat 11 = 0 ∨ bodyByte s seat 11 = 1 ∧ (memberOf s m).priority = true →
              (queued s seat = true ∨ holderSeat s = some seat ∧ s.floor.state ≠ .hang →
                Gives (exec .request s) fun t => OrderRefused s t seat rest .alreadyQueued)
              ∧ (∀ e, queued s seat = false → holderSeat s ≠ some seat →
                admission (grantInputs s m) q = .error e →
                Gives (exec .request s) fun t => OrderRefused s t seat rest e))))

/-- R42, R44 to R46: a REQUEST taken in IDLE with nothing in the way is served in the same act: with a grant
the seat becomes the holder and the floor enters SETTING; short of headroom the floor rests with the entry at
its head. R49, R70: with an empty setup list SETTING is left within the act, for GRANTED, or for TUNE for
ON_AIR with the key request; R114, R136: that key request opens the ID window, and with an amplifier fault
standing the turn ends EQUIPMENT. That the items of a setup are placed in an act of their own, so that none
stands on the work list yet, is the model's choice (log 44). -/
def Obligations.RequestIsServedFromIdle : Prop :=
  ∀ (s : State) (seat : SeatNo) (rest : List SeatNo) (m : MemberNo) (q : Request),
    OrderReady 11 seat rest s → s.mode = .serving → s.pins.txInhibit = false →
    s.ident.pending = false → attachedMember s seat = some m → s.floor.state = .idle →
    s.floor.holder = none → s.queue = [] → parseRequest s seat = some q →
    bodyByte s seat 11 = 0 ∨ bodyByte s seat 11 = 1 ∧ (memberOf s m).priority = true →
    (∀ fig h g, computeGrant (grantInputs s m) q = .grant fig h g → ¬ TuneFaults s g →
      Gives (exec .request s) fun t =>
        t.handovers = rest ∧ GrantTaken s t g ∧ t.floor.holder = some ⟨seat, m⟩
          ∧ t.floor.grant = some g ∧ t.floor.turnCount = 1 ∧ t.floor.keyedMs = 0
          ∧ t.floor.keyDown = 0 ∧ t.queue = [] ∧ t.ident.lastMode = some g.mode
          ∧ t.seats[seat].counters = Counters.zero
          ∧ Noticed s t seat (.grant 1 g) ∧ Noticed s t seat (.queue 0)
          ∧ Answered s t seat (answerWith s seat .done [1, 0]))
    ∧ (∀ fig h g, computeGrant (grantInputs s m) q = .grant fig h g → TuneFaults s g →
      s.keying.state = .unkeyed →
      Gives (exec .request s) fun t =>
        t.floor.state = .idle ∧ t.floor.holder = none ∧ t.floor.grant = none ∧ t.queue = []
          ∧ t.keying.state = .unkeyed ∧ t.keying.ampInService = false ∧ t.ident.window = true
          ∧ Noticed s t seat (.ended .equipment (.equipment .ampFault) true m 0)
          ∧ Answered s t seat (answerWith s seat .done [1, 0]))
    ∧ (∀ fig h, computeGrant (grantInputs s m) q = .short fig h →
      Gives (exec .request s) fun t =>
        t.floor.state = .resting ∧ t.floor.holder = none
          ∧ t.queue = [⟨seat, m, q, bodyByte s seat 11 == 1⟩]
          ∧ Answered s t seat (answerWith s seat .done [1, 0]))

/-- R57: a re-key in HANG, with nobody waiting or the turn below its limit, takes a new grant: into SETTING,
or where the setting stays the same into GRANTED, for TUNE ON_AIR with the key request; a refusal leaves the
hang running; short of headroom the turn ends RELEASED and the request joins the queue, by its class (R39).
With somebody waiting at the turn limit the turn ends RELEASED, and the request is judged and joins behind, or
is refused. Either way the floor then considers the head of the queue. R49, R70: with an empty setup list
SETTING is left within the act. R136: a TUNE asked to key with an amplifier fault standing ends EQUIPMENT.
That the items of a setup are placed in an act of their own, so that none stands on the work list yet, is the
model's choice (log 44). -/
def Obligations.RekeyTakesANewGrant : Prop :=
  ∀ (s : State) (seat : SeatNo) (rest : List SeatNo) (h : Holder) (old : Grant) (q : Request)
    (e : Entry),
    OrderReady 11 seat rest s → s.mode = .serving → s.floor.state = .hang →
    s.floor.holder = some h → h.seat = seat → s.floor.grant = some old →
    attachedMember s seat = some h.member → queued s seat = false →
    parseRequest s seat = some q →
    bodyByte s seat 11 = 0 ∨ bodyByte s seat 11 = 1 ∧ (memberOf s h.member).priority = true →
    e = ⟨seat, h.member, q, bodyByte s seat 11 == 1⟩ →
    (s.queue = [] ∨ s.floor.turnCount < s.station.turnLimit →
      (∀ r, computeGrant (grantInputs s h.member) q = .refusal r →
        Gives (exec .request s) fun t => OrderRefused s t seat rest r)
      ∧ (∀ fig hr g, computeGrant (grantInputs s h.member) q = .grant fig hr g →
        (¬ (g.freq = old.freq ∧ g.mode = old.mode ∧ g.power = old.power) ∨ g.mode ≠ .tune) →
        ¬ TuneFaults s g →
        Gives (exec .request s) fun t =>
          t.floor.holder = some h ∧ t.floor.grant = some g
            ∧ t.floor.turnCount = min 255 (s.floor.turnCount + 1)
            ∧ t.floor.keyedMs = s.floor.keyedMs ∧ t.floor.keyDown = 0 ∧ t.floor.hang = none
            ∧ t.floor.timeWarned = false ∧ t.queue = s.queue
            ∧ (if g.freq = old.freq ∧ g.mode = old.mode ∧ g.power = old.power then
                t.floor.state = .granted
                  ∧ t.floor.startWait = some (s.station.startWait * 1000)
                  ∧ t.playout.frames = [] ∧ t.playout.np = none
              else GrantTaken s t g)
            ∧ Noticed s t seat (.grant (min 255 (s.floor.turnCount + 1)) g)
            ∧ Answered s t seat (answerWith s seat .done [0, 1]))
      ∧ (∀ fig hr g, computeGrant (grantInputs s h.member) q = .grant fig hr g →
        g.freq = old.freq → g.mode = old.mode → g.power = old.power → g.mode = .tune →
        s.pins.txInhibit = false → s.pins.ampFault = false → s.keying.state = .unkeyed →
        s.station.lead ≠ 0 →
        Gives (exec .request s) fun t =>
          t.floor.state = .onAir ∧ t.floor.holder = some h ∧ t.floor.grant = some g
            ∧ t.floor.turnCount = min 255 (s.floor.turnCount + 1)
            ∧ t.floor.keyedMs = s.floor.keyedMs ∧ t.floor.keyDown = 0 ∧ t.floor.hang = none
            ∧ t.keying.state = .leading ∧ t.keying.lead = some s.station.lead
            ∧ t.queue = s.queue
            ∧ Noticed s t seat (.grant (min 255 (s.floor.turnCount + 1)) g)
            ∧ Answered s t seat (answerWith s seat .done [0, 1]))
      ∧ (∀ fig hr g, computeGrant (grantInputs s h.member) q = .grant fig hr g →
        g.freq = old.freq ∧ g.mode = old.mode ∧ g.power = old.power ∨ AtSetting s g →
        g.mode = .tune → s.pins.ampFault = true → s.bus.believed.amp = some .operate →
        s.pins.txInhibit = false → s.keying.state = .unkeyed →
        Gives (exec .request s) fun t =>
          TurnEnded s t h .equipment (.equipment .ampFault) ∧ t.keying.ampInService = false
            ∧ Answered s t seat (answerWith s seat .done [0, 1]))
      ∧ (∀ fig hr i head more, computeGrant (grantInputs s h.member) q = .short fig hr →
        s.pins.txInhibit = false → s.ident.pending = false → JoinsBehind e s.queue i →
        s.queue.take i ++ e :: s.queue.drop i = head :: more →
        (∀ fig' hr', computeGrant (grantInputs s head.member) head.req = .short fig' hr' →
          Gives (exec .request s) fun t =>
            t.floor.state = .resting ∧ t.floor.holder = none ∧ t.floor.hang = none
              ∧ t.queue = head :: more
              ∧ Noticed s t seat (.ended .released .none true h.member s.floor.keyedMs)
              ∧ Answered s t seat (answerWith s seat .done [byteOf (i + 1), 0]))
        ∧ ∀ fig' hr' g', computeGrant (grantInputs s head.member) head.req = .grant fig' hr' g' →
          g'.mode ≠ .tune ∨ s.pins.ampFault = false ∨ s.bus.believed.amp ≠ some .operate
            ∨ s.station.ampPresent = true →
          Gives (exec .request s) fun t =>
            GrantTaken t t g' ∧ t.floor.holder = some ⟨head.seat, head.member⟩
              ∧ t.floor.grant = some g' ∧ t.queue = more
              ∧ Noticed s t seat (.ended .released .none true h.member s.floor.keyedMs)
              ∧ Answered s t seat (answerWith s seat .done [byteOf (i + 1), 0])))
    ∧ (s.queue ≠ [] → s.station.turnLimit ≤ s.floor.turnCount → s.pins.txInhibit = false →
      s.ident.pending = false →
      ∀ head more,
        (∀ r fig' hr' g', admission (grantInputs s h.member) q = .error r → s.queue = head :: more →
          computeGrant (grantInputs s head.member) head.req = .grant fig' hr' g' →
          g'.mode ≠ .tune ∨ s.pins.ampFault = false ∨ s.bus.believed.amp ≠ some .operate
            ∨ s.station.ampPresent = true →
          Gives (exec .request s) fun t =>
            GrantTaken t t g' ∧ t.floor.holder = some ⟨head.seat, head.member⟩
              ∧ t.floor.grant = some g' ∧ t.queue = more
              ∧ Noticed s t seat (.ended .released .none true h.member s.floor.keyedMs)
              ∧ Answered s t seat (answerWith s seat r []))
        ∧ ∀ fig i, admission (grantInputs s h.member) q = .ok fig → JoinsBehind e s.queue i →
          s.queue.take i ++ e :: s.queue.drop i = head :: more →
          (∀ fig' hr', computeGrant (grantInputs s head.member) head.req = .short fig' hr' →
            Gives (exec .request s) fun t =>
              t.floor.state = .resting ∧ t.floor.holder = none ∧ t.queue = head :: more
                ∧ Noticed s t seat (.ended .released .none true h.member s.floor.keyedMs)
                ∧ Answered s t seat (answerWith s seat .done [byteOf (i + 1), 0]))
          ∧ ∀ fig' hr' g', computeGrant (grantInputs s head.member) head.req = .grant fig' hr' g' →
            g'.mode ≠ .tune ∨ s.pins.ampFault = false ∨ s.bus.believed.amp ≠ some .operate
              ∨ s.station.ampPresent = true →
            Gives (exec .request s) fun t =>
              GrantTaken t t g' ∧ t.floor.holder = some ⟨head.seat, head.member⟩
                ∧ t.floor.grant = some g' ∧ t.queue = more
                ∧ Noticed s t seat (.ended .released .none true h.member s.floor.keyedMs)
                ∧ Answered s t seat (answerWith s seat .done [byteOf (i + 1), 0]))

/-- R43, R45: WITHDRAW takes the seat's own entry from the queue; its seat hears position 0 and those behind
it their new places. With the floor at rest the head of what is left is considered at once, be it the old one
or a new one: it waits on, or becomes the holder; with nobody left the floor is IDLE. In every other state,
and in IDLE under TX_INHIBIT or while CONFIGURING, the floor stays as it is. R49, R70: a grant with an empty
setup list leaves SETTING within the act. That the items of a setup are placed in an act of their own, so that
none stands on the work list yet, is the model's choice (log 44). -/
def Obligations.WithdrawRemovesTheEntry : Prop :=
  ∀ (s : State) (seat : SeatNo) (rest : List SeatNo) (front behind : List Entry) (e : Entry),
    OrderReady 12 seat rest s → FloorLaw s →
    (queued s seat = false →
      Gives (exec .withdraw s) fun t => OrderRefused s t seat rest .notQueued)
    ∧ (s.queue = front ++ e :: behind → e.seat = seat →
      (s.floor.state ≠ .idle ∨ s.pins.txInhibit = true ∨ s.mode = .configuring →
        s.floor.state ≠ .resting →
        Gives (exec .withdraw s) fun t =>
          t.handovers = rest ∧ t.queue = front ++ behind ∧ t.floor = s.floor
            ∧ Noticed s t seat (.queue 0)
            ∧ (∀ i : Fin behind.length,
                Noticed s t behind[i].seat (.queue (front.length + 1 + i.val)))
            ∧ Answered s t seat (answerWith s seat .done []))
      ∧ (s.floor.state = .resting → front = [] → behind = [] → s.ident.pending = false →
        Gives (exec .withdraw s) fun t =>
          t.queue = [] ∧ t.floor.state = .idle ∧ Noticed s t seat (.queue 0)
            ∧ Answered s t seat (answerWith s seat .done []))
      ∧ (∀ head more, s.floor.state = .resting → front ++ behind = head :: more →
        s.ident.pending = false → s.mode = .serving → s.pins.txInhibit = false →
        (∀ fig h, computeGrant (grantInputs s head.member) head.req = .short fig h →
          Gives (exec .withdraw s) fun t =>
            t.queue = front ++ behind ∧ t.floor = s.floor ∧ Noticed s t seat (.queue 0)
              ∧ (∀ i : Fin behind.length,
                  Noticed s t behind[i].seat (.queue (front.length + 1 + i.val)))
              ∧ Answered s t seat (answerWith s seat .done []))
        ∧ ∀ fig h g, computeGrant (grantInputs s head.member) head.req = .grant fig h g →
          ¬ TuneFaults s g →
          Gives (exec .withdraw s) fun t =>
            t.queue = more ∧ GrantTaken s t g ∧ t.floor.holder = some ⟨head.seat, head.member⟩
              ∧ t.floor.grant = some g ∧ Noticed s t seat (.queue 0)
              ∧ Answered s t seat (answerWith s seat .done [])))

/-- R55, R56: RELEASE by its table: from ON_AIR or STALLED into IDENT with an ID pending, to IDLE with a hang
time of 0, else into HANG, where holder and grant stay; from the other states the turn ends. R64: into IDENT,
a STANDBY is outstanding where the identification needs one. A turn's end leaves no setup item on the work
list, not even of a next turn: the model's choice (log 44). -/
def Obligations.ReleaseFollowsItsTable : Prop :=
  ∀ (s : State) (seat : SeatNo) (rest : List SeatNo) (secs : Nat), OrderReady 13 seat rest s →
    FloorLaw s → secs = min (s.floor.keyedMs / 1000) 65535 →
    (holderSeat s ≠ some seat →
      Gives (exec .release s) fun t => OrderRefused s t seat rest .notHolder)
    ∧ ∀ h : Holder, s.floor.holder = some h → h.seat = seat →
      (s.floor.state = .onAir ∨ s.floor.state = .stalled → s.ident.pending = false →
        s.station.hangTime ≠ 0 →
        Gives (exec .release s) fun t =>
          t.handovers = rest ∧ t.keying.state = .unkeyed
            ∧ t.floor = { s.floor with
                state := .hang, hang := some (s.station.hangTime * 1000), startWait := none
                rejoin := none }
            ∧ t.playout.frames = [] ∧ t.queue = s.queue
            ∧ Answered s t seat (answerWith s seat .done (6 :: le16 secs)))
      ∧ (s.floor.state = .onAir ∨ s.floor.state = .stalled → s.ident.pending = true →
        Gives (exec .release s) fun t =>
          TurnEnded s t h .released .none ∧ t.floor.state = .ident ∧ t.queue = s.queue
            ∧ (NeedsStandby s → standbyOutstanding t = true)
            ∧ Answered s t seat (answerWith s seat .done (7 :: le16 secs)))
      ∧ (s.floor.state ≠ .onAir ∧ s.floor.state ≠ .stalled
          ∨ s.ident.pending = false ∧ s.station.hangTime = 0 →
        Gives (exec .release s) fun t =>
          EndedToIdle s t h .released .none
            ∧ Answered s t seat (answerWith s seat .done (0 :: le16 secs)))

/-- R58: FORCE_RELEASE ends the holder's turn FORCED and, with its flag set, clears the queue; with no holder
and the flag clear it is refused. The keyed time of 0 in a queued entry's END notice is read by inference (log
30). A turn's end leaves no setup item on the work list, not even of a next turn: the model's choice (log 44).
-/
def Obligations.ForceReleaseTakesTheFloor : Prop :=
  ∀ (s : State) (seat : SeatNo) (rest : List SeatNo), OrderReady 14 seat rest s → FloorLaw s →
    hasAuthority s seat = true →
    (s.floor.holder = none → bodyByte s seat 4 = 0 →
      Gives (exec .forceRelease s) fun t => OrderRefused s t seat rest .notHolder)
    ∧ (∀ h : Holder, s.floor.holder = some h → bodyByte s seat 4 = 0 →
      Gives (exec .forceRelease s) fun t =>
        EndedToIdle s t h .forced .none
          ∧ Answered s t seat (answerWith s seat .done [1, 0]))
    ∧ (bodyByte s seat 4 ≠ 0 →
      Gives (exec .forceRelease s) fun t =>
        t.queue = [] ∧ t.floor.holder = none
          ∧ (∀ h : Holder, s.floor.holder = some h → TurnEnded s t h .forced .none)
          ∧ (∀ e ∈ s.queue, Noticed s t e.seat (.ended .forced .none false e.member 0))
          ∧ (s.floor.holder = none → s.floor.state ≠ .resting → t.floor = s.floor)
          ∧ (s.floor.holder ≠ none ∨ s.floor.state = .resting → s.ident.pending = false →
              t.floor.state = .idle)
          ∧ Answered s t seat (answerWith s seat .done
              [if s.floor.holder.isSome then 1 else 0, byteOf s.queue.length]))

/-! ### The floor's own events -/

/-- R48, R49: SETTING compares the grant with what is believed and places the items that differ, in their
order; with none the setup is complete, and the floor enters GRANTED with its start-wait timer and an emptied
playout queue, or for TUNE goes ON_AIR at once with the key request. That the items are placed in an act of
their own, behind the one that entered SETTING, is the model's choice (log 44). -/
def Obligations.SetupPlacesWhatDiffers : Prop :=
  ∀ (s : State) (g : Grant) (items : List Message), Running s → s.floor.grant = some g →
    s.floor.state = .setting → s.floor.setupPlaced = false → floorOutstanding s = false →
    passThroughOutstanding s = false →
    items =
      (if s.station.ampPresent = true ∧ g.ampUsed = false ∧ s.bus.believed.amp ≠ some .standby
          then [.standby] else [])
        ++ (if s.bus.believed.port ≠ some g.port then [.select g.port] else [])
        ++ (if s.bus.believed.freq ≠ some g.freq ∨ s.bus.believed.mode ≠ some g.mode
          then [.setFreq g.freq g.mode] else [])
        ++ (if s.bus.believed.drive ≠ some g.power then [.setDrive g.power] else [])
        ++ (if g.ampUsed = true ∧ s.bus.believed.amp ≠ some .operate then [.operate] else []) →
    (items ≠ [] →
      Gives (exec .setupPlace s) fun t =>
        t.bus.floorWork = s.bus.floorWork ++ items.map (fun m => ⟨m, .setup, 0, 0, 0⟩)
          ∧ t.floor = { s.floor with setupPlaced := true })
    ∧ (items = [] → g.mode ≠ .tune →
      Gives (exec .setupPlace s) fun t =>
        t.floor = { s.floor with
            state := .granted, setupPlaced := true
            startWait := some (s.station.startWait * 1000) }
          ∧ t.playout.frames = [] ∧ t.playout.np = none ∧ t.bus.floorWork = s.bus.floorWork)
    ∧ (items = [] → g.mode = .tune → s.mode = .serving → s.pins.txInhibit = false →
      s.pins.ampFault = false → s.keying.state = .unkeyed → s.station.lead ≠ 0 →
      Gives (exec .setupPlace s) fun t =>
        t.floor = { s.floor with
            state := .onAir, setupPlaced := true, startWait := none, rejoin := none }
          ∧ t.keying.state = .leading ∧ t.keying.lead = some s.station.lead ∧ pttOut t = true
          ∧ t.ident.window = true ∧ t.bus.floorWork = s.bus.floorWork)

/-- R51, R52, R54, R56, R59: the expiry of the start-wait, key-down, hang and rejoin timers ends the turn with
its cause and detail. The command is the moment of the expiry, whatever time the timer still holds (log 2, the
model's choice). A turn's end leaves no setup item on the work list, not even of a next turn: the model's
choice (log 44). -/
def Obligations.TimerExpiriesEndTheTurn : Prop :=
  ∀ (s : State) (h : Holder), Running s → FloorLaw s → s.floor.holder = some h →
    (s.floor.state = .granted → s.floor.startWait.isSome = true →
      Gives (exec .startWaitExpiry s) fun t => EndedToIdle s t h .noAudio .none)
    ∧ (∀ g : Grant, s.floor.state = .onAir → s.floor.grant = some g →
      Gives (exec .keyDownExpiry s) fun t => EndedToIdle s t h .timeUp (.limit g.limit))
    ∧ (s.floor.state = .hang → s.floor.hang.isSome = true →
      Gives (exec .hangExpiry s) fun t => EndedToIdle s t h .released .none)
    ∧ (s.floor.state = .stalled → s.floor.rejoin.isSome = true →
      Gives (exec .rejoinExpiry s) fun t =>
        EndedToIdle s t h .link (.criteria s.watch.criteria))

/-- R16, R37, R52, R72 to R74: a keyed millisecond raises the member's used time, the turn's keyed time and
the key-down count, and adds the grant's power to the interval's energy unless a pulsed tune-up has its
gate closed. In an identification, with no grant in force, it is nobody's used time, and its power is the
lesser of the believed drive and Cb, Cb when the drive is unknown. R52: the time warning goes to the holder
once per grant; the command is the moment at which 15,000 ms remain, whatever still remains (log 2, the
model's choice). That the key-down count and the tally stop at their limits is read by inference
(log 27). -/
def Obligations.KeyedMillisecondIsCounted : Prop :=
  ∀ s : State, Running s →
    (∀ (h : Holder) (g : Grant), s.floor.holder = some h → s.floor.grant = some g →
      (s.keying.state ≠ .unkeyed →
        Gives (exec .keyedMillisecond s) fun t =>
          t.floor = { s.floor with
              keyDown := min (g.duration * 1000) (s.floor.keyDown + 1)
              keyedMs := s.floor.keyedMs + 1 }
            ∧ (∀ x : MemberNo, t.members[x] =
                if x = h.member then
                  s.members[x].map fun r => { r with used := min 86400000 (r.used + 1) }
                else s.members[x])
            ∧ t.duty =
                (if (g.mode = .tune ∧ s.station.pulsedTune = true ∧ s.tone.gate = false)
                    ∨ 1000 ≤ s.duty.tOn then s.duty
                  else { s.duty with tOn := s.duty.tOn + 1, energy := s.duty.energy + g.power }))
      ∧ (attachedMember s h.seat = some h.member → s.floor.state = .onAir →
        s.floor.timeWarned = false → 15 < g.duration →
        Gives (exec .timeWarning s) fun t =>
          t.floor = { s.floor with timeWarned := true } ∧ Noticed s t h.seat .warnTime))
    ∧ (∀ p : Nat, s.keying.state ≠ .unkeyed → s.floor.holder = none → s.floor.grant = none →
      (p = s.station.cb ∧ s.bus.believed.drive = none
        ∨ ∃ d, s.bus.believed.drive = some d ∧ p = min d s.station.cb) →
      Gives (exec .keyedMillisecond s) fun t =>
        t.floor = s.floor ∧ t.members = s.members
          ∧ t.duty =
              (if 1000 ≤ s.duty.tOn then s.duty
                else { s.duty with tOn := s.duty.tOn + 1, energy := s.duty.energy + p }))

/-- R72, R75 to R77, R80: at the end of a duty interval Q takes up the interval's energy in watt-seconds,
gives off the cooling and stays within 0 to Qmax; an excess ends an ON_AIR or STALLED turn DUTY, and a resting
head is considered again. The page shows the new Q. The command is the moment of the expiry (log 2, the
model's choice). R49, R70: a grant with an empty setup list leaves SETTING within the act. That the items of a
setup are placed in an act of their own, so that none stands on the work list yet, is the model's choice (log
44). -/
def Obligations.DutyIntervalMovesTheHeat : Prop :=
  ∀ (s : State) (raw : Int), Running s → FloorLaw s →
    raw = (s.duty.q : Int) + (s.duty.energy / 1000 : Nat) - s.station.cool →
    Gives (exec .dutyIntervalExpiry s) fun t =>
      t.duty.q = (if (s.station.qmax : Int) < raw then s.station.qmax else raw.toNat)
        ∧ t.duty.tOn = 0 ∧ t.duty.energy = 0 ∧ t.duty.timer = 1000 ∧ t.page.q = t.duty.q
        ∧ (∀ h : Holder, s.floor.holder = some h → (s.station.qmax : Int) < raw →
            s.floor.state = .onAir ∨ s.floor.state = .stalled →
            EndedToIdle s t h .duty .none)
        ∧ (s.floor.state ≠ .resting →
            (¬ (s.station.qmax : Int) < raw
              ∨ s.floor.state ≠ .onAir ∧ s.floor.state ≠ .stalled) →
            t.floor = s.floor ∧ t.queue = s.queue)
        ∧ (∀ e more fig hr g, s.floor.state = .resting → s.queue = e :: more →
            s.mode = .serving → s.pins.txInhibit = false → s.ident.pending = false →
            computeGrant { grantInputs s e.member with q := t.duty.q } e.req
              = .grant fig hr g → ¬ TuneFaults s g →
            GrantTaken s t g ∧ t.floor.holder = some ⟨e.seat, e.member⟩
              ∧ t.floor.grant = some g ∧ t.queue = more)

/-! ### Identification -/

/-- R64, R115 to R117, R121: the periodic or the closing timer's expiry makes an ID pending with its grace
timer; IDLE and RESTING go to IDENT, a hang is cut short into IDENT, and a turn on the air goes on. On the way
into IDENT a STANDBY is placed where the identification needs one. The closing timer runs in IDLE alone; under
TX_INHIBIT, or while CONFIGURING, its expiry makes the ID pending and the floor stays IDLE. A timer that
expires with an ID pending already is stopped and does nothing else. At the grace timer's expiry the ID is
overdue, and an overlay begins where the stream is on the air; with a grace of 0 that happens in the act that
makes it pending. The command is the moment of the expiry (log 2, the model's choice). A turn's end leaves no
setup item on the work list, not even of a next turn: the model's choice (log 44). -/
def Obligations.IdentificationFallsDue : Prop :=
  ∀ s : State, Running s → FloorLaw s →
    (s.ident.periodic.isSome = true → s.ident.pending = false → s.station.grace ≠ 0 →
      Gives (exec .periodicIdExpiry s) fun t =>
        t.ident.pending = true ∧ t.ident.periodic = none ∧ t.ident.overdue = s.ident.overdue
          ∧ t.ident.grace = some (s.station.grace * 1000)
          ∧ (s.floor.state = .idle ∨ s.floor.state = .resting → s.mode = .serving →
              s.pins.txInhibit = false → IdentEntered s t ∧ t.queue = s.queue)
          ∧ (∀ h : Holder, s.floor.state = .hang → s.floor.holder = some h →
              TurnEnded s t h .released .none ∧ t.floor.state = .ident
                ∧ (NeedsStandby s → standbyOutstanding t = true))
          ∧ (s.floor.state ≠ .idle → s.floor.state ≠ .resting → s.floor.state ≠ .hang →
              t.floor = s.floor ∧ t.queue = s.queue))
    ∧ (s.ident.closing.isSome = true → s.ident.pending = false → s.station.grace ≠ 0 →
      s.floor.state = .idle → s.mode = .serving → s.pins.txInhibit = false →
      Gives (exec .closingExpiry s) fun t =>
        t.ident.pending = true ∧ t.ident.closing = none
          ∧ t.ident.grace = some (s.station.grace * 1000) ∧ IdentEntered s t)
    ∧ (s.ident.periodic.isSome = true → s.ident.pending = false → s.station.grace = 0 →
      Gives (exec .periodicIdExpiry s) fun t =>
        t.ident.pending = true ∧ t.ident.overdue = true ∧ t.ident.grace = none
          ∧ t.ident.periodic = none
          ∧ (s.floor.state = .idle ∨ s.floor.state = .resting → s.mode = .serving →
              s.pins.txInhibit = false → IdentEntered s t ∧ t.queue = s.queue)
          ∧ (s.floor.state = .onAir → t.floor = s.floor
              ∧ (stepsMade s = true → s.ident.sender = none →
                  t.ident.sender = some (newSender s.station true (grantIsCw s)))))
    ∧ (s.ident.closing.isSome = true → s.ident.pending = false → s.station.grace = 0 →
      s.floor.state = .idle → s.mode = .serving → s.pins.txInhibit = false →
      Gives (exec .closingExpiry s) fun t =>
        t.ident.pending = true ∧ t.ident.overdue = true ∧ t.ident.grace = none
          ∧ t.ident.closing = none ∧ IdentEntered s t)
    ∧ (Settled s → s.ident.closing.isSome = true →
      (s.ident.pending = false → s.mode = .configuring ∨ s.pins.txInhibit = true →
        Gives (exec .closingExpiry s) fun t =>
          t.floor = s.floor ∧ t.queue = s.queue
            ∧ t.ident = { s.ident with
                pending := true, closing := none
                overdue := if s.station.grace = 0 then true else s.ident.overdue
                grace := if s.station.grace = 0 then none else some (s.station.grace * 1000) })
      ∧ (s.ident.pending = true →
        Gives (exec .closingExpiry s) fun t =>
          t.floor = s.floor ∧ t.queue = s.queue ∧ t.ident = { s.ident with closing := none }))
    ∧ (Settled s → s.ident.periodic.isSome = true → s.ident.pending = true →
      Gives (exec .periodicIdExpiry s) fun t =>
        t.floor = s.floor ∧ t.queue = s.queue ∧ t.ident = { s.ident with periodic := none })
    ∧ (s.ident.grace.isSome = true →
      Gives (exec .graceExpiry s) fun t =>
        t.ident.overdue = true ∧ t.ident.grace = none ∧ t.floor = s.floor
          ∧ (stepsMade s = true → s.ident.sender = none →
              t.ident.sender = some (newSender s.station true (grantIsCw s)))
          ∧ (stepsMade s = false → t.ident.sender = s.ident.sender))

/-- R119, R122, R124, R128: the elements of a callsign follow one another; its end in IDENT closes the ID
window, unkeys the station and sends the floor to IDLE, where a TUNE whose setup list is empty may open the
window again within the act (R49, R70, R114); the end of an overlay closes the window and opens it anew. Every
ATTACHED seat is told. Each command is the moment itself, whatever elements or time are left (log 2, the
model's choice). That the end of the last element is the completion is read by inference (log 10). -/
def Obligations.IdentificationCompletes : Prop :=
  ∀ (s : State) (snd : Sender), Running s → s.ident.sender = some snd →
    (snd.overlay = false → s.floor.state = .ident →
      Gives (exec .idComplete s) fun t =>
        t.ident.pending = false ∧ t.ident.overdue = false ∧ t.ident.grace = none
          ∧ t.ident.sender = none ∧ (s.queue = [] → t.floor.state = .idle)
          ∧ (NextOnAir t → t.ident.window = true
              ∧ t.ident.periodic = some (s.station.idInterval * 60000))
          ∧ (¬ NextOnAir t → t.keying.state = .unkeyed
              ∧ (s.queue = [] ∨ s.pins.ampFault = false ∨ s.bus.believed.amp ≠ some .operate →
                  t.ident.window = false ∧ t.ident.periodic = none))
          ∧ (∀ x : SeatNo, s.seats[x].attachment.isSome = true →
              Noticed s t x (.ident false snd.byKey snd.length)))
    ∧ (snd.overlay = true →
      Gives (exec .overlayComplete s) fun t =>
        t.ident.window = true ∧ t.ident.pending = false ∧ t.ident.overdue = false
          ∧ t.ident.periodic = some (s.station.idInterval * 60000) ∧ t.ident.grace = none
          ∧ t.ident.sender = none ∧ t.keying.state = s.keying.state ∧ t.floor = s.floor
          ∧ (watching t = true → t.watch.steps = 0 ∧ t.watch.disorder = 0)
          ∧ (∀ x : SeatNo, s.seats[x].attachment.isSome = true →
              Noticed s t x (.ident true snd.byKey snd.length)))
    ∧ (∀ x y more, snd.elements = x :: y :: more →
      Gives (exec .morseElementEnd s) fun t =>
        t.ident.sender = some { snd with elements := y :: more, left := y.dots * snd.dot }
          ∧ t.floor = s.floor ∧ t.keying.state = s.keying.state
          ∧ (s.keying.state = .keyed → s.floor.state = .ident → snd.byKey = true →
              keyOut t = y.down))
    ∧ (∀ x, snd.elements = [x] →
      exec .morseElementEnd s
        = if snd.overlay = true then exec .overlayComplete s else exec .idComplete s)

/-! ### The radio lines and the status poll -/

/-- R69, R134, R136: TX_INHIBIT taken as asserted unkeys the station in every state and ends a turn INHIBIT;
IDENT and RESTING go to IDLE with the queue kept. AMP_FAULT while keyed with the amplifier believed OPERATE
unkeys, puts the amplifier out of service and ends an ON_AIR turn EQUIPMENT. Going deasserted restores
nothing; in IDLE TX_INHIBIT going deasserted is a serving point (R44, R45): a pending ID is sent, else the
entries are considered from the head on, past those whose grant is refused. A line command is the change as
taken (log 23, the model's choice). The keyed time of 0 in a queued entry's END notice is read by inference
(log 30). That the items of a setup are placed in an act of their own, so that none stands on the work list
yet, is the model's choice (log 44). -/
def Obligations.RadioLinesAreObeyed : Prop :=
  ∀ s : State, Running s → FloorLaw s →
    (s.pins.txInhibit = false →
      Gives (exec .txInhibitAsserted s) fun t =>
        t.pins.txInhibit = true ∧ t.keying.state = .unkeyed ∧ pttOut t = false
          ∧ t.queue = s.queue
          ∧ (∀ h : Holder, s.floor.holder = some h →
              TurnEnded s t h .inhibit .none ∧ t.floor.state = .idle)
          ∧ (s.floor.state = .ident ∨ s.floor.state = .resting →
              t.floor.state = .idle ∧ t.ident.pending = s.ident.pending)
          ∧ (s.floor.state = .idle ∨ s.floor.state = .panelHeld ∨ s.floor.state = .shut →
              t.floor = s.floor))
    ∧ (s.pins.txInhibit = true →
      Gives (exec .txInhibitDeasserted s) fun t =>
        t.pins = { s.pins with txInhibit := false }
          ∧ (s.floor.state ≠ .idle → t.floor = s.floor ∧ t.queue = s.queue)
          ∧ (s.floor.state = .idle → s.mode = .configuring → t.floor = s.floor ∧ t.queue = s.queue)
          ∧ (s.floor.state = .idle → s.mode = .serving → s.ident.pending = true →
              IdentEntered s t ∧ t.queue = s.queue)
          ∧ (s.floor.state = .idle → s.mode = .serving → s.ident.pending = false →
            ∀ refused rest, s.queue = refused ++ rest →
            (∀ x ∈ refused, ∃ r, computeGrant (grantInputs s x.member) x.req = .refusal r) →
            (rest = [] → t.floor = s.floor ∧ t.queue = [])
            ∧ (∀ e more fig h, rest = e :: more →
              computeGrant (grantInputs s e.member) e.req = .short fig h →
              t.floor.state = .resting ∧ t.queue = rest)
            ∧ (∀ e more fig h g, rest = e :: more →
              computeGrant (grantInputs s e.member) e.req = .grant fig h g → ¬ TuneFaults s g →
              GrantTaken (s.withPins { s.pins with txInhibit := false }) t g
                ∧ t.floor.holder = some ⟨e.seat, e.member⟩ ∧ t.floor.grant = some g
                ∧ t.queue = more
                ∧ ∀ x ∈ refused, ∀ r, computeGrant (grantInputs s x.member) x.req = .refusal r →
                  Noticed s t x.seat (.ended .refusedAtGrant (.refusal r) false x.member 0))))
    ∧ (s.pins.ampFault = false → s.keying.state ≠ .unkeyed →
      s.bus.believed.amp = some .operate →
      Gives (exec .ampFaultAsserted s) fun t =>
        t.pins.ampFault = true ∧ t.keying.state = .unkeyed ∧ t.keying.ampInService = false
          ∧ (∀ h : Holder, s.floor.holder = some h → s.floor.state = .onAir →
              EndedToIdle s t h .equipment (.equipment .ampFault)))
    ∧ (Settled s → s.keying.state = .unkeyed ∨ s.bus.believed.amp ≠ some .operate →
      exec .ampFaultAsserted s = .next (s.withPins { s.pins with ampFault := true }))
    ∧ exec .ampFaultDeasserted s = .next (s.withPins { s.pins with ampFault := false })

/-- R138 to R140: the poll timer's expiry places one STATUS query; a successful poll with a fault byte puts
the amplifier out of service, one with too high an SWR ends an ON_AIR turn by REFLECTION; a failure raises the
failure count, and the third in a row ends the turn by NO_STATUS. The poll timer's command is the moment of
its expiry, whatever time it still holds (log 2), NO_STATUS as a command of its own acts at a failure count of
2 (log 9), an attempt has one of three ends (log 14), and an end between two attempts is the end of the next
(log 15): the model's choices. A turn's end leaves no setup item on the work list, not even of a next turn:
the model's choice (log 44). -/
def Obligations.AmplifierIsPolled : Prop :=
  ∀ s : State, Running s → FloorLaw s →
    (Settled s → s.keying.poll.isSome = true → pollOutstanding s = false →
      Gives (exec .pollTimerExpiry s) fun t =>
        t.bus = { s.bus with pollWork := some ⟨.status, .poll, 0, 0, 0⟩ }
          ∧ t.keying.poll = some 1000 ∧ t.floor = s.floor)
    ∧ (∀ h : Holder, 2 ≤ s.keying.failures → s.floor.state = .onAir → s.floor.holder = some h →
      Gives (exec .noStatus s) fun t =>
        EndedToIdle s t h .equipment (.equipment .noStatus) ∧ t.keying.failures = 0)
    ∧ (∀ (h : Holder) (x : Txn) (fault swr check : Byte), s.bus.engine = .sending →
      s.bus.inFlight = some x → x.owner = .poll → x.message = .status →
      x.address ≠ s.station.ownAddress →
      checkByteOf [addressByteOf x.address true, 3, 6, fault, swr] = check →
      s.floor.state = .onAir → s.floor.holder = some h →
      Gives (exec (.busAttemptEnd (.acknowledged [6, fault, swr] check)) s) fun t =>
        t.bus.inFlight = none ∧ t.keying.failures = 0
          ∧ (fault ≠ 0 → t.keying.ampInService = false
              ∧ EndedToIdle s t h .equipment (.equipment .ampFault))
          ∧ (fault = 0 → s.station.swrLimit < swr.toNat →
              EndedToIdle s t h .equipment (.equipment .reflection))
          ∧ (fault = 0 → swr.toNat ≤ s.station.swrLimit →
              t.floor = s.floor ∧ t.keying.state = s.keying.state))
    ∧ (∀ (h : Holder) (x : Txn), s.bus.engine = .sending → s.bus.inFlight = some x →
      x.owner = .poll → x.message = .status → 3 ≤ x.attempts → s.floor.state = .onAir →
      s.floor.holder = some h →
      Gives (exec (.busAttemptEnd .noAcknowledge) s) fun t =>
        t.bus.inFlight = none
          ∧ (s.keying.failures < 2 → t.floor = s.floor
              ∧ (Settled s → t.keying.failures = s.keying.failures + 1))
          ∧ (2 ≤ s.keying.failures →
              EndedToIdle s t h .equipment (.equipment .noStatus) ∧ t.keying.failures = 0))

/-! ### The station bus -/

/-- R151, R154: with the engine FREE the next attempt of the transaction in flight opens; else the first
transaction of the highest section, whose address is read now: the floor's, then the poll, then the
pass-through cells', of which a command to the station's devices waits while the floor has a turn or an
identification. That the command opens a further attempt too, and that an attempt is known by its three
ends, are the model's choices (log 15, log 14). -/
def Obligations.WorkListIsTakenInOrder : Prop :=
  ∀ (s : State) (x : Txn) (more : List Txn), Running s → s.bus.engine = .free →
    (s.bus.inFlight = some x →
      Gives (exec .busTransactionStart s) fun t =>
        t.bus.engine = .sending ∧ t.bus.attemptOpen = true ∧ t.bus.inFlight = some x
          ∧ t.bus.floorWork = s.bus.floorWork ∧ t.bus.cellWork = s.bus.cellWork)
    ∧ (s.bus.inFlight = none → s.bus.floorWork = x :: more →
      Gives (exec .busTransactionStart s) fun t =>
        t.bus.engine = .sending ∧ t.bus.attemptOpen = true
          ∧ t.bus.inFlight = some { x with address := x.message.address s.station }
          ∧ t.bus.floorWork = more ∧ t.bus.cellWork = s.bus.cellWork)
    ∧ (s.bus.inFlight = none → s.bus.floorWork = [] → s.bus.pollWork = some x →
      Gives (exec .busTransactionStart s) fun t =>
        t.bus.inFlight = some { x with address := x.message.address s.station }
          ∧ t.bus.engine = .sending ∧ t.bus.pollWork = none ∧ t.bus.cellWork = s.bus.cellWork)
    ∧ (s.bus.inFlight = none → s.bus.floorWork = [] → s.bus.pollWork = none →
      s.bus.cellWork = x :: more →
      Gives (exec .busTransactionStart s) fun t =>
        if s.floor.state.holdsCells = true ∧ reachesStation s.station x.message = true then
          t.bus.inFlight = none ∧ t.bus.cellWork = s.bus.cellWork ∧ t.bus.engine = .free
        else
          t.bus.inFlight = some { x with address := x.message.address s.station }
            ∧ t.bus.engine = .sending ∧ t.bus.attemptOpen = true ∧ t.bus.cellWork = more)

/-- R49, R145, R152, R153, R155: how an attempt ends. An acknowledged command is DONE and what it set is
believed, by the rows of R155; the last setup item of a turn completes its setup. A fourth refusal is NO_ACK
and a sixteenth loss LOST, and what it would have set is unknown; a setup item's ends the turn SETUP_FAILED,
with the item as the detail. Arbitration is lost at the first byte that differs, to the lower in value: the
loss is counted and the part listens or follows; otherwise the attempt goes on. A wrong reply is of the class
of a refusal. An attempt has one of three ends (log 14) and an end between two attempts is the end of the next
(log 15): the model's choices. That the own address is compared at the attempt's end (log 40), and that what a
pass-through command makes unknown is judged by its address at the outcome (log 32), are read by inference.
That a reply of another length than asked for is a failed attempt too is the model's choice (log 28). R150: a
STATE query that the part loses to is answered with the floor as the loss has left it. A turn's end leaves no
setup item on the work list, not even of a next turn: the model's choice (log 44). -/
def Obligations.AttemptEndsByItsClass : Prop :=
  ∀ (s : State) (x : Txn), Running s → s.bus.engine = .sending → s.bus.inFlight = some x →
    (∀ (reply : List Byte) (check : Byte), x.message.isQuery = false →
      x.address ≠ s.station.ownAddress →
      Gives (exec (.busAttemptEnd (.acknowledged reply check)) s) fun t =>
        t.bus.inFlight = none ∧ t.bus.attemptOpen = false
          ∧ (∀ p, x.message = .select p → t.bus.believed = { s.bus.believed with port := some p })
          ∧ (∀ f m, x.message = .setFreq f m →
              t.bus.believed = { s.bus.believed with freq := some f, mode := some m })
          ∧ (∀ w, x.message = .setDrive w →
              t.bus.believed = { s.bus.believed with drive := some w })
          ∧ (x.message = .operate → t.bus.believed = { s.bus.believed with amp := some .operate })
          ∧ (x.message = .standby → t.bus.believed = { s.bus.believed with amp := some .standby })
          ∧ (∀ g : Grant, x.owner = .setup → s.floor.state = .setting → s.floor.grant = some g →
              g.mode ≠ .tune →
              if ∀ y ∈ s.bus.floorWork, y.owner ≠ .setup then
                t.floor.state = .granted
                  ∧ t.floor.startWait = some (s.station.startWait * 1000)
              else t.floor = s.floor)
          ∧ (∀ n a len data, x.owner = .cell n → x.message = .cell false a len data →
              partHeld t (.bus n) = false ∧ cellBytes t (.bus n) 36 2 = [0, 0]
                ∧ t.port.summary.getLsbD 12 = true
                ∧ (a = s.station.ampAddress ∨ a = 0 → t.bus.believed.amp = none)))
    ∧ (∀ (reply : List Byte) (check : Byte),
      (x.address = s.station.ownAddress
        ∨ x.message.isQuery = true ∧ x.replyRight reply check = false) →
      exec (.busAttemptEnd (.acknowledged reply check)) s
        = exec (.busAttemptEnd .noAcknowledge) s)
    ∧ (x.attempts < 3 →
      Gives (exec (.busAttemptEnd .noAcknowledge) s) fun t =>
        t.bus.inFlight = some { x with attempts := x.attempts + 1 }
          ∧ t.bus.attemptOpen = false ∧ t.bus.believed = s.bus.believed ∧ t.floor = s.floor)
    ∧ (3 ≤ x.attempts →
      Gives (exec (.busAttemptEnd .noAcknowledge) s) fun t =>
        t.bus.inFlight = none ∧ t.bus.attemptOpen = false
          ∧ (∀ p, x.message = .select p → t.bus.believed = { s.bus.believed with port := none })
          ∧ (∀ f m, x.message = .setFreq f m →
              t.bus.believed = { s.bus.believed with freq := none, mode := none })
          ∧ (∀ w, x.message = .setDrive w → t.bus.believed = { s.bus.believed with drive := none })
          ∧ (x.message = .operate ∨ x.message = .standby →
              t.bus.believed = { s.bus.believed with amp := none })
          ∧ (∀ item h, IsItem x.message item → x.owner = .setup → s.floor.state = .setting →
              s.floor.holder = some h → FloorLaw s → SetupFailed s t h item))
    ∧ (∀ (alike ours others : List Byte) (mine theirs : Byte),
      x.sentBytes = alike ++ mine :: ours →
      (theirs.toNat < mine.toNat →
        Gives (exec (.busAttemptEnd (.lost (alike ++ theirs :: others))) s) fun t =>
          t.bus.attemptOpen = false
            ∧ t.bus.engine =
                (if (alike ++ [theirs]).head?.any (accepts s.station) = true then .following
                  else .listening)
            ∧ ((alike ++ [theirs]).head? = some (addressByteOf s.station.ownAddress true) →
                t.bus.followed = some ⟨addressByteOf s.station.ownAddress true,
                  [0x14, byteOf t.floor.state.code,
                    (t.floor.holder.map fun (h : Holder) => byteOf h.member.val).getD 0xFF,
                    if t.floor.state = FloorState.panelHeld then 1 else 0,
                    if t.floor.state = FloorState.shut then 1 else 0]⟩)
            ∧ (x.losses < 15 →
                t.bus.inFlight = some { x with losses := x.losses + 1 }
                  ∧ t.bus.believed = s.bus.believed ∧ t.floor = s.floor)
            ∧ (15 ≤ x.losses → t.bus.inFlight = none
                ∧ (∀ w, x.message = .setDrive w →
                    t.bus.believed = { s.bus.believed with drive := none })
                ∧ (∀ item h, IsItem x.message item → x.owner = .setup → s.floor.state = .setting →
                    s.floor.holder = some h → FloorLaw s → SetupFailed s t h item)
                ∧ (∀ n, x.owner = .cell n →
                    partHeld t (.bus n) = false ∧ cellBytes t (.bus n) 36 2 = [2, 0])))
      ∧ (Settled s → mine.toNat < theirs.toNat →
        exec (.busAttemptEnd (.lost (alike ++ theirs :: others))) s = .next s)
      ∧ (Settled s → exec (.busAttemptEnd (.lost alike)) s = .next s))

/-- R146 to R149, R174, R181: the engine's moves, and what the part acknowledges of another master's command
frame. The quiet after a closing frees the engine, another master's opening makes it listen, an address byte
it accepts makes it follow, with SBC held while the inbound buffer is occupied; an open frame is finished
under the address it was taken on, one that the part listens to is not taken on later, and a new one is judged
by the present; a frame's length, check byte and kind are judged and a panel message it takes fills the
buffer; a stuck bus makes it recover with the transaction in flight failed; the recovery clocks SBD until it
is let go, with 1 to 9 pulses, and frees the engine; and a hold that runs out abandons the frame. What an
opening carries is read by inference (log 17). The model's choices are: what a stuck bus carries (log 18), the
moves of the lines within a pulse and the closing are left out (log 14), BUS_FREE is the quiet's end (log 15),
a command frame is one event, from its opening to its closing (log 16), and a frame taken up after a loss
behind its address byte is held for 10 ms while the buffer is occupied, its address byte counted as
acknowledged (log 42). A turn's end leaves no setup item on the work list, not even of a next turn: the
model's choice (log 44). -/
def Obligations.EngineFollowsTheBus : Prop :=
  ∀ s : State, Running s →
    (s.bus.engine ≠ .recovering → s.bus.attemptOpen = false →
      Gives (exec .busFree s) (fun t =>
        t.bus.engine = .free ∧ t.bus.inFlight = s.bus.inFlight ∧ t.bus.hold = none
          ∧ t.bus.inbound = s.bus.inbound)
      ∧ Gives (exec (.foreignOpening .opening) s) (fun t =>
        t.bus.engine = .listening ∧ t.bus.inFlight = s.bus.inFlight ∧ t.bus.hold = none
          ∧ t.bus.inbound = s.bus.inbound)
      ∧ (∀ b : Byte, Gives (exec (.foreignOpening (.address b)) s) fun t =>
        t.bus.inFlight = s.bus.inFlight ∧ t.bus.inbound = s.bus.inbound ∧ t.bus.closed = false
          ∧ if b = addressByteOf s.station.ownAddress false
                ∨ b = addressByteOf s.station.ownAddress true ∨ b = 0 then
              t.bus.engine = .following ∧ t.bus.acked = 1
                ∧ t.bus.followed.map FollowedFrame.address = some b
                ∧ t.bus.hold =
                    (if b.getLsbD 0 = false ∧ s.bus.inbound.isSome = true then some 10 else none)
            else t.bus.engine = .listening ∧ t.bus.acked = 0 ∧ t.bus.hold = none
              ∧ t.bus.followed = none ∧ t.bus.unfollowed = some b)
      ∧ (∀ f : CommandFrame, f.address.getLsbD 0 = false →
        (Followed s f.address → s.bus.inbound = none →
          Gives (exec (.foreignOpening (.command f)) s) fun t =>
            t.bus.inFlight = s.bus.inFlight ∧ t.bus.engine = .following ∧ t.bus.hold = none
              ∧ t.bus.closed = true ∧ t.bus.followed = none
              ∧ (32 < f.length.toNat → t.bus.acked = 1)
              ∧ (f.address ≠ 0 → f.length.toNat ≤ 32 →
                  (∀ (m : PanelMessage) (kind : Byte),
                    (m, kind) ∈ [(PanelMessage.take, 0x10#8), (.give, 0x11#8),
                      (.halt, 0x12#8), (.resume, 0x13#8)] →
                    f.length = 1 → f.data = [kind] →
                    f.address + f.length + kind + f.check = 0 →
                    t.bus.acked = 4 ∧ t.bus.inbound = some m)
                  ∧ ((¬ ∃ kind ∈ [0x10#8, 0x11#8, 0x12#8, 0x13#8],
                      f.length = 1 ∧ f.data = [kind]
                        ∧ f.address + f.length + kind + f.check = 0) →
                    t.bus.acked = f.data.length + 2 ∧ t.bus.inbound = none))
              ∧ (f.address = 0 →
                  (f.length.toNat ≤ 32 →
                      t.bus.acked =
                        (if f.length + f.data.foldl (· + ·) 0 + f.check = 0
                          then f.data.length + 3 else f.data.length + 2))
                    ∧ t.bus.inbound =
                        (if f.length = 1 ∧ f.data = [0x12] ∧ f.check = 0xED then some .halt
                          else none)))
        ∧ (¬ Followed s f.address →
          Gives (exec (.foreignOpening (.command f)) s) fun t =>
            t.bus.engine = .listening ∧ t.bus.closed = true ∧ t.bus.hold = none
              ∧ t.bus.followed = none ∧ t.bus.unfollowed = none
              ∧ t.bus.acked = (if s.bus.unfollowed = some f.address then s.bus.acked else 0)
              ∧ t.bus.inbound = s.bus.inbound ∧ t.bus.inFlight = s.bus.inFlight)
        ∧ (∀ m : PanelMessage, Followed s f.address → s.bus.inbound = some m →
          Gives (exec (.foreignOpening (.command f)) s) fun t =>
            t.bus.engine = .following ∧ t.bus.acked = 1
              ∧ t.bus.followed.map FollowedFrame.address = some f.address
              ∧ t.bus.inbound = some m ∧ t.bus.inFlight = s.bus.inFlight
              ∧ t.bus.hold =
                  (if s.bus.followed.map FollowedFrame.address = some f.address then
                    some (s.bus.hold.getD 10) else some 10))))
    ∧ (∀ lines : StuckLines, s.bus.engine ≠ .recovering →
      Gives (exec (.busStuck lines) s) fun t =>
        t.bus.engine = .recovering ∧ t.bus.attemptOpen = false ∧ t.bus.sbcLow = lines.sbcLow
          ∧ t.bus.sbdPulses = lines.sbdPulses ∧ t.bus.pulses = 0
          ∧ t.bus.inbound = s.bus.inbound ∧ t.bus.followed = none ∧ t.bus.inFlight = none
          ∧ (∀ x item h, s.bus.inFlight = some x → IsItem x.message item → x.owner = .setup →
              s.floor.state = .setting → s.floor.holder = some h → FloorLaw s →
              SetupFailed s t h item))
    ∧ (s.bus.engine = .recovering →
      Gives (exec .busRecovery s) fun t =>
        t.bus.engine = .free ∧ t.bus.sbcLow = false ∧ t.bus.inbound = s.bus.inbound
          ∧ (s.bus.sbdPulses ≤ 1 → t.bus.pulses = 1 ∧ t.bus.sbdPulses = 0)
          ∧ (1 < s.bus.sbdPulses → s.bus.sbdPulses ≤ 9 →
              t.bus.pulses = s.bus.sbdPulses ∧ t.bus.sbdPulses = 0)
          ∧ (9 < s.bus.sbdPulses →
              t.bus.pulses = 9 ∧ t.bus.sbdPulses = s.bus.sbdPulses - 9)
          ∧ ∀ p : Part, p ≠ .engine → Kept s t p)
    ∧ (s.bus.engine = .following → s.bus.hold.isSome = true →
      Gives (exec .inboundHoldTimeout s) fun t =>
        t.bus.engine = .listening ∧ t.bus.hold = none ∧ t.bus.inbound = s.bus.inbound
          ∧ t.bus.followed = none
          ∧ t.bus.unfollowed = s.bus.followed.map FollowedFrame.address)
    ∧ (Settled s → s.bus.hold = none → exec .inboundHoldTimeout s = .next s)
    ∧ (∀ (x : Txn) (more : List Txn) (n : BusCellNo), s.bus.engine = .recovering →
      s.bus.sbcLow = true → s.bus.inFlight = none → s.bus.floorWork = [] →
      s.bus.pollWork = none → s.bus.cellWork = x :: more → x.owner = .cell n →
      cellHeld s x.message = false →
      Gives (exec .busTransactionStart s) fun t =>
        t.bus.cellWork = more ∧ t.bus.engine = .recovering ∧ partHeld t (.bus n) = false
          ∧ cellBytes t (.bus n) 36 2 = [3, 0])

/-! ### The panel -/

/-- R66: TAKE gives the station to the panel, ending a turn LOCAL with the queue kept and no STANDBY
placed; in LOCAL and SHUT it changes nothing on the floor. R68: HALT stops the station in every state: the
turn and the queue end SHUT, the ID window closes, and the floor is SHUT. R148, R149: a message acts when it
waits in the inbound buffer or when its frame finds the buffer empty, and leaves the buffer empty; while
another message occupies the buffer the frame is held at its address byte and nothing on the floor changes.
That a frame fills and leaves the buffer in one act is the model's choice (log 16); the keyed time of 0 in a
queued entry's END notice is read by inference (log 30). -/
def Obligations.PanelTakesAndHalts : Prop :=
  (∀ s : State, Running s → FloorLaw s →
    (Arrives .take s →
      (s.floor.state ≠ .panelHeld → s.floor.state ≠ .shut →
        Gives (exec .take s) fun t =>
          t.floor.state = .panelHeld ∧ t.floor.holder = none ∧ t.keying.state = .unkeyed
            ∧ t.queue = s.queue ∧ t.ident.pending = s.ident.pending ∧ t.bus.inbound = none
            ∧ (∀ h : Holder, s.floor.holder = some h → TurnEnded s t h .panelHeld .none)
            ∧ t.bus.floorWork = s.bus.floorWork.filter
                (fun x => x.owner != .setup || s.floor.holder.isNone)
            ∧ (∀ x : SeatNo, s.seats[x].attachment.isSome = true →
                Noticed s t x (.panel true false)))
      ∧ (s.floor.state = .panelHeld ∨ s.floor.state = .shut →
        Gives (exec .take s) fun t =>
          t.floor = s.floor ∧ t.queue = s.queue ∧ t.keying.state = s.keying.state
            ∧ t.bus.inbound = none))
    ∧ (Arrives .halt s →
      Gives (exec .halt s) fun t =>
        t.floor.state = .shut ∧ t.floor.holder = none ∧ t.keying.state = .unkeyed
          ∧ t.queue = [] ∧ t.ident.window = false ∧ t.ident.pending = false
          ∧ t.ident.periodic = none ∧ t.ident.grace = none ∧ t.bus.inbound = none
          ∧ (∀ h : Holder, s.floor.holder = some h → TurnEnded s t h .shut .none)
          ∧ (∀ e ∈ s.queue, Noticed s t e.seat (.ended .shut .none false e.member 0))
          ∧ (s.floor.state ≠ .shut → ∀ x : SeatNo, s.seats[x].attachment.isSome = true →
              Noticed s t x (.panel false true))))
  ∧ ∀ (c : Instr) (m other : PanelMessage) (s : State), Running s →
    (c, m) ∈ [(Instr.take, PanelMessage.take), (.give, .give), (.halt, .halt),
      (.resume, .resume)] →
    s.bus.inbound = some other → other ≠ m →
    (s.bus.unfollowed ≠ some (panelFrame m s).address →
      exec c s = exec (.foreignOpening (.command (panelFrame m s))) s)
    ∧ (s.bus.engine ≠ .recovering → s.bus.attemptOpen = false → s.bus.hold = none →
      Gives (exec c s) fun t =>
        t.bus.inbound = some other ∧ t.bus.engine = .following ∧ t.bus.hold = some 10
          ∧ t.bus.acked = 1 ∧ ∀ p : Part, p ≠ .engine → Kept s t p)

/-- R67: GIVE in LOCAL and RESUME in SHUT bring the floor to IDLE, whose serving point sends a pending ID
first and then considers the entries from the head on, past those whose grant is now refused; it does neither
while CONFIGURING or with TX_INHIBIT asserted. In any other state each is ignored. That the message acts in
every state of the bus engine, in one act with its frame, is the model's choice (log 16); the keyed time of 0
in a queued entry's END notice is read by inference (log 30). R49, R70: a grant with an empty setup list
leaves SETTING within the act. That the items of a setup are placed in an act of their own, so that none
stands on the work list yet, is the model's choice (log 44). -/
def Obligations.PanelGivesAndResumes : Prop :=
  ∀ (c : Instr) (m : PanelMessage) (held : FloorState) (s : State),
    Running s → FloorLaw s →
    (c, m, held) ∈ [(Instr.give, PanelMessage.give, FloorState.panelHeld),
      (.resume, .resume, .shut)] → Arrives m s →
    (s.floor.state ≠ held →
      Gives (exec c s) fun t => ∀ p : Part, p ≠ .engine → Kept s t p)
    ∧ (s.floor.state = held →
      (s.mode = .configuring ∨ s.pins.txInhibit = true →
        Gives (exec c s) fun t =>
          t.floor.state = .idle ∧ t.queue = s.queue ∧ t.ident.pending = s.ident.pending)
      ∧ (s.queue = [] → s.ident.pending = false →
        Gives (exec c s) fun t => t.floor.state = .idle ∧ t.queue = [])
      ∧ (s.mode = .serving → s.pins.txInhibit = false → s.ident.pending = true →
        Gives (exec c s) fun t => IdentEntered s t ∧ t.queue = s.queue)
      ∧ (∀ refused rest, s.queue = refused ++ rest → s.mode = .serving → s.pins.txInhibit = false →
        s.ident.pending = false →
        (∀ x ∈ refused, ∃ r, computeGrant (grantInputs s x.member) x.req = .refusal r) →
        (∀ e more fig h g, rest = e :: more →
          computeGrant (grantInputs s e.member) e.req = .grant fig h g → ¬ TuneFaults s g →
          Gives (exec c s) fun t =>
            GrantTaken s t g ∧ t.floor.holder = some ⟨e.seat, e.member⟩
              ∧ t.floor.grant = some g ∧ t.queue = more
              ∧ ∀ x ∈ refused, ∀ r, computeGrant (grantInputs s x.member) x.req = .refusal r →
                Noticed s t x.seat (.ended .refusedAtGrant (.refusal r) false x.member 0))
        ∧ (∀ e more fig h, rest = e :: more →
          computeGrant (grantInputs s e.member) e.req = .short fig h →
          Gives (exec c s) fun t => t.floor.state = .resting ∧ t.queue = rest)
        ∧ (rest = [] →
          Gives (exec c s) fun t => t.floor.state = .idle ∧ t.queue = [])))

/-- R143, R150: the STATE reply: its kind, the floor state, the holder's member or FFh, LOCAL and SHUT as
flags, zeros behind and the check byte that makes the frame's sum 0. It is formed when the query's address
byte is acknowledged, and nothing that happens after changes it. A data byte that the master leaves
unacknowledged is the last one sent; a length above 32 is not acknowledged, and nothing is sent. R181: the
address is that of the open query being followed, else the part's own. The query changes nothing else. The
reply bytes stand in a field of the part (log 38, read by inference); that every state of the engine
answers, and a query given with no open one as a whole, is the model's choice (log 16). -/
def Obligations.StateQueryReportsTheFloor : Prop :=
  ∀ (s : State) (length address : Byte) (own formed data : List Byte), Running s →
    own = [0x14, byteOf s.floor.state.code,
        (s.floor.holder.map fun (h : Holder) => byteOf h.member.val).getD 0xFF,
        if s.floor.state = FloorState.panelHeld then 1 else 0,
        if s.floor.state = FloorState.shut then 1 else 0] →
    (s.bus.engine ≠ .recovering → s.bus.attemptOpen = false →
      Gives (exec (.foreignOpening (.address (addressByteOf s.station.ownAddress true))) s) fun t =>
        t.bus.followed = some ⟨addressByteOf s.station.ownAddress true, own⟩
          ∧ ∀ p : Part, p ≠ .engine → Kept s t p)
    ∧ (s.bus.followed = none ∧ address = addressByteOf s.station.ownAddress true ∧ formed = own
        ∨ s.bus.followed = some ⟨address, formed⟩ ∧ address.getLsbD 0 = true →
      data = (formed ++ List.replicate 32 0).take length.toNat →
      (length.toNat ≤ 32 →
        Gives (exec (.stateQuery ⟨length, none⟩) s) (fun t =>
          (∃ check : Byte, t.bus.reply = data ++ [check]
            ∧ address + length + data.foldl (· + ·) 0 + check = 0)
            ∧ ∀ p : Part, p ≠ .engine → Kept s t p)
        ∧ ∀ i : Nat, i < length.toNat →
          Gives (exec (.stateQuery ⟨length, some i⟩) s) fun t =>
            t.bus.reply = data.take (i + 1) ∧ ∀ p : Part, p ≠ .engine → Kept s t p)
      ∧ (32 < length.toNat → ∀ refused : Option Nat,
        Gives (exec (.stateQuery ⟨length, refused⟩) s) fun t =>
          t.bus.reply = [] ∧ ∀ p : Part, p ≠ .engine → Kept s t p))

/-! ### Frames -/

/-- No command changes a part of the state that is not among those it may touch. R70, R128, R135, R155, R169,
R170, R177: a command that changes anything the floor board shows rewrites the board, once: the update
count rises by 1, the stamp and the running figures are written and SUMMARY bit 13 is set; with no rewrite
the board and the update count stay. R70: a change of floor state is noticed to every seat that stays
ATTACHED. That an act of several changes makes one rewrite, and that the running figures and the stamp of
a rewrite are those at the close of the act, are read by inference (log 6, log 35). -/
def Obligations.CommandsTouchOnlyTheirParts : Prop :=
  (∀ (c : Instr) (s t : State) (p : Part), exec c s = .next t → p ∉ touches c → Kept s t p)
  ∧ ∀ (c : Instr) (s t : State), Running s → FloorLaw s → s.page.boardDue = false →
    restartCommand c = false → exec c s = .next t →
    ((floorBoard t = floorBoard s ∧ t.page.updateCount = s.page.updateCount
        ∨ t.page.updateCount = s.page.updateCount + 1 ∧ t.page.stamp = s.stamp
            ∧ t.page.keyDownRemaining = keyDownRemaining t ∧ t.page.idSeconds = idSeconds t
            ∧ t.port.summary.getLsbD 13 = true)
      ∧ (t.floor.state ≠ s.floor.state → ∀ x : SeatNo, s.seats[x].attachment.isSome = true →
          t.seats[x].attachment.isSome = true →
          Noticed s t x (.floor t.floor.state (holderSeat t))))

/-- Every byte of memory stays as it was but those the part itself writes (report cells, hand-over bytes of
order cells, results and hand-over bytes of bus cells) and the hand-over byte of the cell the command hands
over. Power-on, the restarts and the host's own writes have statements of their own. Which bytes of a bus
cell an outcome writes is read by inference (log 37). -/
def Obligations.MemoryChangesOnlyWhereThePartWrites : Prop :=
  ∀ (c : Instr) (s t : State) (a : Nat), restartCommand c = false → exec c s = .next t →
    ¬ partWrites a → (∀ cell, handedCell c = some cell → a ≠ cell.handoverAddress) →
    Memory.read t.ram a = Memory.read s.ram a

/-! ### Laws that every step keeps -/

/-- The exchange memory keeps its canonical form. -/
def Obligations.EveryStepKeepsMemoryCanonical : Prop :=
  ∀ s t : State, Memory.wf s.ram = true → step s = .next t → Memory.wf t.ram = true

/-- R130: PTT_OUT is asserted only in ON_AIR or IDENT, while SERVING, with TX_INHIBIT deasserted. -/
def Obligations.EveryStepKeepsTheKeyingLaw : Prop :=
  ∀ s t : State, KeyingLaw s → step s = .next t → KeyingLaw t

/-- R37, R38: the laws of the holder and of the queue. -/
def Obligations.EveryStepKeepsTheFloorLaw : Prop :=
  ∀ s t : State, FloorLaw s → step s = .next t → FloorLaw t

/-- R68, R113, R114, R119: the laws of the identification record, and of SHUT. -/
def Obligations.EveryStepKeepsTheIdentificationLaw : Prop :=
  ∀ s t : State, KeyingLaw s → IdentLaw s → step s = .next t → IdentLaw t

/-- R71, R86, R87: the laws of the playout queue and of the heat level. -/
def Obligations.EveryStepKeepsThePlayoutAndHeatLaws : Prop :=
  ∀ s t : State, step s = .next t →
    (PlayoutLaw s → PlayoutLaw t) ∧ (HeatLaw s → HeatLaw t)

/-- R4, R8: seats and members are attached to each other, and an attached member is ACTIVE. R166: a seat's
pending set holds at most one notice of each kind. -/
def Obligations.EveryStepKeepsTheSeatAndNoticeLaws : Prop :=
  (∀ s t : State, SeatLaw s → step s = .next t → SeatLaw t)
  ∧ (∀ s t : State, NoticeLaw s → step s = .next t → NoticeLaw t)

/-- R164: each seat has at most one order held by the part, and its order cell is part-held exactly
then. -/
def Obligations.EveryStepKeepsTheOrderLaw : Prop :=
  ∀ s t : State, OrderLaw s → step s = .next t → OrderLaw t

/-- R138, R151, R152: the laws of the work list and of the bus engine. -/
def Obligations.EveryStepKeepsTheBusLaw : Prop :=
  ∀ s t : State, BusLaw s → step s = .next t → BusLaw t

/-- R95, R116, R138, R167: what holds at the close of every act. -/
def Obligations.EveryStepKeepsTheSettledLaw : Prop :=
  ∀ s t : State, Settled s → step s = .next t → Settled t
end

