-- ==== Sys2Proof/Laws/State.lean ====
section
/-! SUPPORT. One lemma for each field of State and each update: what the update writes, and that it
leaves every other field as it was. -/

namespace Sys2Proof.Machine

@[simp] theorem withPending_pending (s : State) (x : List Instr) : (s.withPending x).pending = x := rfl
@[simp] theorem withPending_free (s : State) (x : List Instr) : (s.withPending x).free = s.free := rfl
@[simp] theorem withPending_pins (s : State) (x : List Instr) : (s.withPending x).pins = s.pins := rfl
@[simp] theorem withPending_stamp (s : State) (x : List Instr) : (s.withPending x).stamp = s.stamp := rfl
@[simp] theorem withPending_mode (s : State) (x : List Instr) : (s.withPending x).mode = s.mode := rfl
@[simp] theorem withPending_members (s : State) (x : List Instr) : (s.withPending x).members = s.members := rfl
@[simp] theorem withPending_seats (s : State) (x : List Instr) : (s.withPending x).seats = s.seats := rfl
@[simp] theorem withPending_plan (s : State) (x : List Instr) : (s.withPending x).plan = s.plan := rfl
@[simp] theorem withPending_station (s : State) (x : List Instr) : (s.withPending x).station = s.station := rfl
@[simp] theorem withPending_floor (s : State) (x : List Instr) : (s.withPending x).floor = s.floor := rfl
@[simp] theorem withPending_queue (s : State) (x : List Instr) : (s.withPending x).queue = s.queue := rfl
@[simp] theorem withPending_duty (s : State) (x : List Instr) : (s.withPending x).duty = s.duty := rfl
@[simp] theorem withPending_playout (s : State) (x : List Instr) : (s.withPending x).playout = s.playout := rfl
@[simp] theorem withPending_source (s : State) (x : List Instr) : (s.withPending x).source = s.source := rfl
@[simp] theorem withPending_watch (s : State) (x : List Instr) : (s.withPending x).watch = s.watch := rfl
@[simp] theorem withPending_ident (s : State) (x : List Instr) : (s.withPending x).ident = s.ident := rfl
@[simp] theorem withPending_tone (s : State) (x : List Instr) : (s.withPending x).tone = s.tone := rfl
@[simp] theorem withPending_keying (s : State) (x : List Instr) : (s.withPending x).keying = s.keying := rfl
@[simp] theorem withPending_bus (s : State) (x : List Instr) : (s.withPending x).bus = s.bus := rfl
@[simp] theorem withPending_handovers (s : State) (x : List Instr) : (s.withPending x).handovers = s.handovers := rfl
@[simp] theorem withPending_ram (s : State) (x : List Instr) : (s.withPending x).ram = s.ram := rfl
@[simp] theorem withPending_port (s : State) (x : List Instr) : (s.withPending x).port = s.port := rfl
@[simp] theorem withPending_page (s : State) (x : List Instr) : (s.withPending x).page = s.page := rfl

@[simp] theorem withFree_pending (s : State) (x : Nat) : (s.withFree x).pending = s.pending := rfl
@[simp] theorem withFree_free (s : State) (x : Nat) : (s.withFree x).free = x := rfl
@[simp] theorem withFree_pins (s : State) (x : Nat) : (s.withFree x).pins = s.pins := rfl
@[simp] theorem withFree_stamp (s : State) (x : Nat) : (s.withFree x).stamp = s.stamp := rfl
@[simp] theorem withFree_mode (s : State) (x : Nat) : (s.withFree x).mode = s.mode := rfl
@[simp] theorem withFree_members (s : State) (x : Nat) : (s.withFree x).members = s.members := rfl
@[simp] theorem withFree_seats (s : State) (x : Nat) : (s.withFree x).seats = s.seats := rfl
@[simp] theorem withFree_plan (s : State) (x : Nat) : (s.withFree x).plan = s.plan := rfl
@[simp] theorem withFree_station (s : State) (x : Nat) : (s.withFree x).station = s.station := rfl
@[simp] theorem withFree_floor (s : State) (x : Nat) : (s.withFree x).floor = s.floor := rfl
@[simp] theorem withFree_queue (s : State) (x : Nat) : (s.withFree x).queue = s.queue := rfl
@[simp] theorem withFree_duty (s : State) (x : Nat) : (s.withFree x).duty = s.duty := rfl
@[simp] theorem withFree_playout (s : State) (x : Nat) : (s.withFree x).playout = s.playout := rfl
@[simp] theorem withFree_source (s : State) (x : Nat) : (s.withFree x).source = s.source := rfl
@[simp] theorem withFree_watch (s : State) (x : Nat) : (s.withFree x).watch = s.watch := rfl
@[simp] theorem withFree_ident (s : State) (x : Nat) : (s.withFree x).ident = s.ident := rfl
@[simp] theorem withFree_tone (s : State) (x : Nat) : (s.withFree x).tone = s.tone := rfl
@[simp] theorem withFree_keying (s : State) (x : Nat) : (s.withFree x).keying = s.keying := rfl
@[simp] theorem withFree_bus (s : State) (x : Nat) : (s.withFree x).bus = s.bus := rfl
@[simp] theorem withFree_handovers (s : State) (x : Nat) : (s.withFree x).handovers = s.handovers := rfl
@[simp] theorem withFree_ram (s : State) (x : Nat) : (s.withFree x).ram = s.ram := rfl
@[simp] theorem withFree_port (s : State) (x : Nat) : (s.withFree x).port = s.port := rfl
@[simp] theorem withFree_page (s : State) (x : Nat) : (s.withFree x).page = s.page := rfl

@[simp] theorem withPins_pending (s : State) (x : Pins) : (s.withPins x).pending = s.pending := rfl
@[simp] theorem withPins_free (s : State) (x : Pins) : (s.withPins x).free = s.free := rfl
@[simp] theorem withPins_pins (s : State) (x : Pins) : (s.withPins x).pins = x := rfl
@[simp] theorem withPins_stamp (s : State) (x : Pins) : (s.withPins x).stamp = s.stamp := rfl
@[simp] theorem withPins_mode (s : State) (x : Pins) : (s.withPins x).mode = s.mode := rfl
@[simp] theorem withPins_members (s : State) (x : Pins) : (s.withPins x).members = s.members := rfl
@[simp] theorem withPins_seats (s : State) (x : Pins) : (s.withPins x).seats = s.seats := rfl
@[simp] theorem withPins_plan (s : State) (x : Pins) : (s.withPins x).plan = s.plan := rfl
@[simp] theorem withPins_station (s : State) (x : Pins) : (s.withPins x).station = s.station := rfl
@[simp] theorem withPins_floor (s : State) (x : Pins) : (s.withPins x).floor = s.floor := rfl
@[simp] theorem withPins_queue (s : State) (x : Pins) : (s.withPins x).queue = s.queue := rfl
@[simp] theorem withPins_duty (s : State) (x : Pins) : (s.withPins x).duty = s.duty := rfl
@[simp] theorem withPins_playout (s : State) (x : Pins) : (s.withPins x).playout = s.playout := rfl
@[simp] theorem withPins_source (s : State) (x : Pins) : (s.withPins x).source = s.source := rfl
@[simp] theorem withPins_watch (s : State) (x : Pins) : (s.withPins x).watch = s.watch := rfl
@[simp] theorem withPins_ident (s : State) (x : Pins) : (s.withPins x).ident = s.ident := rfl
@[simp] theorem withPins_tone (s : State) (x : Pins) : (s.withPins x).tone = s.tone := rfl
@[simp] theorem withPins_keying (s : State) (x : Pins) : (s.withPins x).keying = s.keying := rfl
@[simp] theorem withPins_bus (s : State) (x : Pins) : (s.withPins x).bus = s.bus := rfl
@[simp] theorem withPins_handovers (s : State) (x : Pins) : (s.withPins x).handovers = s.handovers := rfl
@[simp] theorem withPins_ram (s : State) (x : Pins) : (s.withPins x).ram = s.ram := rfl
@[simp] theorem withPins_port (s : State) (x : Pins) : (s.withPins x).port = s.port := rfl
@[simp] theorem withPins_page (s : State) (x : Pins) : (s.withPins x).page = s.page := rfl

@[simp] theorem withStamp_pending (s : State) (x : BitVec 32) : (s.withStamp x).pending = s.pending := rfl
@[simp] theorem withStamp_free (s : State) (x : BitVec 32) : (s.withStamp x).free = s.free := rfl
@[simp] theorem withStamp_pins (s : State) (x : BitVec 32) : (s.withStamp x).pins = s.pins := rfl
@[simp] theorem withStamp_stamp (s : State) (x : BitVec 32) : (s.withStamp x).stamp = x := rfl
@[simp] theorem withStamp_mode (s : State) (x : BitVec 32) : (s.withStamp x).mode = s.mode := rfl
@[simp] theorem withStamp_members (s : State) (x : BitVec 32) : (s.withStamp x).members = s.members := rfl
@[simp] theorem withStamp_seats (s : State) (x : BitVec 32) : (s.withStamp x).seats = s.seats := rfl
@[simp] theorem withStamp_plan (s : State) (x : BitVec 32) : (s.withStamp x).plan = s.plan := rfl
@[simp] theorem withStamp_station (s : State) (x : BitVec 32) : (s.withStamp x).station = s.station := rfl
@[simp] theorem withStamp_floor (s : State) (x : BitVec 32) : (s.withStamp x).floor = s.floor := rfl
@[simp] theorem withStamp_queue (s : State) (x : BitVec 32) : (s.withStamp x).queue = s.queue := rfl
@[simp] theorem withStamp_duty (s : State) (x : BitVec 32) : (s.withStamp x).duty = s.duty := rfl
@[simp] theorem withStamp_playout (s : State) (x : BitVec 32) : (s.withStamp x).playout = s.playout := rfl
@[simp] theorem withStamp_source (s : State) (x : BitVec 32) : (s.withStamp x).source = s.source := rfl
@[simp] theorem withStamp_watch (s : State) (x : BitVec 32) : (s.withStamp x).watch = s.watch := rfl
@[simp] theorem withStamp_ident (s : State) (x : BitVec 32) : (s.withStamp x).ident = s.ident := rfl
@[simp] theorem withStamp_tone (s : State) (x : BitVec 32) : (s.withStamp x).tone = s.tone := rfl
@[simp] theorem withStamp_keying (s : State) (x : BitVec 32) : (s.withStamp x).keying = s.keying := rfl
@[simp] theorem withStamp_bus (s : State) (x : BitVec 32) : (s.withStamp x).bus = s.bus := rfl
@[simp] theorem withStamp_handovers (s : State) (x : BitVec 32) : (s.withStamp x).handovers = s.handovers := rfl
@[simp] theorem withStamp_ram (s : State) (x : BitVec 32) : (s.withStamp x).ram = s.ram := rfl
@[simp] theorem withStamp_port (s : State) (x : BitVec 32) : (s.withStamp x).port = s.port := rfl
@[simp] theorem withStamp_page (s : State) (x : BitVec 32) : (s.withStamp x).page = s.page := rfl

@[simp] theorem withMode_pending (s : State) (x : ServiceMode) : (s.withMode x).pending = s.pending := rfl
@[simp] theorem withMode_free (s : State) (x : ServiceMode) : (s.withMode x).free = s.free := rfl
@[simp] theorem withMode_pins (s : State) (x : ServiceMode) : (s.withMode x).pins = s.pins := rfl
@[simp] theorem withMode_stamp (s : State) (x : ServiceMode) : (s.withMode x).stamp = s.stamp := rfl
@[simp] theorem withMode_mode (s : State) (x : ServiceMode) : (s.withMode x).mode = x := rfl
@[simp] theorem withMode_members (s : State) (x : ServiceMode) : (s.withMode x).members = s.members := rfl
@[simp] theorem withMode_seats (s : State) (x : ServiceMode) : (s.withMode x).seats = s.seats := rfl
@[simp] theorem withMode_plan (s : State) (x : ServiceMode) : (s.withMode x).plan = s.plan := rfl
@[simp] theorem withMode_station (s : State) (x : ServiceMode) : (s.withMode x).station = s.station := rfl
@[simp] theorem withMode_floor (s : State) (x : ServiceMode) : (s.withMode x).floor = s.floor := rfl
@[simp] theorem withMode_queue (s : State) (x : ServiceMode) : (s.withMode x).queue = s.queue := rfl
@[simp] theorem withMode_duty (s : State) (x : ServiceMode) : (s.withMode x).duty = s.duty := rfl
@[simp] theorem withMode_playout (s : State) (x : ServiceMode) : (s.withMode x).playout = s.playout := rfl
@[simp] theorem withMode_source (s : State) (x : ServiceMode) : (s.withMode x).source = s.source := rfl
@[simp] theorem withMode_watch (s : State) (x : ServiceMode) : (s.withMode x).watch = s.watch := rfl
@[simp] theorem withMode_ident (s : State) (x : ServiceMode) : (s.withMode x).ident = s.ident := rfl
@[simp] theorem withMode_tone (s : State) (x : ServiceMode) : (s.withMode x).tone = s.tone := rfl
@[simp] theorem withMode_keying (s : State) (x : ServiceMode) : (s.withMode x).keying = s.keying := rfl
@[simp] theorem withMode_bus (s : State) (x : ServiceMode) : (s.withMode x).bus = s.bus := rfl
@[simp] theorem withMode_handovers (s : State) (x : ServiceMode) : (s.withMode x).handovers = s.handovers := rfl
@[simp] theorem withMode_ram (s : State) (x : ServiceMode) : (s.withMode x).ram = s.ram := rfl
@[simp] theorem withMode_port (s : State) (x : ServiceMode) : (s.withMode x).port = s.port := rfl
@[simp] theorem withMode_page (s : State) (x : ServiceMode) : (s.withMode x).page = s.page := rfl

@[simp] theorem withMembers_pending (s : State) (x : Vector (Option Member) 48) : (s.withMembers x).pending = s.pending := rfl
@[simp] theorem withMembers_free (s : State) (x : Vector (Option Member) 48) : (s.withMembers x).free = s.free := rfl
@[simp] theorem withMembers_pins (s : State) (x : Vector (Option Member) 48) : (s.withMembers x).pins = s.pins := rfl
@[simp] theorem withMembers_stamp (s : State) (x : Vector (Option Member) 48) : (s.withMembers x).stamp = s.stamp := rfl
@[simp] theorem withMembers_mode (s : State) (x : Vector (Option Member) 48) : (s.withMembers x).mode = s.mode := rfl
@[simp] theorem withMembers_members (s : State) (x : Vector (Option Member) 48) : (s.withMembers x).members = x := rfl
@[simp] theorem withMembers_seats (s : State) (x : Vector (Option Member) 48) : (s.withMembers x).seats = s.seats := rfl
@[simp] theorem withMembers_plan (s : State) (x : Vector (Option Member) 48) : (s.withMembers x).plan = s.plan := rfl
@[simp] theorem withMembers_station (s : State) (x : Vector (Option Member) 48) : (s.withMembers x).station = s.station := rfl
@[simp] theorem withMembers_floor (s : State) (x : Vector (Option Member) 48) : (s.withMembers x).floor = s.floor := rfl
@[simp] theorem withMembers_queue (s : State) (x : Vector (Option Member) 48) : (s.withMembers x).queue = s.queue := rfl
@[simp] theorem withMembers_duty (s : State) (x : Vector (Option Member) 48) : (s.withMembers x).duty = s.duty := rfl
@[simp] theorem withMembers_playout (s : State) (x : Vector (Option Member) 48) : (s.withMembers x).playout = s.playout := rfl
@[simp] theorem withMembers_source (s : State) (x : Vector (Option Member) 48) : (s.withMembers x).source = s.source := rfl
@[simp] theorem withMembers_watch (s : State) (x : Vector (Option Member) 48) : (s.withMembers x).watch = s.watch := rfl
@[simp] theorem withMembers_ident (s : State) (x : Vector (Option Member) 48) : (s.withMembers x).ident = s.ident := rfl
@[simp] theorem withMembers_tone (s : State) (x : Vector (Option Member) 48) : (s.withMembers x).tone = s.tone := rfl
@[simp] theorem withMembers_keying (s : State) (x : Vector (Option Member) 48) : (s.withMembers x).keying = s.keying := rfl
@[simp] theorem withMembers_bus (s : State) (x : Vector (Option Member) 48) : (s.withMembers x).bus = s.bus := rfl
@[simp] theorem withMembers_handovers (s : State) (x : Vector (Option Member) 48) : (s.withMembers x).handovers = s.handovers := rfl
@[simp] theorem withMembers_ram (s : State) (x : Vector (Option Member) 48) : (s.withMembers x).ram = s.ram := rfl
@[simp] theorem withMembers_port (s : State) (x : Vector (Option Member) 48) : (s.withMembers x).port = s.port := rfl
@[simp] theorem withMembers_page (s : State) (x : Vector (Option Member) 48) : (s.withMembers x).page = s.page := rfl

@[simp] theorem withSeats_pending (s : State) (x : Vector Seat 12) : (s.withSeats x).pending = s.pending := rfl
@[simp] theorem withSeats_free (s : State) (x : Vector Seat 12) : (s.withSeats x).free = s.free := rfl
@[simp] theorem withSeats_pins (s : State) (x : Vector Seat 12) : (s.withSeats x).pins = s.pins := rfl
@[simp] theorem withSeats_stamp (s : State) (x : Vector Seat 12) : (s.withSeats x).stamp = s.stamp := rfl
@[simp] theorem withSeats_mode (s : State) (x : Vector Seat 12) : (s.withSeats x).mode = s.mode := rfl
@[simp] theorem withSeats_members (s : State) (x : Vector Seat 12) : (s.withSeats x).members = s.members := rfl
@[simp] theorem withSeats_seats (s : State) (x : Vector Seat 12) : (s.withSeats x).seats = x := rfl
@[simp] theorem withSeats_plan (s : State) (x : Vector Seat 12) : (s.withSeats x).plan = s.plan := rfl
@[simp] theorem withSeats_station (s : State) (x : Vector Seat 12) : (s.withSeats x).station = s.station := rfl
@[simp] theorem withSeats_floor (s : State) (x : Vector Seat 12) : (s.withSeats x).floor = s.floor := rfl
@[simp] theorem withSeats_queue (s : State) (x : Vector Seat 12) : (s.withSeats x).queue = s.queue := rfl
@[simp] theorem withSeats_duty (s : State) (x : Vector Seat 12) : (s.withSeats x).duty = s.duty := rfl
@[simp] theorem withSeats_playout (s : State) (x : Vector Seat 12) : (s.withSeats x).playout = s.playout := rfl
@[simp] theorem withSeats_source (s : State) (x : Vector Seat 12) : (s.withSeats x).source = s.source := rfl
@[simp] theorem withSeats_watch (s : State) (x : Vector Seat 12) : (s.withSeats x).watch = s.watch := rfl
@[simp] theorem withSeats_ident (s : State) (x : Vector Seat 12) : (s.withSeats x).ident = s.ident := rfl
@[simp] theorem withSeats_tone (s : State) (x : Vector Seat 12) : (s.withSeats x).tone = s.tone := rfl
@[simp] theorem withSeats_keying (s : State) (x : Vector Seat 12) : (s.withSeats x).keying = s.keying := rfl
@[simp] theorem withSeats_bus (s : State) (x : Vector Seat 12) : (s.withSeats x).bus = s.bus := rfl
@[simp] theorem withSeats_handovers (s : State) (x : Vector Seat 12) : (s.withSeats x).handovers = s.handovers := rfl
@[simp] theorem withSeats_ram (s : State) (x : Vector Seat 12) : (s.withSeats x).ram = s.ram := rfl
@[simp] theorem withSeats_port (s : State) (x : Vector Seat 12) : (s.withSeats x).port = s.port := rfl
@[simp] theorem withSeats_page (s : State) (x : Vector Seat 12) : (s.withSeats x).page = s.page := rfl

@[simp] theorem withPlan_pending (s : State) (x : Vector (Option Segment) 32) : (s.withPlan x).pending = s.pending := rfl
@[simp] theorem withPlan_free (s : State) (x : Vector (Option Segment) 32) : (s.withPlan x).free = s.free := rfl
@[simp] theorem withPlan_pins (s : State) (x : Vector (Option Segment) 32) : (s.withPlan x).pins = s.pins := rfl
@[simp] theorem withPlan_stamp (s : State) (x : Vector (Option Segment) 32) : (s.withPlan x).stamp = s.stamp := rfl
@[simp] theorem withPlan_mode (s : State) (x : Vector (Option Segment) 32) : (s.withPlan x).mode = s.mode := rfl
@[simp] theorem withPlan_members (s : State) (x : Vector (Option Segment) 32) : (s.withPlan x).members = s.members := rfl
@[simp] theorem withPlan_seats (s : State) (x : Vector (Option Segment) 32) : (s.withPlan x).seats = s.seats := rfl
@[simp] theorem withPlan_plan (s : State) (x : Vector (Option Segment) 32) : (s.withPlan x).plan = x := rfl
@[simp] theorem withPlan_station (s : State) (x : Vector (Option Segment) 32) : (s.withPlan x).station = s.station := rfl
@[simp] theorem withPlan_floor (s : State) (x : Vector (Option Segment) 32) : (s.withPlan x).floor = s.floor := rfl
@[simp] theorem withPlan_queue (s : State) (x : Vector (Option Segment) 32) : (s.withPlan x).queue = s.queue := rfl
@[simp] theorem withPlan_duty (s : State) (x : Vector (Option Segment) 32) : (s.withPlan x).duty = s.duty := rfl
@[simp] theorem withPlan_playout (s : State) (x : Vector (Option Segment) 32) : (s.withPlan x).playout = s.playout := rfl
@[simp] theorem withPlan_source (s : State) (x : Vector (Option Segment) 32) : (s.withPlan x).source = s.source := rfl
@[simp] theorem withPlan_watch (s : State) (x : Vector (Option Segment) 32) : (s.withPlan x).watch = s.watch := rfl
@[simp] theorem withPlan_ident (s : State) (x : Vector (Option Segment) 32) : (s.withPlan x).ident = s.ident := rfl
@[simp] theorem withPlan_tone (s : State) (x : Vector (Option Segment) 32) : (s.withPlan x).tone = s.tone := rfl
@[simp] theorem withPlan_keying (s : State) (x : Vector (Option Segment) 32) : (s.withPlan x).keying = s.keying := rfl
@[simp] theorem withPlan_bus (s : State) (x : Vector (Option Segment) 32) : (s.withPlan x).bus = s.bus := rfl
@[simp] theorem withPlan_handovers (s : State) (x : Vector (Option Segment) 32) : (s.withPlan x).handovers = s.handovers := rfl
@[simp] theorem withPlan_ram (s : State) (x : Vector (Option Segment) 32) : (s.withPlan x).ram = s.ram := rfl
@[simp] theorem withPlan_port (s : State) (x : Vector (Option Segment) 32) : (s.withPlan x).port = s.port := rfl
@[simp] theorem withPlan_page (s : State) (x : Vector (Option Segment) 32) : (s.withPlan x).page = s.page := rfl

@[simp] theorem withStation_pending (s : State) (x : StationRecord) : (s.withStation x).pending = s.pending := rfl
@[simp] theorem withStation_free (s : State) (x : StationRecord) : (s.withStation x).free = s.free := rfl
@[simp] theorem withStation_pins (s : State) (x : StationRecord) : (s.withStation x).pins = s.pins := rfl
@[simp] theorem withStation_stamp (s : State) (x : StationRecord) : (s.withStation x).stamp = s.stamp := rfl
@[simp] theorem withStation_mode (s : State) (x : StationRecord) : (s.withStation x).mode = s.mode := rfl
@[simp] theorem withStation_members (s : State) (x : StationRecord) : (s.withStation x).members = s.members := rfl
@[simp] theorem withStation_seats (s : State) (x : StationRecord) : (s.withStation x).seats = s.seats := rfl
@[simp] theorem withStation_plan (s : State) (x : StationRecord) : (s.withStation x).plan = s.plan := rfl
@[simp] theorem withStation_station (s : State) (x : StationRecord) : (s.withStation x).station = x := rfl
@[simp] theorem withStation_floor (s : State) (x : StationRecord) : (s.withStation x).floor = s.floor := rfl
@[simp] theorem withStation_queue (s : State) (x : StationRecord) : (s.withStation x).queue = s.queue := rfl
@[simp] theorem withStation_duty (s : State) (x : StationRecord) : (s.withStation x).duty = s.duty := rfl
@[simp] theorem withStation_playout (s : State) (x : StationRecord) : (s.withStation x).playout = s.playout := rfl
@[simp] theorem withStation_source (s : State) (x : StationRecord) : (s.withStation x).source = s.source := rfl
@[simp] theorem withStation_watch (s : State) (x : StationRecord) : (s.withStation x).watch = s.watch := rfl
@[simp] theorem withStation_ident (s : State) (x : StationRecord) : (s.withStation x).ident = s.ident := rfl
@[simp] theorem withStation_tone (s : State) (x : StationRecord) : (s.withStation x).tone = s.tone := rfl
@[simp] theorem withStation_keying (s : State) (x : StationRecord) : (s.withStation x).keying = s.keying := rfl
@[simp] theorem withStation_bus (s : State) (x : StationRecord) : (s.withStation x).bus = s.bus := rfl
@[simp] theorem withStation_handovers (s : State) (x : StationRecord) : (s.withStation x).handovers = s.handovers := rfl
@[simp] theorem withStation_ram (s : State) (x : StationRecord) : (s.withStation x).ram = s.ram := rfl
@[simp] theorem withStation_port (s : State) (x : StationRecord) : (s.withStation x).port = s.port := rfl
@[simp] theorem withStation_page (s : State) (x : StationRecord) : (s.withStation x).page = s.page := rfl

@[simp] theorem withFloor_pending (s : State) (x : Floor) : (s.withFloor x).pending = s.pending := rfl
@[simp] theorem withFloor_free (s : State) (x : Floor) : (s.withFloor x).free = s.free := rfl
@[simp] theorem withFloor_pins (s : State) (x : Floor) : (s.withFloor x).pins = s.pins := rfl
@[simp] theorem withFloor_stamp (s : State) (x : Floor) : (s.withFloor x).stamp = s.stamp := rfl
@[simp] theorem withFloor_mode (s : State) (x : Floor) : (s.withFloor x).mode = s.mode := rfl
@[simp] theorem withFloor_members (s : State) (x : Floor) : (s.withFloor x).members = s.members := rfl
@[simp] theorem withFloor_seats (s : State) (x : Floor) : (s.withFloor x).seats = s.seats := rfl
@[simp] theorem withFloor_plan (s : State) (x : Floor) : (s.withFloor x).plan = s.plan := rfl
@[simp] theorem withFloor_station (s : State) (x : Floor) : (s.withFloor x).station = s.station := rfl
@[simp] theorem withFloor_floor (s : State) (x : Floor) : (s.withFloor x).floor = x := rfl
@[simp] theorem withFloor_queue (s : State) (x : Floor) : (s.withFloor x).queue = s.queue := rfl
@[simp] theorem withFloor_duty (s : State) (x : Floor) : (s.withFloor x).duty = s.duty := rfl
@[simp] theorem withFloor_playout (s : State) (x : Floor) : (s.withFloor x).playout = s.playout := rfl
@[simp] theorem withFloor_source (s : State) (x : Floor) : (s.withFloor x).source = s.source := rfl
@[simp] theorem withFloor_watch (s : State) (x : Floor) : (s.withFloor x).watch = s.watch := rfl
@[simp] theorem withFloor_ident (s : State) (x : Floor) : (s.withFloor x).ident = s.ident := rfl
@[simp] theorem withFloor_tone (s : State) (x : Floor) : (s.withFloor x).tone = s.tone := rfl
@[simp] theorem withFloor_keying (s : State) (x : Floor) : (s.withFloor x).keying = s.keying := rfl
@[simp] theorem withFloor_bus (s : State) (x : Floor) : (s.withFloor x).bus = s.bus := rfl
@[simp] theorem withFloor_handovers (s : State) (x : Floor) : (s.withFloor x).handovers = s.handovers := rfl
@[simp] theorem withFloor_ram (s : State) (x : Floor) : (s.withFloor x).ram = s.ram := rfl
@[simp] theorem withFloor_port (s : State) (x : Floor) : (s.withFloor x).port = s.port := rfl
@[simp] theorem withFloor_page (s : State) (x : Floor) : (s.withFloor x).page = s.page := rfl

@[simp] theorem withQueue_pending (s : State) (x : List Entry) : (s.withQueue x).pending = s.pending := rfl
@[simp] theorem withQueue_free (s : State) (x : List Entry) : (s.withQueue x).free = s.free := rfl
@[simp] theorem withQueue_pins (s : State) (x : List Entry) : (s.withQueue x).pins = s.pins := rfl
@[simp] theorem withQueue_stamp (s : State) (x : List Entry) : (s.withQueue x).stamp = s.stamp := rfl
@[simp] theorem withQueue_mode (s : State) (x : List Entry) : (s.withQueue x).mode = s.mode := rfl
@[simp] theorem withQueue_members (s : State) (x : List Entry) : (s.withQueue x).members = s.members := rfl
@[simp] theorem withQueue_seats (s : State) (x : List Entry) : (s.withQueue x).seats = s.seats := rfl
@[simp] theorem withQueue_plan (s : State) (x : List Entry) : (s.withQueue x).plan = s.plan := rfl
@[simp] theorem withQueue_station (s : State) (x : List Entry) : (s.withQueue x).station = s.station := rfl
@[simp] theorem withQueue_floor (s : State) (x : List Entry) : (s.withQueue x).floor = s.floor := rfl
@[simp] theorem withQueue_queue (s : State) (x : List Entry) : (s.withQueue x).queue = x := rfl
@[simp] theorem withQueue_duty (s : State) (x : List Entry) : (s.withQueue x).duty = s.duty := rfl
@[simp] theorem withQueue_playout (s : State) (x : List Entry) : (s.withQueue x).playout = s.playout := rfl
@[simp] theorem withQueue_source (s : State) (x : List Entry) : (s.withQueue x).source = s.source := rfl
@[simp] theorem withQueue_watch (s : State) (x : List Entry) : (s.withQueue x).watch = s.watch := rfl
@[simp] theorem withQueue_ident (s : State) (x : List Entry) : (s.withQueue x).ident = s.ident := rfl
@[simp] theorem withQueue_tone (s : State) (x : List Entry) : (s.withQueue x).tone = s.tone := rfl
@[simp] theorem withQueue_keying (s : State) (x : List Entry) : (s.withQueue x).keying = s.keying := rfl
@[simp] theorem withQueue_bus (s : State) (x : List Entry) : (s.withQueue x).bus = s.bus := rfl
@[simp] theorem withQueue_handovers (s : State) (x : List Entry) : (s.withQueue x).handovers = s.handovers := rfl
@[simp] theorem withQueue_ram (s : State) (x : List Entry) : (s.withQueue x).ram = s.ram := rfl
@[simp] theorem withQueue_port (s : State) (x : List Entry) : (s.withQueue x).port = s.port := rfl
@[simp] theorem withQueue_page (s : State) (x : List Entry) : (s.withQueue x).page = s.page := rfl

@[simp] theorem withDuty_pending (s : State) (x : Duty) : (s.withDuty x).pending = s.pending := rfl
@[simp] theorem withDuty_free (s : State) (x : Duty) : (s.withDuty x).free = s.free := rfl
@[simp] theorem withDuty_pins (s : State) (x : Duty) : (s.withDuty x).pins = s.pins := rfl
@[simp] theorem withDuty_stamp (s : State) (x : Duty) : (s.withDuty x).stamp = s.stamp := rfl
@[simp] theorem withDuty_mode (s : State) (x : Duty) : (s.withDuty x).mode = s.mode := rfl
@[simp] theorem withDuty_members (s : State) (x : Duty) : (s.withDuty x).members = s.members := rfl
@[simp] theorem withDuty_seats (s : State) (x : Duty) : (s.withDuty x).seats = s.seats := rfl
@[simp] theorem withDuty_plan (s : State) (x : Duty) : (s.withDuty x).plan = s.plan := rfl
@[simp] theorem withDuty_station (s : State) (x : Duty) : (s.withDuty x).station = s.station := rfl
@[simp] theorem withDuty_floor (s : State) (x : Duty) : (s.withDuty x).floor = s.floor := rfl
@[simp] theorem withDuty_queue (s : State) (x : Duty) : (s.withDuty x).queue = s.queue := rfl
@[simp] theorem withDuty_duty (s : State) (x : Duty) : (s.withDuty x).duty = x := rfl
@[simp] theorem withDuty_playout (s : State) (x : Duty) : (s.withDuty x).playout = s.playout := rfl
@[simp] theorem withDuty_source (s : State) (x : Duty) : (s.withDuty x).source = s.source := rfl
@[simp] theorem withDuty_watch (s : State) (x : Duty) : (s.withDuty x).watch = s.watch := rfl
@[simp] theorem withDuty_ident (s : State) (x : Duty) : (s.withDuty x).ident = s.ident := rfl
@[simp] theorem withDuty_tone (s : State) (x : Duty) : (s.withDuty x).tone = s.tone := rfl
@[simp] theorem withDuty_keying (s : State) (x : Duty) : (s.withDuty x).keying = s.keying := rfl
@[simp] theorem withDuty_bus (s : State) (x : Duty) : (s.withDuty x).bus = s.bus := rfl
@[simp] theorem withDuty_handovers (s : State) (x : Duty) : (s.withDuty x).handovers = s.handovers := rfl
@[simp] theorem withDuty_ram (s : State) (x : Duty) : (s.withDuty x).ram = s.ram := rfl
@[simp] theorem withDuty_port (s : State) (x : Duty) : (s.withDuty x).port = s.port := rfl
@[simp] theorem withDuty_page (s : State) (x : Duty) : (s.withDuty x).page = s.page := rfl

@[simp] theorem withPlayout_pending (s : State) (x : Playout) : (s.withPlayout x).pending = s.pending := rfl
@[simp] theorem withPlayout_free (s : State) (x : Playout) : (s.withPlayout x).free = s.free := rfl
@[simp] theorem withPlayout_pins (s : State) (x : Playout) : (s.withPlayout x).pins = s.pins := rfl
@[simp] theorem withPlayout_stamp (s : State) (x : Playout) : (s.withPlayout x).stamp = s.stamp := rfl
@[simp] theorem withPlayout_mode (s : State) (x : Playout) : (s.withPlayout x).mode = s.mode := rfl
@[simp] theorem withPlayout_members (s : State) (x : Playout) : (s.withPlayout x).members = s.members := rfl
@[simp] theorem withPlayout_seats (s : State) (x : Playout) : (s.withPlayout x).seats = s.seats := rfl
@[simp] theorem withPlayout_plan (s : State) (x : Playout) : (s.withPlayout x).plan = s.plan := rfl
@[simp] theorem withPlayout_station (s : State) (x : Playout) : (s.withPlayout x).station = s.station := rfl
@[simp] theorem withPlayout_floor (s : State) (x : Playout) : (s.withPlayout x).floor = s.floor := rfl
@[simp] theorem withPlayout_queue (s : State) (x : Playout) : (s.withPlayout x).queue = s.queue := rfl
@[simp] theorem withPlayout_duty (s : State) (x : Playout) : (s.withPlayout x).duty = s.duty := rfl
@[simp] theorem withPlayout_playout (s : State) (x : Playout) : (s.withPlayout x).playout = x := rfl
@[simp] theorem withPlayout_source (s : State) (x : Playout) : (s.withPlayout x).source = s.source := rfl
@[simp] theorem withPlayout_watch (s : State) (x : Playout) : (s.withPlayout x).watch = s.watch := rfl
@[simp] theorem withPlayout_ident (s : State) (x : Playout) : (s.withPlayout x).ident = s.ident := rfl
@[simp] theorem withPlayout_tone (s : State) (x : Playout) : (s.withPlayout x).tone = s.tone := rfl
@[simp] theorem withPlayout_keying (s : State) (x : Playout) : (s.withPlayout x).keying = s.keying := rfl
@[simp] theorem withPlayout_bus (s : State) (x : Playout) : (s.withPlayout x).bus = s.bus := rfl
@[simp] theorem withPlayout_handovers (s : State) (x : Playout) : (s.withPlayout x).handovers = s.handovers := rfl
@[simp] theorem withPlayout_ram (s : State) (x : Playout) : (s.withPlayout x).ram = s.ram := rfl
@[simp] theorem withPlayout_port (s : State) (x : Playout) : (s.withPlayout x).port = s.port := rfl
@[simp] theorem withPlayout_page (s : State) (x : Playout) : (s.withPlayout x).page = s.page := rfl

@[simp] theorem withSource_pending (s : State) (x : Source) : (s.withSource x).pending = s.pending := rfl
@[simp] theorem withSource_free (s : State) (x : Source) : (s.withSource x).free = s.free := rfl
@[simp] theorem withSource_pins (s : State) (x : Source) : (s.withSource x).pins = s.pins := rfl
@[simp] theorem withSource_stamp (s : State) (x : Source) : (s.withSource x).stamp = s.stamp := rfl
@[simp] theorem withSource_mode (s : State) (x : Source) : (s.withSource x).mode = s.mode := rfl
@[simp] theorem withSource_members (s : State) (x : Source) : (s.withSource x).members = s.members := rfl
@[simp] theorem withSource_seats (s : State) (x : Source) : (s.withSource x).seats = s.seats := rfl
@[simp] theorem withSource_plan (s : State) (x : Source) : (s.withSource x).plan = s.plan := rfl
@[simp] theorem withSource_station (s : State) (x : Source) : (s.withSource x).station = s.station := rfl
@[simp] theorem withSource_floor (s : State) (x : Source) : (s.withSource x).floor = s.floor := rfl
@[simp] theorem withSource_queue (s : State) (x : Source) : (s.withSource x).queue = s.queue := rfl
@[simp] theorem withSource_duty (s : State) (x : Source) : (s.withSource x).duty = s.duty := rfl
@[simp] theorem withSource_playout (s : State) (x : Source) : (s.withSource x).playout = s.playout := rfl
@[simp] theorem withSource_source (s : State) (x : Source) : (s.withSource x).source = x := rfl
@[simp] theorem withSource_watch (s : State) (x : Source) : (s.withSource x).watch = s.watch := rfl
@[simp] theorem withSource_ident (s : State) (x : Source) : (s.withSource x).ident = s.ident := rfl
@[simp] theorem withSource_tone (s : State) (x : Source) : (s.withSource x).tone = s.tone := rfl
@[simp] theorem withSource_keying (s : State) (x : Source) : (s.withSource x).keying = s.keying := rfl
@[simp] theorem withSource_bus (s : State) (x : Source) : (s.withSource x).bus = s.bus := rfl
@[simp] theorem withSource_handovers (s : State) (x : Source) : (s.withSource x).handovers = s.handovers := rfl
@[simp] theorem withSource_ram (s : State) (x : Source) : (s.withSource x).ram = s.ram := rfl
@[simp] theorem withSource_port (s : State) (x : Source) : (s.withSource x).port = s.port := rfl
@[simp] theorem withSource_page (s : State) (x : Source) : (s.withSource x).page = s.page := rfl

@[simp] theorem withWatch_pending (s : State) (x : Watch) : (s.withWatch x).pending = s.pending := rfl
@[simp] theorem withWatch_free (s : State) (x : Watch) : (s.withWatch x).free = s.free := rfl
@[simp] theorem withWatch_pins (s : State) (x : Watch) : (s.withWatch x).pins = s.pins := rfl
@[simp] theorem withWatch_stamp (s : State) (x : Watch) : (s.withWatch x).stamp = s.stamp := rfl
@[simp] theorem withWatch_mode (s : State) (x : Watch) : (s.withWatch x).mode = s.mode := rfl
@[simp] theorem withWatch_members (s : State) (x : Watch) : (s.withWatch x).members = s.members := rfl
@[simp] theorem withWatch_seats (s : State) (x : Watch) : (s.withWatch x).seats = s.seats := rfl
@[simp] theorem withWatch_plan (s : State) (x : Watch) : (s.withWatch x).plan = s.plan := rfl
@[simp] theorem withWatch_station (s : State) (x : Watch) : (s.withWatch x).station = s.station := rfl
@[simp] theorem withWatch_floor (s : State) (x : Watch) : (s.withWatch x).floor = s.floor := rfl
@[simp] theorem withWatch_queue (s : State) (x : Watch) : (s.withWatch x).queue = s.queue := rfl
@[simp] theorem withWatch_duty (s : State) (x : Watch) : (s.withWatch x).duty = s.duty := rfl
@[simp] theorem withWatch_playout (s : State) (x : Watch) : (s.withWatch x).playout = s.playout := rfl
@[simp] theorem withWatch_source (s : State) (x : Watch) : (s.withWatch x).source = s.source := rfl
@[simp] theorem withWatch_watch (s : State) (x : Watch) : (s.withWatch x).watch = x := rfl
@[simp] theorem withWatch_ident (s : State) (x : Watch) : (s.withWatch x).ident = s.ident := rfl
@[simp] theorem withWatch_tone (s : State) (x : Watch) : (s.withWatch x).tone = s.tone := rfl
@[simp] theorem withWatch_keying (s : State) (x : Watch) : (s.withWatch x).keying = s.keying := rfl
@[simp] theorem withWatch_bus (s : State) (x : Watch) : (s.withWatch x).bus = s.bus := rfl
@[simp] theorem withWatch_handovers (s : State) (x : Watch) : (s.withWatch x).handovers = s.handovers := rfl
@[simp] theorem withWatch_ram (s : State) (x : Watch) : (s.withWatch x).ram = s.ram := rfl
@[simp] theorem withWatch_port (s : State) (x : Watch) : (s.withWatch x).port = s.port := rfl
@[simp] theorem withWatch_page (s : State) (x : Watch) : (s.withWatch x).page = s.page := rfl

@[simp] theorem withIdent_pending (s : State) (x : Ident) : (s.withIdent x).pending = s.pending := rfl
@[simp] theorem withIdent_free (s : State) (x : Ident) : (s.withIdent x).free = s.free := rfl
@[simp] theorem withIdent_pins (s : State) (x : Ident) : (s.withIdent x).pins = s.pins := rfl
@[simp] theorem withIdent_stamp (s : State) (x : Ident) : (s.withIdent x).stamp = s.stamp := rfl
@[simp] theorem withIdent_mode (s : State) (x : Ident) : (s.withIdent x).mode = s.mode := rfl
@[simp] theorem withIdent_members (s : State) (x : Ident) : (s.withIdent x).members = s.members := rfl
@[simp] theorem withIdent_seats (s : State) (x : Ident) : (s.withIdent x).seats = s.seats := rfl
@[simp] theorem withIdent_plan (s : State) (x : Ident) : (s.withIdent x).plan = s.plan := rfl
@[simp] theorem withIdent_station (s : State) (x : Ident) : (s.withIdent x).station = s.station := rfl
@[simp] theorem withIdent_floor (s : State) (x : Ident) : (s.withIdent x).floor = s.floor := rfl
@[simp] theorem withIdent_queue (s : State) (x : Ident) : (s.withIdent x).queue = s.queue := rfl
@[simp] theorem withIdent_duty (s : State) (x : Ident) : (s.withIdent x).duty = s.duty := rfl
@[simp] theorem withIdent_playout (s : State) (x : Ident) : (s.withIdent x).playout = s.playout := rfl
@[simp] theorem withIdent_source (s : State) (x : Ident) : (s.withIdent x).source = s.source := rfl
@[simp] theorem withIdent_watch (s : State) (x : Ident) : (s.withIdent x).watch = s.watch := rfl
@[simp] theorem withIdent_ident (s : State) (x : Ident) : (s.withIdent x).ident = x := rfl
@[simp] theorem withIdent_tone (s : State) (x : Ident) : (s.withIdent x).tone = s.tone := rfl
@[simp] theorem withIdent_keying (s : State) (x : Ident) : (s.withIdent x).keying = s.keying := rfl
@[simp] theorem withIdent_bus (s : State) (x : Ident) : (s.withIdent x).bus = s.bus := rfl
@[simp] theorem withIdent_handovers (s : State) (x : Ident) : (s.withIdent x).handovers = s.handovers := rfl
@[simp] theorem withIdent_ram (s : State) (x : Ident) : (s.withIdent x).ram = s.ram := rfl
@[simp] theorem withIdent_port (s : State) (x : Ident) : (s.withIdent x).port = s.port := rfl
@[simp] theorem withIdent_page (s : State) (x : Ident) : (s.withIdent x).page = s.page := rfl

@[simp] theorem withTone_pending (s : State) (x : Tone) : (s.withTone x).pending = s.pending := rfl
@[simp] theorem withTone_free (s : State) (x : Tone) : (s.withTone x).free = s.free := rfl
@[simp] theorem withTone_pins (s : State) (x : Tone) : (s.withTone x).pins = s.pins := rfl
@[simp] theorem withTone_stamp (s : State) (x : Tone) : (s.withTone x).stamp = s.stamp := rfl
@[simp] theorem withTone_mode (s : State) (x : Tone) : (s.withTone x).mode = s.mode := rfl
@[simp] theorem withTone_members (s : State) (x : Tone) : (s.withTone x).members = s.members := rfl
@[simp] theorem withTone_seats (s : State) (x : Tone) : (s.withTone x).seats = s.seats := rfl
@[simp] theorem withTone_plan (s : State) (x : Tone) : (s.withTone x).plan = s.plan := rfl
@[simp] theorem withTone_station (s : State) (x : Tone) : (s.withTone x).station = s.station := rfl
@[simp] theorem withTone_floor (s : State) (x : Tone) : (s.withTone x).floor = s.floor := rfl
@[simp] theorem withTone_queue (s : State) (x : Tone) : (s.withTone x).queue = s.queue := rfl
@[simp] theorem withTone_duty (s : State) (x : Tone) : (s.withTone x).duty = s.duty := rfl
@[simp] theorem withTone_playout (s : State) (x : Tone) : (s.withTone x).playout = s.playout := rfl
@[simp] theorem withTone_source (s : State) (x : Tone) : (s.withTone x).source = s.source := rfl
@[simp] theorem withTone_watch (s : State) (x : Tone) : (s.withTone x).watch = s.watch := rfl
@[simp] theorem withTone_ident (s : State) (x : Tone) : (s.withTone x).ident = s.ident := rfl
@[simp] theorem withTone_tone (s : State) (x : Tone) : (s.withTone x).tone = x := rfl
@[simp] theorem withTone_keying (s : State) (x : Tone) : (s.withTone x).keying = s.keying := rfl
@[simp] theorem withTone_bus (s : State) (x : Tone) : (s.withTone x).bus = s.bus := rfl
@[simp] theorem withTone_handovers (s : State) (x : Tone) : (s.withTone x).handovers = s.handovers := rfl
@[simp] theorem withTone_ram (s : State) (x : Tone) : (s.withTone x).ram = s.ram := rfl
@[simp] theorem withTone_port (s : State) (x : Tone) : (s.withTone x).port = s.port := rfl
@[simp] theorem withTone_page (s : State) (x : Tone) : (s.withTone x).page = s.page := rfl

@[simp] theorem withKeying_pending (s : State) (x : Keying) : (s.withKeying x).pending = s.pending := rfl
@[simp] theorem withKeying_free (s : State) (x : Keying) : (s.withKeying x).free = s.free := rfl
@[simp] theorem withKeying_pins (s : State) (x : Keying) : (s.withKeying x).pins = s.pins := rfl
@[simp] theorem withKeying_stamp (s : State) (x : Keying) : (s.withKeying x).stamp = s.stamp := rfl
@[simp] theorem withKeying_mode (s : State) (x : Keying) : (s.withKeying x).mode = s.mode := rfl
@[simp] theorem withKeying_members (s : State) (x : Keying) : (s.withKeying x).members = s.members := rfl
@[simp] theorem withKeying_seats (s : State) (x : Keying) : (s.withKeying x).seats = s.seats := rfl
@[simp] theorem withKeying_plan (s : State) (x : Keying) : (s.withKeying x).plan = s.plan := rfl
@[simp] theorem withKeying_station (s : State) (x : Keying) : (s.withKeying x).station = s.station := rfl
@[simp] theorem withKeying_floor (s : State) (x : Keying) : (s.withKeying x).floor = s.floor := rfl
@[simp] theorem withKeying_queue (s : State) (x : Keying) : (s.withKeying x).queue = s.queue := rfl
@[simp] theorem withKeying_duty (s : State) (x : Keying) : (s.withKeying x).duty = s.duty := rfl
@[simp] theorem withKeying_playout (s : State) (x : Keying) : (s.withKeying x).playout = s.playout := rfl
@[simp] theorem withKeying_source (s : State) (x : Keying) : (s.withKeying x).source = s.source := rfl
@[simp] theorem withKeying_watch (s : State) (x : Keying) : (s.withKeying x).watch = s.watch := rfl
@[simp] theorem withKeying_ident (s : State) (x : Keying) : (s.withKeying x).ident = s.ident := rfl
@[simp] theorem withKeying_tone (s : State) (x : Keying) : (s.withKeying x).tone = s.tone := rfl
@[simp] theorem withKeying_keying (s : State) (x : Keying) : (s.withKeying x).keying = x := rfl
@[simp] theorem withKeying_bus (s : State) (x : Keying) : (s.withKeying x).bus = s.bus := rfl
@[simp] theorem withKeying_handovers (s : State) (x : Keying) : (s.withKeying x).handovers = s.handovers := rfl
@[simp] theorem withKeying_ram (s : State) (x : Keying) : (s.withKeying x).ram = s.ram := rfl
@[simp] theorem withKeying_port (s : State) (x : Keying) : (s.withKeying x).port = s.port := rfl
@[simp] theorem withKeying_page (s : State) (x : Keying) : (s.withKeying x).page = s.page := rfl

@[simp] theorem withBus_pending (s : State) (x : Bus) : (s.withBus x).pending = s.pending := rfl
@[simp] theorem withBus_free (s : State) (x : Bus) : (s.withBus x).free = s.free := rfl
@[simp] theorem withBus_pins (s : State) (x : Bus) : (s.withBus x).pins = s.pins := rfl
@[simp] theorem withBus_stamp (s : State) (x : Bus) : (s.withBus x).stamp = s.stamp := rfl
@[simp] theorem withBus_mode (s : State) (x : Bus) : (s.withBus x).mode = s.mode := rfl
@[simp] theorem withBus_members (s : State) (x : Bus) : (s.withBus x).members = s.members := rfl
@[simp] theorem withBus_seats (s : State) (x : Bus) : (s.withBus x).seats = s.seats := rfl
@[simp] theorem withBus_plan (s : State) (x : Bus) : (s.withBus x).plan = s.plan := rfl
@[simp] theorem withBus_station (s : State) (x : Bus) : (s.withBus x).station = s.station := rfl
@[simp] theorem withBus_floor (s : State) (x : Bus) : (s.withBus x).floor = s.floor := rfl
@[simp] theorem withBus_queue (s : State) (x : Bus) : (s.withBus x).queue = s.queue := rfl
@[simp] theorem withBus_duty (s : State) (x : Bus) : (s.withBus x).duty = s.duty := rfl
@[simp] theorem withBus_playout (s : State) (x : Bus) : (s.withBus x).playout = s.playout := rfl
@[simp] theorem withBus_source (s : State) (x : Bus) : (s.withBus x).source = s.source := rfl
@[simp] theorem withBus_watch (s : State) (x : Bus) : (s.withBus x).watch = s.watch := rfl
@[simp] theorem withBus_ident (s : State) (x : Bus) : (s.withBus x).ident = s.ident := rfl
@[simp] theorem withBus_tone (s : State) (x : Bus) : (s.withBus x).tone = s.tone := rfl
@[simp] theorem withBus_keying (s : State) (x : Bus) : (s.withBus x).keying = s.keying := rfl
@[simp] theorem withBus_bus (s : State) (x : Bus) : (s.withBus x).bus = x := rfl
@[simp] theorem withBus_handovers (s : State) (x : Bus) : (s.withBus x).handovers = s.handovers := rfl
@[simp] theorem withBus_ram (s : State) (x : Bus) : (s.withBus x).ram = s.ram := rfl
@[simp] theorem withBus_port (s : State) (x : Bus) : (s.withBus x).port = s.port := rfl
@[simp] theorem withBus_page (s : State) (x : Bus) : (s.withBus x).page = s.page := rfl

@[simp] theorem withHandovers_pending (s : State) (x : List SeatNo) : (s.withHandovers x).pending = s.pending := rfl
@[simp] theorem withHandovers_free (s : State) (x : List SeatNo) : (s.withHandovers x).free = s.free := rfl
@[simp] theorem withHandovers_pins (s : State) (x : List SeatNo) : (s.withHandovers x).pins = s.pins := rfl
@[simp] theorem withHandovers_stamp (s : State) (x : List SeatNo) : (s.withHandovers x).stamp = s.stamp := rfl
@[simp] theorem withHandovers_mode (s : State) (x : List SeatNo) : (s.withHandovers x).mode = s.mode := rfl
@[simp] theorem withHandovers_members (s : State) (x : List SeatNo) : (s.withHandovers x).members = s.members := rfl
@[simp] theorem withHandovers_seats (s : State) (x : List SeatNo) : (s.withHandovers x).seats = s.seats := rfl
@[simp] theorem withHandovers_plan (s : State) (x : List SeatNo) : (s.withHandovers x).plan = s.plan := rfl
@[simp] theorem withHandovers_station (s : State) (x : List SeatNo) : (s.withHandovers x).station = s.station := rfl
@[simp] theorem withHandovers_floor (s : State) (x : List SeatNo) : (s.withHandovers x).floor = s.floor := rfl
@[simp] theorem withHandovers_queue (s : State) (x : List SeatNo) : (s.withHandovers x).queue = s.queue := rfl
@[simp] theorem withHandovers_duty (s : State) (x : List SeatNo) : (s.withHandovers x).duty = s.duty := rfl
@[simp] theorem withHandovers_playout (s : State) (x : List SeatNo) : (s.withHandovers x).playout = s.playout := rfl
@[simp] theorem withHandovers_source (s : State) (x : List SeatNo) : (s.withHandovers x).source = s.source := rfl
@[simp] theorem withHandovers_watch (s : State) (x : List SeatNo) : (s.withHandovers x).watch = s.watch := rfl
@[simp] theorem withHandovers_ident (s : State) (x : List SeatNo) : (s.withHandovers x).ident = s.ident := rfl
@[simp] theorem withHandovers_tone (s : State) (x : List SeatNo) : (s.withHandovers x).tone = s.tone := rfl
@[simp] theorem withHandovers_keying (s : State) (x : List SeatNo) : (s.withHandovers x).keying = s.keying := rfl
@[simp] theorem withHandovers_bus (s : State) (x : List SeatNo) : (s.withHandovers x).bus = s.bus := rfl
@[simp] theorem withHandovers_handovers (s : State) (x : List SeatNo) : (s.withHandovers x).handovers = x := rfl
@[simp] theorem withHandovers_ram (s : State) (x : List SeatNo) : (s.withHandovers x).ram = s.ram := rfl
@[simp] theorem withHandovers_port (s : State) (x : List SeatNo) : (s.withHandovers x).port = s.port := rfl
@[simp] theorem withHandovers_page (s : State) (x : List SeatNo) : (s.withHandovers x).page = s.page := rfl

@[simp] theorem withRam_pending (s : State) (x : Memory) : (s.withRam x).pending = s.pending := rfl
@[simp] theorem withRam_free (s : State) (x : Memory) : (s.withRam x).free = s.free := rfl
@[simp] theorem withRam_pins (s : State) (x : Memory) : (s.withRam x).pins = s.pins := rfl
@[simp] theorem withRam_stamp (s : State) (x : Memory) : (s.withRam x).stamp = s.stamp := rfl
@[simp] theorem withRam_mode (s : State) (x : Memory) : (s.withRam x).mode = s.mode := rfl
@[simp] theorem withRam_members (s : State) (x : Memory) : (s.withRam x).members = s.members := rfl
@[simp] theorem withRam_seats (s : State) (x : Memory) : (s.withRam x).seats = s.seats := rfl
@[simp] theorem withRam_plan (s : State) (x : Memory) : (s.withRam x).plan = s.plan := rfl
@[simp] theorem withRam_station (s : State) (x : Memory) : (s.withRam x).station = s.station := rfl
@[simp] theorem withRam_floor (s : State) (x : Memory) : (s.withRam x).floor = s.floor := rfl
@[simp] theorem withRam_queue (s : State) (x : Memory) : (s.withRam x).queue = s.queue := rfl
@[simp] theorem withRam_duty (s : State) (x : Memory) : (s.withRam x).duty = s.duty := rfl
@[simp] theorem withRam_playout (s : State) (x : Memory) : (s.withRam x).playout = s.playout := rfl
@[simp] theorem withRam_source (s : State) (x : Memory) : (s.withRam x).source = s.source := rfl
@[simp] theorem withRam_watch (s : State) (x : Memory) : (s.withRam x).watch = s.watch := rfl
@[simp] theorem withRam_ident (s : State) (x : Memory) : (s.withRam x).ident = s.ident := rfl
@[simp] theorem withRam_tone (s : State) (x : Memory) : (s.withRam x).tone = s.tone := rfl
@[simp] theorem withRam_keying (s : State) (x : Memory) : (s.withRam x).keying = s.keying := rfl
@[simp] theorem withRam_bus (s : State) (x : Memory) : (s.withRam x).bus = s.bus := rfl
@[simp] theorem withRam_handovers (s : State) (x : Memory) : (s.withRam x).handovers = s.handovers := rfl
@[simp] theorem withRam_ram (s : State) (x : Memory) : (s.withRam x).ram = x := rfl
@[simp] theorem withRam_port (s : State) (x : Memory) : (s.withRam x).port = s.port := rfl
@[simp] theorem withRam_page (s : State) (x : Memory) : (s.withRam x).page = s.page := rfl

@[simp] theorem withPort_pending (s : State) (x : Port) : (s.withPort x).pending = s.pending := rfl
@[simp] theorem withPort_free (s : State) (x : Port) : (s.withPort x).free = s.free := rfl
@[simp] theorem withPort_pins (s : State) (x : Port) : (s.withPort x).pins = s.pins := rfl
@[simp] theorem withPort_stamp (s : State) (x : Port) : (s.withPort x).stamp = s.stamp := rfl
@[simp] theorem withPort_mode (s : State) (x : Port) : (s.withPort x).mode = s.mode := rfl
@[simp] theorem withPort_members (s : State) (x : Port) : (s.withPort x).members = s.members := rfl
@[simp] theorem withPort_seats (s : State) (x : Port) : (s.withPort x).seats = s.seats := rfl
@[simp] theorem withPort_plan (s : State) (x : Port) : (s.withPort x).plan = s.plan := rfl
@[simp] theorem withPort_station (s : State) (x : Port) : (s.withPort x).station = s.station := rfl
@[simp] theorem withPort_floor (s : State) (x : Port) : (s.withPort x).floor = s.floor := rfl
@[simp] theorem withPort_queue (s : State) (x : Port) : (s.withPort x).queue = s.queue := rfl
@[simp] theorem withPort_duty (s : State) (x : Port) : (s.withPort x).duty = s.duty := rfl
@[simp] theorem withPort_playout (s : State) (x : Port) : (s.withPort x).playout = s.playout := rfl
@[simp] theorem withPort_source (s : State) (x : Port) : (s.withPort x).source = s.source := rfl
@[simp] theorem withPort_watch (s : State) (x : Port) : (s.withPort x).watch = s.watch := rfl
@[simp] theorem withPort_ident (s : State) (x : Port) : (s.withPort x).ident = s.ident := rfl
@[simp] theorem withPort_tone (s : State) (x : Port) : (s.withPort x).tone = s.tone := rfl
@[simp] theorem withPort_keying (s : State) (x : Port) : (s.withPort x).keying = s.keying := rfl
@[simp] theorem withPort_bus (s : State) (x : Port) : (s.withPort x).bus = s.bus := rfl
@[simp] theorem withPort_handovers (s : State) (x : Port) : (s.withPort x).handovers = s.handovers := rfl
@[simp] theorem withPort_ram (s : State) (x : Port) : (s.withPort x).ram = s.ram := rfl
@[simp] theorem withPort_port (s : State) (x : Port) : (s.withPort x).port = x := rfl
@[simp] theorem withPort_page (s : State) (x : Port) : (s.withPort x).page = s.page := rfl

@[simp] theorem withPage_pending (s : State) (x : Page) : (s.withPage x).pending = s.pending := rfl
@[simp] theorem withPage_free (s : State) (x : Page) : (s.withPage x).free = s.free := rfl
@[simp] theorem withPage_pins (s : State) (x : Page) : (s.withPage x).pins = s.pins := rfl
@[simp] theorem withPage_stamp (s : State) (x : Page) : (s.withPage x).stamp = s.stamp := rfl
@[simp] theorem withPage_mode (s : State) (x : Page) : (s.withPage x).mode = s.mode := rfl
@[simp] theorem withPage_members (s : State) (x : Page) : (s.withPage x).members = s.members := rfl
@[simp] theorem withPage_seats (s : State) (x : Page) : (s.withPage x).seats = s.seats := rfl
@[simp] theorem withPage_plan (s : State) (x : Page) : (s.withPage x).plan = s.plan := rfl
@[simp] theorem withPage_station (s : State) (x : Page) : (s.withPage x).station = s.station := rfl
@[simp] theorem withPage_floor (s : State) (x : Page) : (s.withPage x).floor = s.floor := rfl
@[simp] theorem withPage_queue (s : State) (x : Page) : (s.withPage x).queue = s.queue := rfl
@[simp] theorem withPage_duty (s : State) (x : Page) : (s.withPage x).duty = s.duty := rfl
@[simp] theorem withPage_playout (s : State) (x : Page) : (s.withPage x).playout = s.playout := rfl
@[simp] theorem withPage_source (s : State) (x : Page) : (s.withPage x).source = s.source := rfl
@[simp] theorem withPage_watch (s : State) (x : Page) : (s.withPage x).watch = s.watch := rfl
@[simp] theorem withPage_ident (s : State) (x : Page) : (s.withPage x).ident = s.ident := rfl
@[simp] theorem withPage_tone (s : State) (x : Page) : (s.withPage x).tone = s.tone := rfl
@[simp] theorem withPage_keying (s : State) (x : Page) : (s.withPage x).keying = s.keying := rfl
@[simp] theorem withPage_bus (s : State) (x : Page) : (s.withPage x).bus = s.bus := rfl
@[simp] theorem withPage_handovers (s : State) (x : Page) : (s.withPage x).handovers = s.handovers := rfl
@[simp] theorem withPage_ram (s : State) (x : Page) : (s.withPage x).ram = s.ram := rfl
@[simp] theorem withPage_port (s : State) (x : Page) : (s.withPage x).port = s.port := rfl
@[simp] theorem withPage_page (s : State) (x : Page) : (s.withPage x).page = x := rfl

end Sys2Proof.Machine
end

