-- ==== Sys2Proof/Laws/Frames.lean ====
section
/-! SUPPORT. The frame of each operation of Ops, Identification, WorkList, Floor and Report: the fields
of the state it leaves as they were. Each is one conjunction, so that `simp` reads off any field. -/

namespace Sys2Proof.Machine

/-- Changes at most ram. -/
@[simp] theorem writeCell_frame (c : CellRef) (o : Nat) (b : List Byte) (s : State) :
    (writeCell c o b s).pending = s.pending
      ∧ (writeCell c o b s).free = s.free
      ∧ (writeCell c o b s).pins = s.pins
      ∧ (writeCell c o b s).stamp = s.stamp
      ∧ (writeCell c o b s).mode = s.mode
      ∧ (writeCell c o b s).members = s.members
      ∧ (writeCell c o b s).seats = s.seats
      ∧ (writeCell c o b s).plan = s.plan
      ∧ (writeCell c o b s).station = s.station
      ∧ (writeCell c o b s).floor = s.floor
      ∧ (writeCell c o b s).queue = s.queue
      ∧ (writeCell c o b s).duty = s.duty
      ∧ (writeCell c o b s).playout = s.playout
      ∧ (writeCell c o b s).source = s.source
      ∧ (writeCell c o b s).watch = s.watch
      ∧ (writeCell c o b s).ident = s.ident
      ∧ (writeCell c o b s).tone = s.tone
      ∧ (writeCell c o b s).keying = s.keying
      ∧ (writeCell c o b s).bus = s.bus
      ∧ (writeCell c o b s).handovers = s.handovers
      ∧ (writeCell c o b s).port = s.port
      ∧ (writeCell c o b s).page = s.page := by
  simp [writeCell]

/-- Changes at most ram. -/
@[simp] theorem writeHandover_frame (c : CellRef) (v : Byte) (s : State) :
    (writeHandover c v s).pending = s.pending
      ∧ (writeHandover c v s).free = s.free
      ∧ (writeHandover c v s).pins = s.pins
      ∧ (writeHandover c v s).stamp = s.stamp
      ∧ (writeHandover c v s).mode = s.mode
      ∧ (writeHandover c v s).members = s.members
      ∧ (writeHandover c v s).seats = s.seats
      ∧ (writeHandover c v s).plan = s.plan
      ∧ (writeHandover c v s).station = s.station
      ∧ (writeHandover c v s).floor = s.floor
      ∧ (writeHandover c v s).queue = s.queue
      ∧ (writeHandover c v s).duty = s.duty
      ∧ (writeHandover c v s).playout = s.playout
      ∧ (writeHandover c v s).source = s.source
      ∧ (writeHandover c v s).watch = s.watch
      ∧ (writeHandover c v s).ident = s.ident
      ∧ (writeHandover c v s).tone = s.tone
      ∧ (writeHandover c v s).keying = s.keying
      ∧ (writeHandover c v s).bus = s.bus
      ∧ (writeHandover c v s).handovers = s.handovers
      ∧ (writeHandover c v s).port = s.port
      ∧ (writeHandover c v s).page = s.page := by
  simp [writeHandover]

/-- Changes at most members. -/
@[simp] theorem setMember_frame (m : MemberNo) (r : Option Member) (s : State) :
    (setMember m r s).pending = s.pending
      ∧ (setMember m r s).free = s.free
      ∧ (setMember m r s).pins = s.pins
      ∧ (setMember m r s).stamp = s.stamp
      ∧ (setMember m r s).mode = s.mode
      ∧ (setMember m r s).seats = s.seats
      ∧ (setMember m r s).plan = s.plan
      ∧ (setMember m r s).station = s.station
      ∧ (setMember m r s).floor = s.floor
      ∧ (setMember m r s).queue = s.queue
      ∧ (setMember m r s).duty = s.duty
      ∧ (setMember m r s).playout = s.playout
      ∧ (setMember m r s).source = s.source
      ∧ (setMember m r s).watch = s.watch
      ∧ (setMember m r s).ident = s.ident
      ∧ (setMember m r s).tone = s.tone
      ∧ (setMember m r s).keying = s.keying
      ∧ (setMember m r s).bus = s.bus
      ∧ (setMember m r s).handovers = s.handovers
      ∧ (setMember m r s).ram = s.ram
      ∧ (setMember m r s).port = s.port
      ∧ (setMember m r s).page = s.page := by
  simp [setMember]

/-- Changes at most members. -/
@[simp] theorem modMember_frame (m : MemberNo) (f : Member → Member) (s : State) :
    (modMember m f s).pending = s.pending
      ∧ (modMember m f s).free = s.free
      ∧ (modMember m f s).pins = s.pins
      ∧ (modMember m f s).stamp = s.stamp
      ∧ (modMember m f s).mode = s.mode
      ∧ (modMember m f s).seats = s.seats
      ∧ (modMember m f s).plan = s.plan
      ∧ (modMember m f s).station = s.station
      ∧ (modMember m f s).floor = s.floor
      ∧ (modMember m f s).queue = s.queue
      ∧ (modMember m f s).duty = s.duty
      ∧ (modMember m f s).playout = s.playout
      ∧ (modMember m f s).source = s.source
      ∧ (modMember m f s).watch = s.watch
      ∧ (modMember m f s).ident = s.ident
      ∧ (modMember m f s).tone = s.tone
      ∧ (modMember m f s).keying = s.keying
      ∧ (modMember m f s).bus = s.bus
      ∧ (modMember m f s).handovers = s.handovers
      ∧ (modMember m f s).ram = s.ram
      ∧ (modMember m f s).port = s.port
      ∧ (modMember m f s).page = s.page := by
  simp [modMember]

/-- Changes at most seats. -/
@[simp] theorem modSeat_frame (seat : SeatNo) (f : Seat → Seat) (s : State) :
    (modSeat seat f s).pending = s.pending
      ∧ (modSeat seat f s).free = s.free
      ∧ (modSeat seat f s).pins = s.pins
      ∧ (modSeat seat f s).stamp = s.stamp
      ∧ (modSeat seat f s).mode = s.mode
      ∧ (modSeat seat f s).members = s.members
      ∧ (modSeat seat f s).plan = s.plan
      ∧ (modSeat seat f s).station = s.station
      ∧ (modSeat seat f s).floor = s.floor
      ∧ (modSeat seat f s).queue = s.queue
      ∧ (modSeat seat f s).duty = s.duty
      ∧ (modSeat seat f s).playout = s.playout
      ∧ (modSeat seat f s).source = s.source
      ∧ (modSeat seat f s).watch = s.watch
      ∧ (modSeat seat f s).ident = s.ident
      ∧ (modSeat seat f s).tone = s.tone
      ∧ (modSeat seat f s).keying = s.keying
      ∧ (modSeat seat f s).bus = s.bus
      ∧ (modSeat seat f s).handovers = s.handovers
      ∧ (modSeat seat f s).ram = s.ram
      ∧ (modSeat seat f s).port = s.port
      ∧ (modSeat seat f s).page = s.page := by
  simp [modSeat]

/-- Changes at most seats. -/
@[simp] theorem renewPresence_frame (seat : SeatNo) (s : State) :
    (renewPresence seat s).pending = s.pending
      ∧ (renewPresence seat s).free = s.free
      ∧ (renewPresence seat s).pins = s.pins
      ∧ (renewPresence seat s).stamp = s.stamp
      ∧ (renewPresence seat s).mode = s.mode
      ∧ (renewPresence seat s).members = s.members
      ∧ (renewPresence seat s).plan = s.plan
      ∧ (renewPresence seat s).station = s.station
      ∧ (renewPresence seat s).floor = s.floor
      ∧ (renewPresence seat s).queue = s.queue
      ∧ (renewPresence seat s).duty = s.duty
      ∧ (renewPresence seat s).playout = s.playout
      ∧ (renewPresence seat s).source = s.source
      ∧ (renewPresence seat s).watch = s.watch
      ∧ (renewPresence seat s).ident = s.ident
      ∧ (renewPresence seat s).tone = s.tone
      ∧ (renewPresence seat s).keying = s.keying
      ∧ (renewPresence seat s).bus = s.bus
      ∧ (renewPresence seat s).handovers = s.handovers
      ∧ (renewPresence seat s).ram = s.ram
      ∧ (renewPresence seat s).port = s.port
      ∧ (renewPresence seat s).page = s.page := by
  simp [renewPresence]

/-- Changes at most seats. -/
@[simp] theorem raise_frame (seat : SeatNo) (b : NoticeBody) (s : State) :
    (raise seat b s).pending = s.pending
      ∧ (raise seat b s).free = s.free
      ∧ (raise seat b s).pins = s.pins
      ∧ (raise seat b s).stamp = s.stamp
      ∧ (raise seat b s).mode = s.mode
      ∧ (raise seat b s).members = s.members
      ∧ (raise seat b s).plan = s.plan
      ∧ (raise seat b s).station = s.station
      ∧ (raise seat b s).floor = s.floor
      ∧ (raise seat b s).queue = s.queue
      ∧ (raise seat b s).duty = s.duty
      ∧ (raise seat b s).playout = s.playout
      ∧ (raise seat b s).source = s.source
      ∧ (raise seat b s).watch = s.watch
      ∧ (raise seat b s).ident = s.ident
      ∧ (raise seat b s).tone = s.tone
      ∧ (raise seat b s).keying = s.keying
      ∧ (raise seat b s).bus = s.bus
      ∧ (raise seat b s).handovers = s.handovers
      ∧ (raise seat b s).ram = s.ram
      ∧ (raise seat b s).port = s.port
      ∧ (raise seat b s).page = s.page := by
  simp [raise]

/-- Changes at most seats. -/
@[simp] theorem raiseAll_frame (b : NoticeBody) (s : State) :
    (raiseAll b s).pending = s.pending
      ∧ (raiseAll b s).free = s.free
      ∧ (raiseAll b s).pins = s.pins
      ∧ (raiseAll b s).stamp = s.stamp
      ∧ (raiseAll b s).mode = s.mode
      ∧ (raiseAll b s).members = s.members
      ∧ (raiseAll b s).plan = s.plan
      ∧ (raiseAll b s).station = s.station
      ∧ (raiseAll b s).floor = s.floor
      ∧ (raiseAll b s).queue = s.queue
      ∧ (raiseAll b s).duty = s.duty
      ∧ (raiseAll b s).playout = s.playout
      ∧ (raiseAll b s).source = s.source
      ∧ (raiseAll b s).watch = s.watch
      ∧ (raiseAll b s).ident = s.ident
      ∧ (raiseAll b s).tone = s.tone
      ∧ (raiseAll b s).keying = s.keying
      ∧ (raiseAll b s).bus = s.bus
      ∧ (raiseAll b s).handovers = s.handovers
      ∧ (raiseAll b s).ram = s.ram
      ∧ (raiseAll b s).port = s.port
      ∧ (raiseAll b s).page = s.page := by
  simp [raiseAll]

/-- Changes at most port. -/
@[simp] theorem setSummary_frame (bit : Nat) (s : State) :
    (setSummary bit s).pending = s.pending
      ∧ (setSummary bit s).free = s.free
      ∧ (setSummary bit s).pins = s.pins
      ∧ (setSummary bit s).stamp = s.stamp
      ∧ (setSummary bit s).mode = s.mode
      ∧ (setSummary bit s).members = s.members
      ∧ (setSummary bit s).seats = s.seats
      ∧ (setSummary bit s).plan = s.plan
      ∧ (setSummary bit s).station = s.station
      ∧ (setSummary bit s).floor = s.floor
      ∧ (setSummary bit s).queue = s.queue
      ∧ (setSummary bit s).duty = s.duty
      ∧ (setSummary bit s).playout = s.playout
      ∧ (setSummary bit s).source = s.source
      ∧ (setSummary bit s).watch = s.watch
      ∧ (setSummary bit s).ident = s.ident
      ∧ (setSummary bit s).tone = s.tone
      ∧ (setSummary bit s).keying = s.keying
      ∧ (setSummary bit s).bus = s.bus
      ∧ (setSummary bit s).handovers = s.handovers
      ∧ (setSummary bit s).ram = s.ram
      ∧ (setSummary bit s).page = s.page := by
  simp [setSummary]

/-- Changes at most ident. -/
@[simp] theorem openWindow_frame (s : State) :
    (openWindow s).pending = s.pending
      ∧ (openWindow s).free = s.free
      ∧ (openWindow s).pins = s.pins
      ∧ (openWindow s).stamp = s.stamp
      ∧ (openWindow s).mode = s.mode
      ∧ (openWindow s).members = s.members
      ∧ (openWindow s).seats = s.seats
      ∧ (openWindow s).plan = s.plan
      ∧ (openWindow s).station = s.station
      ∧ (openWindow s).floor = s.floor
      ∧ (openWindow s).queue = s.queue
      ∧ (openWindow s).duty = s.duty
      ∧ (openWindow s).playout = s.playout
      ∧ (openWindow s).source = s.source
      ∧ (openWindow s).watch = s.watch
      ∧ (openWindow s).tone = s.tone
      ∧ (openWindow s).keying = s.keying
      ∧ (openWindow s).bus = s.bus
      ∧ (openWindow s).handovers = s.handovers
      ∧ (openWindow s).ram = s.ram
      ∧ (openWindow s).port = s.port
      ∧ (openWindow s).page = s.page := by
  unfold openWindow; split <;> simp

/-- Changes at most ident. -/
@[simp] theorem closeWindow_frame (s : State) :
    (closeWindow s).pending = s.pending
      ∧ (closeWindow s).free = s.free
      ∧ (closeWindow s).pins = s.pins
      ∧ (closeWindow s).stamp = s.stamp
      ∧ (closeWindow s).mode = s.mode
      ∧ (closeWindow s).members = s.members
      ∧ (closeWindow s).seats = s.seats
      ∧ (closeWindow s).plan = s.plan
      ∧ (closeWindow s).station = s.station
      ∧ (closeWindow s).floor = s.floor
      ∧ (closeWindow s).queue = s.queue
      ∧ (closeWindow s).duty = s.duty
      ∧ (closeWindow s).playout = s.playout
      ∧ (closeWindow s).source = s.source
      ∧ (closeWindow s).watch = s.watch
      ∧ (closeWindow s).tone = s.tone
      ∧ (closeWindow s).keying = s.keying
      ∧ (closeWindow s).bus = s.bus
      ∧ (closeWindow s).handovers = s.handovers
      ∧ (closeWindow s).ram = s.ram
      ∧ (closeWindow s).port = s.port
      ∧ (closeWindow s).page = s.page := by
  simp [closeWindow]

/-- Changes at most ident. -/
@[simp] theorem startIdentSender_frame (s : State) :
    (startIdentSender s).pending = s.pending
      ∧ (startIdentSender s).free = s.free
      ∧ (startIdentSender s).pins = s.pins
      ∧ (startIdentSender s).stamp = s.stamp
      ∧ (startIdentSender s).mode = s.mode
      ∧ (startIdentSender s).members = s.members
      ∧ (startIdentSender s).seats = s.seats
      ∧ (startIdentSender s).plan = s.plan
      ∧ (startIdentSender s).station = s.station
      ∧ (startIdentSender s).floor = s.floor
      ∧ (startIdentSender s).queue = s.queue
      ∧ (startIdentSender s).duty = s.duty
      ∧ (startIdentSender s).playout = s.playout
      ∧ (startIdentSender s).source = s.source
      ∧ (startIdentSender s).watch = s.watch
      ∧ (startIdentSender s).tone = s.tone
      ∧ (startIdentSender s).keying = s.keying
      ∧ (startIdentSender s).bus = s.bus
      ∧ (startIdentSender s).handovers = s.handovers
      ∧ (startIdentSender s).ram = s.ram
      ∧ (startIdentSender s).port = s.port
      ∧ (startIdentSender s).page = s.page := by
  simp [startIdentSender]

/-- Changes at most ident. -/
@[simp] theorem startOverlaySender_frame (s : State) :
    (startOverlaySender s).pending = s.pending
      ∧ (startOverlaySender s).free = s.free
      ∧ (startOverlaySender s).pins = s.pins
      ∧ (startOverlaySender s).stamp = s.stamp
      ∧ (startOverlaySender s).mode = s.mode
      ∧ (startOverlaySender s).members = s.members
      ∧ (startOverlaySender s).seats = s.seats
      ∧ (startOverlaySender s).plan = s.plan
      ∧ (startOverlaySender s).station = s.station
      ∧ (startOverlaySender s).floor = s.floor
      ∧ (startOverlaySender s).queue = s.queue
      ∧ (startOverlaySender s).duty = s.duty
      ∧ (startOverlaySender s).playout = s.playout
      ∧ (startOverlaySender s).source = s.source
      ∧ (startOverlaySender s).watch = s.watch
      ∧ (startOverlaySender s).tone = s.tone
      ∧ (startOverlaySender s).keying = s.keying
      ∧ (startOverlaySender s).bus = s.bus
      ∧ (startOverlaySender s).handovers = s.handovers
      ∧ (startOverlaySender s).ram = s.ram
      ∧ (startOverlaySender s).port = s.port
      ∧ (startOverlaySender s).page = s.page := by
  simp [startOverlaySender]

/-- Changes at most ident. -/
@[simp] theorem quietSender_frame (s : State) :
    (quietSender s).pending = s.pending
      ∧ (quietSender s).free = s.free
      ∧ (quietSender s).pins = s.pins
      ∧ (quietSender s).stamp = s.stamp
      ∧ (quietSender s).mode = s.mode
      ∧ (quietSender s).members = s.members
      ∧ (quietSender s).seats = s.seats
      ∧ (quietSender s).plan = s.plan
      ∧ (quietSender s).station = s.station
      ∧ (quietSender s).floor = s.floor
      ∧ (quietSender s).queue = s.queue
      ∧ (quietSender s).duty = s.duty
      ∧ (quietSender s).playout = s.playout
      ∧ (quietSender s).source = s.source
      ∧ (quietSender s).watch = s.watch
      ∧ (quietSender s).tone = s.tone
      ∧ (quietSender s).keying = s.keying
      ∧ (quietSender s).bus = s.bus
      ∧ (quietSender s).handovers = s.handovers
      ∧ (quietSender s).ram = s.ram
      ∧ (quietSender s).port = s.port
      ∧ (quietSender s).page = s.page := by
  simp [quietSender]

/-- Changes at most ident. -/
@[simp] theorem maybeOverlay_frame (s : State) :
    (maybeOverlay s).pending = s.pending
      ∧ (maybeOverlay s).free = s.free
      ∧ (maybeOverlay s).pins = s.pins
      ∧ (maybeOverlay s).stamp = s.stamp
      ∧ (maybeOverlay s).mode = s.mode
      ∧ (maybeOverlay s).members = s.members
      ∧ (maybeOverlay s).seats = s.seats
      ∧ (maybeOverlay s).plan = s.plan
      ∧ (maybeOverlay s).station = s.station
      ∧ (maybeOverlay s).floor = s.floor
      ∧ (maybeOverlay s).queue = s.queue
      ∧ (maybeOverlay s).duty = s.duty
      ∧ (maybeOverlay s).playout = s.playout
      ∧ (maybeOverlay s).source = s.source
      ∧ (maybeOverlay s).watch = s.watch
      ∧ (maybeOverlay s).tone = s.tone
      ∧ (maybeOverlay s).keying = s.keying
      ∧ (maybeOverlay s).bus = s.bus
      ∧ (maybeOverlay s).handovers = s.handovers
      ∧ (maybeOverlay s).ram = s.ram
      ∧ (maybeOverlay s).port = s.port
      ∧ (maybeOverlay s).page = s.page := by
  unfold maybeOverlay; split <;> simp

/-- Changes at most seats. -/
@[simp] theorem raiseIdentNotice_frame (snd : Sender) (s : State) :
    (raiseIdentNotice snd s).pending = s.pending
      ∧ (raiseIdentNotice snd s).free = s.free
      ∧ (raiseIdentNotice snd s).pins = s.pins
      ∧ (raiseIdentNotice snd s).stamp = s.stamp
      ∧ (raiseIdentNotice snd s).mode = s.mode
      ∧ (raiseIdentNotice snd s).members = s.members
      ∧ (raiseIdentNotice snd s).plan = s.plan
      ∧ (raiseIdentNotice snd s).station = s.station
      ∧ (raiseIdentNotice snd s).floor = s.floor
      ∧ (raiseIdentNotice snd s).queue = s.queue
      ∧ (raiseIdentNotice snd s).duty = s.duty
      ∧ (raiseIdentNotice snd s).playout = s.playout
      ∧ (raiseIdentNotice snd s).source = s.source
      ∧ (raiseIdentNotice snd s).watch = s.watch
      ∧ (raiseIdentNotice snd s).ident = s.ident
      ∧ (raiseIdentNotice snd s).tone = s.tone
      ∧ (raiseIdentNotice snd s).keying = s.keying
      ∧ (raiseIdentNotice snd s).bus = s.bus
      ∧ (raiseIdentNotice snd s).handovers = s.handovers
      ∧ (raiseIdentNotice snd s).ram = s.ram
      ∧ (raiseIdentNotice snd s).port = s.port
      ∧ (raiseIdentNotice snd s).page = s.page := by
  simp [raiseIdentNotice]

/-- Changes at most bus. -/
@[simp] theorem placeFloorTxn_frame (o : Owner) (m : Message) (s : State) :
    (placeFloorTxn o m s).pending = s.pending
      ∧ (placeFloorTxn o m s).free = s.free
      ∧ (placeFloorTxn o m s).pins = s.pins
      ∧ (placeFloorTxn o m s).stamp = s.stamp
      ∧ (placeFloorTxn o m s).mode = s.mode
      ∧ (placeFloorTxn o m s).members = s.members
      ∧ (placeFloorTxn o m s).seats = s.seats
      ∧ (placeFloorTxn o m s).plan = s.plan
      ∧ (placeFloorTxn o m s).station = s.station
      ∧ (placeFloorTxn o m s).floor = s.floor
      ∧ (placeFloorTxn o m s).queue = s.queue
      ∧ (placeFloorTxn o m s).duty = s.duty
      ∧ (placeFloorTxn o m s).playout = s.playout
      ∧ (placeFloorTxn o m s).source = s.source
      ∧ (placeFloorTxn o m s).watch = s.watch
      ∧ (placeFloorTxn o m s).ident = s.ident
      ∧ (placeFloorTxn o m s).tone = s.tone
      ∧ (placeFloorTxn o m s).keying = s.keying
      ∧ (placeFloorTxn o m s).handovers = s.handovers
      ∧ (placeFloorTxn o m s).ram = s.ram
      ∧ (placeFloorTxn o m s).port = s.port
      ∧ (placeFloorTxn o m s).page = s.page := by
  simp [placeFloorTxn]

/-- Changes at most bus. -/
@[simp] theorem cancelSetup_frame (s : State) :
    (cancelSetup s).pending = s.pending
      ∧ (cancelSetup s).free = s.free
      ∧ (cancelSetup s).pins = s.pins
      ∧ (cancelSetup s).stamp = s.stamp
      ∧ (cancelSetup s).mode = s.mode
      ∧ (cancelSetup s).members = s.members
      ∧ (cancelSetup s).seats = s.seats
      ∧ (cancelSetup s).plan = s.plan
      ∧ (cancelSetup s).station = s.station
      ∧ (cancelSetup s).floor = s.floor
      ∧ (cancelSetup s).queue = s.queue
      ∧ (cancelSetup s).duty = s.duty
      ∧ (cancelSetup s).playout = s.playout
      ∧ (cancelSetup s).source = s.source
      ∧ (cancelSetup s).watch = s.watch
      ∧ (cancelSetup s).ident = s.ident
      ∧ (cancelSetup s).tone = s.tone
      ∧ (cancelSetup s).keying = s.keying
      ∧ (cancelSetup s).handovers = s.handovers
      ∧ (cancelSetup s).ram = s.ram
      ∧ (cancelSetup s).port = s.port
      ∧ (cancelSetup s).page = s.page := by
  simp [cancelSetup]

/-- Changes at most bus. -/
@[simp] theorem withdrawPoll_frame (s : State) :
    (withdrawPoll s).pending = s.pending
      ∧ (withdrawPoll s).free = s.free
      ∧ (withdrawPoll s).pins = s.pins
      ∧ (withdrawPoll s).stamp = s.stamp
      ∧ (withdrawPoll s).mode = s.mode
      ∧ (withdrawPoll s).members = s.members
      ∧ (withdrawPoll s).seats = s.seats
      ∧ (withdrawPoll s).plan = s.plan
      ∧ (withdrawPoll s).station = s.station
      ∧ (withdrawPoll s).floor = s.floor
      ∧ (withdrawPoll s).queue = s.queue
      ∧ (withdrawPoll s).duty = s.duty
      ∧ (withdrawPoll s).playout = s.playout
      ∧ (withdrawPoll s).source = s.source
      ∧ (withdrawPoll s).watch = s.watch
      ∧ (withdrawPoll s).ident = s.ident
      ∧ (withdrawPoll s).tone = s.tone
      ∧ (withdrawPoll s).keying = s.keying
      ∧ (withdrawPoll s).handovers = s.handovers
      ∧ (withdrawPoll s).ram = s.ram
      ∧ (withdrawPoll s).port = s.port
      ∧ (withdrawPoll s).page = s.page := by
  simp [withdrawPoll]

/-- Changes at most bus. -/
@[simp] theorem setBelieved_frame (b : Believed) (s : State) :
    (setBelieved b s).pending = s.pending
      ∧ (setBelieved b s).free = s.free
      ∧ (setBelieved b s).pins = s.pins
      ∧ (setBelieved b s).stamp = s.stamp
      ∧ (setBelieved b s).mode = s.mode
      ∧ (setBelieved b s).members = s.members
      ∧ (setBelieved b s).seats = s.seats
      ∧ (setBelieved b s).plan = s.plan
      ∧ (setBelieved b s).station = s.station
      ∧ (setBelieved b s).floor = s.floor
      ∧ (setBelieved b s).queue = s.queue
      ∧ (setBelieved b s).duty = s.duty
      ∧ (setBelieved b s).playout = s.playout
      ∧ (setBelieved b s).source = s.source
      ∧ (setBelieved b s).watch = s.watch
      ∧ (setBelieved b s).ident = s.ident
      ∧ (setBelieved b s).tone = s.tone
      ∧ (setBelieved b s).keying = s.keying
      ∧ (setBelieved b s).handovers = s.handovers
      ∧ (setBelieved b s).ram = s.ram
      ∧ (setBelieved b s).port = s.port
      ∧ (setBelieved b s).page = s.page := by
  simp [setBelieved]

/-- Changes at most watch. -/
@[simp] theorem restartWindow_frame (s : State) :
    (restartWindow s).pending = s.pending
      ∧ (restartWindow s).free = s.free
      ∧ (restartWindow s).pins = s.pins
      ∧ (restartWindow s).stamp = s.stamp
      ∧ (restartWindow s).mode = s.mode
      ∧ (restartWindow s).members = s.members
      ∧ (restartWindow s).seats = s.seats
      ∧ (restartWindow s).plan = s.plan
      ∧ (restartWindow s).station = s.station
      ∧ (restartWindow s).floor = s.floor
      ∧ (restartWindow s).queue = s.queue
      ∧ (restartWindow s).duty = s.duty
      ∧ (restartWindow s).playout = s.playout
      ∧ (restartWindow s).source = s.source
      ∧ (restartWindow s).ident = s.ident
      ∧ (restartWindow s).tone = s.tone
      ∧ (restartWindow s).keying = s.keying
      ∧ (restartWindow s).bus = s.bus
      ∧ (restartWindow s).handovers = s.handovers
      ∧ (restartWindow s).ram = s.ram
      ∧ (restartWindow s).port = s.port
      ∧ (restartWindow s).page = s.page := by
  simp [restartWindow]

/-- Changes at most seats, floor, playout, watch, page. -/
@[simp] theorem setFloorState_frame (new : FloorState) (s : State) :
    (setFloorState new s).pending = s.pending
      ∧ (setFloorState new s).free = s.free
      ∧ (setFloorState new s).pins = s.pins
      ∧ (setFloorState new s).stamp = s.stamp
      ∧ (setFloorState new s).mode = s.mode
      ∧ (setFloorState new s).members = s.members
      ∧ (setFloorState new s).plan = s.plan
      ∧ (setFloorState new s).station = s.station
      ∧ (setFloorState new s).queue = s.queue
      ∧ (setFloorState new s).duty = s.duty
      ∧ (setFloorState new s).source = s.source
      ∧ (setFloorState new s).ident = s.ident
      ∧ (setFloorState new s).tone = s.tone
      ∧ (setFloorState new s).keying = s.keying
      ∧ (setFloorState new s).bus = s.bus
      ∧ (setFloorState new s).handovers = s.handovers
      ∧ (setFloorState new s).ram = s.ram
      ∧ (setFloorState new s).port = s.port := by
  simp only [setFloorState]; (repeat' split) <;> simp

/-- Changes at most playout, ident, tone, keying, bus. -/
@[simp] theorem unkey_frame (s : State) :
    (unkey s).pending = s.pending
      ∧ (unkey s).free = s.free
      ∧ (unkey s).pins = s.pins
      ∧ (unkey s).stamp = s.stamp
      ∧ (unkey s).mode = s.mode
      ∧ (unkey s).members = s.members
      ∧ (unkey s).seats = s.seats
      ∧ (unkey s).plan = s.plan
      ∧ (unkey s).station = s.station
      ∧ (unkey s).floor = s.floor
      ∧ (unkey s).queue = s.queue
      ∧ (unkey s).duty = s.duty
      ∧ (unkey s).source = s.source
      ∧ (unkey s).watch = s.watch
      ∧ (unkey s).handovers = s.handovers
      ∧ (unkey s).ram = s.ram
      ∧ (unkey s).port = s.port
      ∧ (unkey s).page = s.page := by
  unfold unkey; split <;> simp

/-- Changes at most seats. -/
@[simp] theorem noticePositions_frame (p : Nat) (l : List Entry) (s : State) :
    (noticePositions p l s).pending = s.pending
      ∧ (noticePositions p l s).free = s.free
      ∧ (noticePositions p l s).pins = s.pins
      ∧ (noticePositions p l s).stamp = s.stamp
      ∧ (noticePositions p l s).mode = s.mode
      ∧ (noticePositions p l s).members = s.members
      ∧ (noticePositions p l s).plan = s.plan
      ∧ (noticePositions p l s).station = s.station
      ∧ (noticePositions p l s).floor = s.floor
      ∧ (noticePositions p l s).queue = s.queue
      ∧ (noticePositions p l s).duty = s.duty
      ∧ (noticePositions p l s).playout = s.playout
      ∧ (noticePositions p l s).source = s.source
      ∧ (noticePositions p l s).watch = s.watch
      ∧ (noticePositions p l s).ident = s.ident
      ∧ (noticePositions p l s).tone = s.tone
      ∧ (noticePositions p l s).keying = s.keying
      ∧ (noticePositions p l s).bus = s.bus
      ∧ (noticePositions p l s).handovers = s.handovers
      ∧ (noticePositions p l s).ram = s.ram
      ∧ (noticePositions p l s).port = s.port
      ∧ (noticePositions p l s).page = s.page := by
  refine ⟨?_, ?_, ?_, ?_, ?_, ?_, ?_, ?_, ?_, ?_, ?_, ?_, ?_, ?_, ?_, ?_, ?_, ?_, ?_, ?_, ?_, ?_⟩ <;> (induction l generalizing p s with
    | nil => rfl
    | cons e rest ih => simp [noticePositions, ih])

/-- Changes at most seats, queue. -/
@[simp] theorem joinQueue_frame (e : Entry) (s : State) :
    (joinQueue e s).pending = s.pending
      ∧ (joinQueue e s).free = s.free
      ∧ (joinQueue e s).pins = s.pins
      ∧ (joinQueue e s).stamp = s.stamp
      ∧ (joinQueue e s).mode = s.mode
      ∧ (joinQueue e s).members = s.members
      ∧ (joinQueue e s).plan = s.plan
      ∧ (joinQueue e s).station = s.station
      ∧ (joinQueue e s).floor = s.floor
      ∧ (joinQueue e s).duty = s.duty
      ∧ (joinQueue e s).playout = s.playout
      ∧ (joinQueue e s).source = s.source
      ∧ (joinQueue e s).watch = s.watch
      ∧ (joinQueue e s).ident = s.ident
      ∧ (joinQueue e s).tone = s.tone
      ∧ (joinQueue e s).keying = s.keying
      ∧ (joinQueue e s).bus = s.bus
      ∧ (joinQueue e s).handovers = s.handovers
      ∧ (joinQueue e s).ram = s.ram
      ∧ (joinQueue e s).port = s.port
      ∧ (joinQueue e s).page = s.page := by
  simp [joinQueue]

/-- Changes at most seats, queue. -/
@[simp] theorem removeEntry_frame (seat : SeatNo) (s : State) :
    (removeEntry seat s).pending = s.pending
      ∧ (removeEntry seat s).free = s.free
      ∧ (removeEntry seat s).pins = s.pins
      ∧ (removeEntry seat s).stamp = s.stamp
      ∧ (removeEntry seat s).mode = s.mode
      ∧ (removeEntry seat s).members = s.members
      ∧ (removeEntry seat s).plan = s.plan
      ∧ (removeEntry seat s).station = s.station
      ∧ (removeEntry seat s).floor = s.floor
      ∧ (removeEntry seat s).duty = s.duty
      ∧ (removeEntry seat s).playout = s.playout
      ∧ (removeEntry seat s).source = s.source
      ∧ (removeEntry seat s).watch = s.watch
      ∧ (removeEntry seat s).ident = s.ident
      ∧ (removeEntry seat s).tone = s.tone
      ∧ (removeEntry seat s).keying = s.keying
      ∧ (removeEntry seat s).bus = s.bus
      ∧ (removeEntry seat s).handovers = s.handovers
      ∧ (removeEntry seat s).ram = s.ram
      ∧ (removeEntry seat s).port = s.port
      ∧ (removeEntry seat s).page = s.page := by
  simp [removeEntry]

/-- Changes at most seats, queue. -/
@[simp] theorem endEntry_frame (c : EndCause) (d : EndDetail) (e : Entry) (s : State) :
    (endEntry c d e s).pending = s.pending
      ∧ (endEntry c d e s).free = s.free
      ∧ (endEntry c d e s).pins = s.pins
      ∧ (endEntry c d e s).stamp = s.stamp
      ∧ (endEntry c d e s).mode = s.mode
      ∧ (endEntry c d e s).members = s.members
      ∧ (endEntry c d e s).plan = s.plan
      ∧ (endEntry c d e s).station = s.station
      ∧ (endEntry c d e s).floor = s.floor
      ∧ (endEntry c d e s).duty = s.duty
      ∧ (endEntry c d e s).playout = s.playout
      ∧ (endEntry c d e s).source = s.source
      ∧ (endEntry c d e s).watch = s.watch
      ∧ (endEntry c d e s).ident = s.ident
      ∧ (endEntry c d e s).tone = s.tone
      ∧ (endEntry c d e s).keying = s.keying
      ∧ (endEntry c d e s).bus = s.bus
      ∧ (endEntry c d e s).handovers = s.handovers
      ∧ (endEntry c d e s).ram = s.ram
      ∧ (endEntry c d e s).port = s.port
      ∧ (endEntry c d e s).page = s.page := by
  simp [endEntry]

/-- Changes at most seats, queue. -/
@[simp] theorem endEntries_frame (c : EndCause) (l : List Entry) (s : State) :
    (endEntries c l s).pending = s.pending
      ∧ (endEntries c l s).free = s.free
      ∧ (endEntries c l s).pins = s.pins
      ∧ (endEntries c l s).stamp = s.stamp
      ∧ (endEntries c l s).mode = s.mode
      ∧ (endEntries c l s).members = s.members
      ∧ (endEntries c l s).plan = s.plan
      ∧ (endEntries c l s).station = s.station
      ∧ (endEntries c l s).floor = s.floor
      ∧ (endEntries c l s).duty = s.duty
      ∧ (endEntries c l s).playout = s.playout
      ∧ (endEntries c l s).source = s.source
      ∧ (endEntries c l s).watch = s.watch
      ∧ (endEntries c l s).ident = s.ident
      ∧ (endEntries c l s).tone = s.tone
      ∧ (endEntries c l s).keying = s.keying
      ∧ (endEntries c l s).bus = s.bus
      ∧ (endEntries c l s).handovers = s.handovers
      ∧ (endEntries c l s).ram = s.ram
      ∧ (endEntries c l s).port = s.port
      ∧ (endEntries c l s).page = s.page := by
  refine ⟨?_, ?_, ?_, ?_, ?_, ?_, ?_, ?_, ?_, ?_, ?_, ?_, ?_, ?_, ?_, ?_, ?_, ?_, ?_, ?_, ?_⟩ <;> (induction l generalizing s with
    | nil => rfl
    | cons e rest ih => simp [endEntries, ih])

/-- Changes at most bus. -/
@[simp] theorem closeSetup_frame (c : EndCause) (s : State) :
    (closeSetup c s).pending = s.pending
      ∧ (closeSetup c s).free = s.free
      ∧ (closeSetup c s).pins = s.pins
      ∧ (closeSetup c s).stamp = s.stamp
      ∧ (closeSetup c s).mode = s.mode
      ∧ (closeSetup c s).members = s.members
      ∧ (closeSetup c s).seats = s.seats
      ∧ (closeSetup c s).plan = s.plan
      ∧ (closeSetup c s).station = s.station
      ∧ (closeSetup c s).floor = s.floor
      ∧ (closeSetup c s).queue = s.queue
      ∧ (closeSetup c s).duty = s.duty
      ∧ (closeSetup c s).playout = s.playout
      ∧ (closeSetup c s).source = s.source
      ∧ (closeSetup c s).watch = s.watch
      ∧ (closeSetup c s).ident = s.ident
      ∧ (closeSetup c s).tone = s.tone
      ∧ (closeSetup c s).keying = s.keying
      ∧ (closeSetup c s).handovers = s.handovers
      ∧ (closeSetup c s).ram = s.ram
      ∧ (closeSetup c s).port = s.port
      ∧ (closeSetup c s).page = s.page := by
  simp only [closeSetup]; (repeat' split) <;> simp

/-- Changes at most seats. -/
@[simp] theorem raiseEnd_frame (c : EndCause) (d : EndDetail) (s : State) :
    (raiseEnd c d s).pending = s.pending
      ∧ (raiseEnd c d s).free = s.free
      ∧ (raiseEnd c d s).pins = s.pins
      ∧ (raiseEnd c d s).stamp = s.stamp
      ∧ (raiseEnd c d s).mode = s.mode
      ∧ (raiseEnd c d s).members = s.members
      ∧ (raiseEnd c d s).plan = s.plan
      ∧ (raiseEnd c d s).station = s.station
      ∧ (raiseEnd c d s).floor = s.floor
      ∧ (raiseEnd c d s).queue = s.queue
      ∧ (raiseEnd c d s).duty = s.duty
      ∧ (raiseEnd c d s).playout = s.playout
      ∧ (raiseEnd c d s).source = s.source
      ∧ (raiseEnd c d s).watch = s.watch
      ∧ (raiseEnd c d s).ident = s.ident
      ∧ (raiseEnd c d s).tone = s.tone
      ∧ (raiseEnd c d s).keying = s.keying
      ∧ (raiseEnd c d s).bus = s.bus
      ∧ (raiseEnd c d s).handovers = s.handovers
      ∧ (raiseEnd c d s).ram = s.ram
      ∧ (raiseEnd c d s).port = s.port
      ∧ (raiseEnd c d s).page = s.page := by
  unfold raiseEnd; split <;> simp

/-- Changes at most seats, floor, playout, ident, tone, keying, bus. -/
@[simp] theorem endTurnCore_frame (c : EndCause) (d : EndDetail) (s : State) :
    (endTurnCore c d s).pending = s.pending
      ∧ (endTurnCore c d s).free = s.free
      ∧ (endTurnCore c d s).pins = s.pins
      ∧ (endTurnCore c d s).stamp = s.stamp
      ∧ (endTurnCore c d s).mode = s.mode
      ∧ (endTurnCore c d s).members = s.members
      ∧ (endTurnCore c d s).plan = s.plan
      ∧ (endTurnCore c d s).station = s.station
      ∧ (endTurnCore c d s).queue = s.queue
      ∧ (endTurnCore c d s).duty = s.duty
      ∧ (endTurnCore c d s).source = s.source
      ∧ (endTurnCore c d s).watch = s.watch
      ∧ (endTurnCore c d s).handovers = s.handovers
      ∧ (endTurnCore c d s).ram = s.ram
      ∧ (endTurnCore c d s).port = s.port
      ∧ (endTurnCore c d s).page = s.page := by
  simp [endTurnCore]

/-- Changes at most seats, floor, playout, watch, bus, page. -/
@[simp] theorem enterIdent_frame (s : State) :
    (enterIdent s).pending = s.pending
      ∧ (enterIdent s).free = s.free
      ∧ (enterIdent s).pins = s.pins
      ∧ (enterIdent s).stamp = s.stamp
      ∧ (enterIdent s).mode = s.mode
      ∧ (enterIdent s).members = s.members
      ∧ (enterIdent s).plan = s.plan
      ∧ (enterIdent s).station = s.station
      ∧ (enterIdent s).queue = s.queue
      ∧ (enterIdent s).duty = s.duty
      ∧ (enterIdent s).source = s.source
      ∧ (enterIdent s).ident = s.ident
      ∧ (enterIdent s).tone = s.tone
      ∧ (enterIdent s).keying = s.keying
      ∧ (enterIdent s).handovers = s.handovers
      ∧ (enterIdent s).ram = s.ram
      ∧ (enterIdent s).port = s.port := by
  simp only [enterIdent]; (repeat' split) <;> simp

/-- Changes at most seats, watch. -/
@[simp] theorem beginTurnFigures_frame (seat : SeatNo) (s : State) :
    (beginTurnFigures seat s).pending = s.pending
      ∧ (beginTurnFigures seat s).free = s.free
      ∧ (beginTurnFigures seat s).pins = s.pins
      ∧ (beginTurnFigures seat s).stamp = s.stamp
      ∧ (beginTurnFigures seat s).mode = s.mode
      ∧ (beginTurnFigures seat s).members = s.members
      ∧ (beginTurnFigures seat s).plan = s.plan
      ∧ (beginTurnFigures seat s).station = s.station
      ∧ (beginTurnFigures seat s).floor = s.floor
      ∧ (beginTurnFigures seat s).queue = s.queue
      ∧ (beginTurnFigures seat s).duty = s.duty
      ∧ (beginTurnFigures seat s).playout = s.playout
      ∧ (beginTurnFigures seat s).source = s.source
      ∧ (beginTurnFigures seat s).ident = s.ident
      ∧ (beginTurnFigures seat s).tone = s.tone
      ∧ (beginTurnFigures seat s).keying = s.keying
      ∧ (beginTurnFigures seat s).bus = s.bus
      ∧ (beginTurnFigures seat s).handovers = s.handovers
      ∧ (beginTurnFigures seat s).ram = s.ram
      ∧ (beginTurnFigures seat s).port = s.port
      ∧ (beginTurnFigures seat s).page = s.page := by
  simp [beginTurnFigures]

/-- Changes at most seats, floor, queue, playout, watch, ident, page. -/
@[simp] theorem makeHolder_frame (e : Entry) (g : Grant) (s : State) :
    (makeHolder e g s).pending = s.pending
      ∧ (makeHolder e g s).free = s.free
      ∧ (makeHolder e g s).pins = s.pins
      ∧ (makeHolder e g s).stamp = s.stamp
      ∧ (makeHolder e g s).mode = s.mode
      ∧ (makeHolder e g s).members = s.members
      ∧ (makeHolder e g s).plan = s.plan
      ∧ (makeHolder e g s).station = s.station
      ∧ (makeHolder e g s).duty = s.duty
      ∧ (makeHolder e g s).source = s.source
      ∧ (makeHolder e g s).tone = s.tone
      ∧ (makeHolder e g s).keying = s.keying
      ∧ (makeHolder e g s).bus = s.bus
      ∧ (makeHolder e g s).handovers = s.handovers
      ∧ (makeHolder e g s).ram = s.ram
      ∧ (makeHolder e g s).port = s.port := by
  simp [makeHolder]

/-- Changes at most seats, floor, queue, playout, watch, ident, page. -/
@[simp] theorem serveEntries_frame (l : List Entry) (s : State) :
    (serveEntries l s).pending = s.pending
      ∧ (serveEntries l s).free = s.free
      ∧ (serveEntries l s).pins = s.pins
      ∧ (serveEntries l s).stamp = s.stamp
      ∧ (serveEntries l s).mode = s.mode
      ∧ (serveEntries l s).members = s.members
      ∧ (serveEntries l s).plan = s.plan
      ∧ (serveEntries l s).station = s.station
      ∧ (serveEntries l s).duty = s.duty
      ∧ (serveEntries l s).source = s.source
      ∧ (serveEntries l s).tone = s.tone
      ∧ (serveEntries l s).keying = s.keying
      ∧ (serveEntries l s).bus = s.bus
      ∧ (serveEntries l s).handovers = s.handovers
      ∧ (serveEntries l s).ram = s.ram
      ∧ (serveEntries l s).port = s.port := by
  refine ⟨?_, ?_, ?_, ?_, ?_, ?_, ?_, ?_, ?_, ?_, ?_, ?_, ?_, ?_, ?_, ?_⟩ <;> (induction l generalizing s with
    | nil => simp [serveEntries]
    | cons e rest ih => unfold serveEntries; split <;> simp [ih])

/-- Changes at most seats, floor, queue, playout, watch, ident, bus, page. -/
@[simp] theorem serve_frame (s : State) :
    (serve s).pending = s.pending
      ∧ (serve s).free = s.free
      ∧ (serve s).pins = s.pins
      ∧ (serve s).stamp = s.stamp
      ∧ (serve s).mode = s.mode
      ∧ (serve s).members = s.members
      ∧ (serve s).plan = s.plan
      ∧ (serve s).station = s.station
      ∧ (serve s).duty = s.duty
      ∧ (serve s).source = s.source
      ∧ (serve s).tone = s.tone
      ∧ (serve s).keying = s.keying
      ∧ (serve s).handovers = s.handovers
      ∧ (serve s).ram = s.ram
      ∧ (serve s).port = s.port := by
  simp only [serve]; (repeat' split) <;> simp

/-- Changes at most seats, floor, queue, playout, watch, ident, bus, page. -/
@[simp] theorem enterIdle_frame (s : State) :
    (enterIdle s).pending = s.pending
      ∧ (enterIdle s).free = s.free
      ∧ (enterIdle s).pins = s.pins
      ∧ (enterIdle s).stamp = s.stamp
      ∧ (enterIdle s).mode = s.mode
      ∧ (enterIdle s).members = s.members
      ∧ (enterIdle s).plan = s.plan
      ∧ (enterIdle s).station = s.station
      ∧ (enterIdle s).duty = s.duty
      ∧ (enterIdle s).source = s.source
      ∧ (enterIdle s).tone = s.tone
      ∧ (enterIdle s).keying = s.keying
      ∧ (enterIdle s).handovers = s.handovers
      ∧ (enterIdle s).ram = s.ram
      ∧ (enterIdle s).port = s.port := by
  simp [enterIdle]

/-- Changes at most seats, floor, queue, playout, watch, ident, bus, page. -/
@[simp] theorem queueChanged_frame (s : State) :
    (queueChanged s).pending = s.pending
      ∧ (queueChanged s).free = s.free
      ∧ (queueChanged s).pins = s.pins
      ∧ (queueChanged s).stamp = s.stamp
      ∧ (queueChanged s).mode = s.mode
      ∧ (queueChanged s).members = s.members
      ∧ (queueChanged s).plan = s.plan
      ∧ (queueChanged s).station = s.station
      ∧ (queueChanged s).duty = s.duty
      ∧ (queueChanged s).source = s.source
      ∧ (queueChanged s).tone = s.tone
      ∧ (queueChanged s).keying = s.keying
      ∧ (queueChanged s).handovers = s.handovers
      ∧ (queueChanged s).ram = s.ram
      ∧ (queueChanged s).port = s.port := by
  unfold queueChanged; split <;> simp

/-- Changes at most seats, floor, queue, playout, watch, ident, tone, keying, bus, page. -/
@[simp] theorem endTurn_frame (c : EndCause) (d : EndDetail) (s : State) :
    (endTurn c d s).pending = s.pending
      ∧ (endTurn c d s).free = s.free
      ∧ (endTurn c d s).pins = s.pins
      ∧ (endTurn c d s).stamp = s.stamp
      ∧ (endTurn c d s).mode = s.mode
      ∧ (endTurn c d s).members = s.members
      ∧ (endTurn c d s).plan = s.plan
      ∧ (endTurn c d s).station = s.station
      ∧ (endTurn c d s).duty = s.duty
      ∧ (endTurn c d s).source = s.source
      ∧ (endTurn c d s).handovers = s.handovers
      ∧ (endTurn c d s).ram = s.ram
      ∧ (endTurn c d s).port = s.port := by
  simp [endTurn]

/-- Changes at most seats, floor, playout, watch, ident, tone, keying, bus, page. -/
@[simp] theorem endTurnToIdent_frame (s : State) :
    (endTurnToIdent s).pending = s.pending
      ∧ (endTurnToIdent s).free = s.free
      ∧ (endTurnToIdent s).pins = s.pins
      ∧ (endTurnToIdent s).stamp = s.stamp
      ∧ (endTurnToIdent s).mode = s.mode
      ∧ (endTurnToIdent s).members = s.members
      ∧ (endTurnToIdent s).plan = s.plan
      ∧ (endTurnToIdent s).station = s.station
      ∧ (endTurnToIdent s).queue = s.queue
      ∧ (endTurnToIdent s).duty = s.duty
      ∧ (endTurnToIdent s).source = s.source
      ∧ (endTurnToIdent s).handovers = s.handovers
      ∧ (endTurnToIdent s).ram = s.ram
      ∧ (endTurnToIdent s).port = s.port := by
  simp [endTurnToIdent]

/-- Changes at most seats, floor, queue, playout, watch, ident, tone, keying, bus, page. -/
@[simp] theorem floorDetached_frame (seat : SeatNo) (c : EndCause) (s : State) :
    (floorDetached seat c s).pending = s.pending
      ∧ (floorDetached seat c s).free = s.free
      ∧ (floorDetached seat c s).pins = s.pins
      ∧ (floorDetached seat c s).stamp = s.stamp
      ∧ (floorDetached seat c s).mode = s.mode
      ∧ (floorDetached seat c s).members = s.members
      ∧ (floorDetached seat c s).plan = s.plan
      ∧ (floorDetached seat c s).station = s.station
      ∧ (floorDetached seat c s).duty = s.duty
      ∧ (floorDetached seat c s).source = s.source
      ∧ (floorDetached seat c s).handovers = s.handovers
      ∧ (floorDetached seat c s).ram = s.ram
      ∧ (floorDetached seat c s).port = s.port := by
  simp only [floorDetached]; (repeat' split) <;> simp

/-- Changes at most members, seats, floor, queue, playout, watch, ident, tone, keying, bus, page. -/
@[simp] theorem detachSeat_frame (seat : SeatNo) (c : SeatCause) (s : State) :
    (detachSeat seat c s).pending = s.pending
      ∧ (detachSeat seat c s).free = s.free
      ∧ (detachSeat seat c s).pins = s.pins
      ∧ (detachSeat seat c s).stamp = s.stamp
      ∧ (detachSeat seat c s).mode = s.mode
      ∧ (detachSeat seat c s).plan = s.plan
      ∧ (detachSeat seat c s).station = s.station
      ∧ (detachSeat seat c s).duty = s.duty
      ∧ (detachSeat seat c s).source = s.source
      ∧ (detachSeat seat c s).handovers = s.handovers
      ∧ (detachSeat seat c s).ram = s.ram
      ∧ (detachSeat seat c s).port = s.port := by
  unfold detachSeat; split <;> simp

/-- Changes at most seats, floor, queue, playout, watch, ident, tone, keying, bus, page. -/
@[simp] theorem equipmentReport_frame (d : EquipDetail) (s : State) :
    (equipmentReport d s).pending = s.pending
      ∧ (equipmentReport d s).free = s.free
      ∧ (equipmentReport d s).pins = s.pins
      ∧ (equipmentReport d s).stamp = s.stamp
      ∧ (equipmentReport d s).mode = s.mode
      ∧ (equipmentReport d s).members = s.members
      ∧ (equipmentReport d s).plan = s.plan
      ∧ (equipmentReport d s).station = s.station
      ∧ (equipmentReport d s).duty = s.duty
      ∧ (equipmentReport d s).source = s.source
      ∧ (equipmentReport d s).handovers = s.handovers
      ∧ (equipmentReport d s).ram = s.ram
      ∧ (equipmentReport d s).port = s.port := by
  unfold equipmentReport; split <;> simp

/-- Changes at most keying. -/
@[simp] theorem ampOutOfService_frame (s : State) :
    (ampOutOfService s).pending = s.pending
      ∧ (ampOutOfService s).free = s.free
      ∧ (ampOutOfService s).pins = s.pins
      ∧ (ampOutOfService s).stamp = s.stamp
      ∧ (ampOutOfService s).mode = s.mode
      ∧ (ampOutOfService s).members = s.members
      ∧ (ampOutOfService s).seats = s.seats
      ∧ (ampOutOfService s).plan = s.plan
      ∧ (ampOutOfService s).station = s.station
      ∧ (ampOutOfService s).floor = s.floor
      ∧ (ampOutOfService s).queue = s.queue
      ∧ (ampOutOfService s).duty = s.duty
      ∧ (ampOutOfService s).playout = s.playout
      ∧ (ampOutOfService s).source = s.source
      ∧ (ampOutOfService s).watch = s.watch
      ∧ (ampOutOfService s).ident = s.ident
      ∧ (ampOutOfService s).tone = s.tone
      ∧ (ampOutOfService s).bus = s.bus
      ∧ (ampOutOfService s).handovers = s.handovers
      ∧ (ampOutOfService s).ram = s.ram
      ∧ (ampOutOfService s).port = s.port
      ∧ (ampOutOfService s).page = s.page := by
  simp [ampOutOfService]

/-- Changes at most seats, ram, port. -/
@[simp] theorem writeReport_frame (seat : SeatNo) (s : State) :
    (writeReport seat s).pending = s.pending
      ∧ (writeReport seat s).free = s.free
      ∧ (writeReport seat s).pins = s.pins
      ∧ (writeReport seat s).stamp = s.stamp
      ∧ (writeReport seat s).mode = s.mode
      ∧ (writeReport seat s).members = s.members
      ∧ (writeReport seat s).plan = s.plan
      ∧ (writeReport seat s).station = s.station
      ∧ (writeReport seat s).floor = s.floor
      ∧ (writeReport seat s).queue = s.queue
      ∧ (writeReport seat s).duty = s.duty
      ∧ (writeReport seat s).playout = s.playout
      ∧ (writeReport seat s).source = s.source
      ∧ (writeReport seat s).watch = s.watch
      ∧ (writeReport seat s).ident = s.ident
      ∧ (writeReport seat s).tone = s.tone
      ∧ (writeReport seat s).keying = s.keying
      ∧ (writeReport seat s).bus = s.bus
      ∧ (writeReport seat s).handovers = s.handovers
      ∧ (writeReport seat s).page = s.page := by
  simp only [writeReport]; (repeat' split) <;> simp

/-- Changes at most seats, ram, port. -/
@[simp] theorem composeReport_frame (seat : SeatNo) (s : State) :
    (composeReport seat s).pending = s.pending
      ∧ (composeReport seat s).free = s.free
      ∧ (composeReport seat s).pins = s.pins
      ∧ (composeReport seat s).stamp = s.stamp
      ∧ (composeReport seat s).mode = s.mode
      ∧ (composeReport seat s).members = s.members
      ∧ (composeReport seat s).plan = s.plan
      ∧ (composeReport seat s).station = s.station
      ∧ (composeReport seat s).floor = s.floor
      ∧ (composeReport seat s).queue = s.queue
      ∧ (composeReport seat s).duty = s.duty
      ∧ (composeReport seat s).playout = s.playout
      ∧ (composeReport seat s).source = s.source
      ∧ (composeReport seat s).watch = s.watch
      ∧ (composeReport seat s).ident = s.ident
      ∧ (composeReport seat s).tone = s.tone
      ∧ (composeReport seat s).keying = s.keying
      ∧ (composeReport seat s).bus = s.bus
      ∧ (composeReport seat s).handovers = s.handovers
      ∧ (composeReport seat s).page = s.page := by
  unfold composeReport; split <;> simp
end Sys2Proof.Machine
end

