-- ==== Sys2Proof/Laws/CommandFrames.lean ====
section
/-! SUPPORT. The frames of the audio path, the exchange port, the orders, the events and the station bus:
the fields of the state each operation leaves as they were. Each is one conjunction, so that `simp` reads
off any field. -/

namespace Sys2Proof.Machine

/-- Changes at most seats, ram, port. -/
@[simp] theorem composeReports_frame (s : State) :
    (composeReports s).pending = s.pending
      ∧ (composeReports s).free = s.free
      ∧ (composeReports s).pins = s.pins
      ∧ (composeReports s).stamp = s.stamp
      ∧ (composeReports s).mode = s.mode
      ∧ (composeReports s).members = s.members
      ∧ (composeReports s).plan = s.plan
      ∧ (composeReports s).station = s.station
      ∧ (composeReports s).floor = s.floor
      ∧ (composeReports s).queue = s.queue
      ∧ (composeReports s).duty = s.duty
      ∧ (composeReports s).playout = s.playout
      ∧ (composeReports s).source = s.source
      ∧ (composeReports s).watch = s.watch
      ∧ (composeReports s).ident = s.ident
      ∧ (composeReports s).tone = s.tone
      ∧ (composeReports s).keying = s.keying
      ∧ (composeReports s).bus = s.bus
      ∧ (composeReports s).handovers = s.handovers
      ∧ (composeReports s).page = s.page := by
  refine ⟨?_, ?_, ?_, ?_, ?_, ?_, ?_, ?_, ?_, ?_, ?_, ?_, ?_, ?_, ?_, ?_, ?_, ?_, ?_, ?_⟩ <;> (unfold composeReports; generalize List.finRange 12 = l; induction l generalizing s with
    | nil => rfl
    | cons e rest ih => simp [ih])

/-- Changes at most port, page. -/
@[simp] theorem rewriteBoard_frame (s : State) :
    (rewriteBoard s).pending = s.pending
      ∧ (rewriteBoard s).free = s.free
      ∧ (rewriteBoard s).pins = s.pins
      ∧ (rewriteBoard s).stamp = s.stamp
      ∧ (rewriteBoard s).mode = s.mode
      ∧ (rewriteBoard s).members = s.members
      ∧ (rewriteBoard s).seats = s.seats
      ∧ (rewriteBoard s).plan = s.plan
      ∧ (rewriteBoard s).station = s.station
      ∧ (rewriteBoard s).floor = s.floor
      ∧ (rewriteBoard s).queue = s.queue
      ∧ (rewriteBoard s).duty = s.duty
      ∧ (rewriteBoard s).playout = s.playout
      ∧ (rewriteBoard s).source = s.source
      ∧ (rewriteBoard s).watch = s.watch
      ∧ (rewriteBoard s).ident = s.ident
      ∧ (rewriteBoard s).tone = s.tone
      ∧ (rewriteBoard s).keying = s.keying
      ∧ (rewriteBoard s).bus = s.bus
      ∧ (rewriteBoard s).handovers = s.handovers
      ∧ (rewriteBoard s).ram = s.ram := by
  simp [rewriteBoard]

/-- Changes at most page. -/
@[simp] theorem refreshFigures_frame (s : State) :
    (refreshFigures s).pending = s.pending
      ∧ (refreshFigures s).free = s.free
      ∧ (refreshFigures s).pins = s.pins
      ∧ (refreshFigures s).stamp = s.stamp
      ∧ (refreshFigures s).mode = s.mode
      ∧ (refreshFigures s).members = s.members
      ∧ (refreshFigures s).seats = s.seats
      ∧ (refreshFigures s).plan = s.plan
      ∧ (refreshFigures s).station = s.station
      ∧ (refreshFigures s).floor = s.floor
      ∧ (refreshFigures s).queue = s.queue
      ∧ (refreshFigures s).duty = s.duty
      ∧ (refreshFigures s).playout = s.playout
      ∧ (refreshFigures s).source = s.source
      ∧ (refreshFigures s).watch = s.watch
      ∧ (refreshFigures s).ident = s.ident
      ∧ (refreshFigures s).tone = s.tone
      ∧ (refreshFigures s).keying = s.keying
      ∧ (refreshFigures s).bus = s.bus
      ∧ (refreshFigures s).handovers = s.handovers
      ∧ (refreshFigures s).ram = s.ram
      ∧ (refreshFigures s).port = s.port := by
  simp [refreshFigures]

/-- Changes at most page. -/
@[simp] theorem refreshQ_frame (s : State) :
    (refreshQ s).pending = s.pending
      ∧ (refreshQ s).free = s.free
      ∧ (refreshQ s).pins = s.pins
      ∧ (refreshQ s).stamp = s.stamp
      ∧ (refreshQ s).mode = s.mode
      ∧ (refreshQ s).members = s.members
      ∧ (refreshQ s).seats = s.seats
      ∧ (refreshQ s).plan = s.plan
      ∧ (refreshQ s).station = s.station
      ∧ (refreshQ s).floor = s.floor
      ∧ (refreshQ s).queue = s.queue
      ∧ (refreshQ s).duty = s.duty
      ∧ (refreshQ s).playout = s.playout
      ∧ (refreshQ s).source = s.source
      ∧ (refreshQ s).watch = s.watch
      ∧ (refreshQ s).ident = s.ident
      ∧ (refreshQ s).tone = s.tone
      ∧ (refreshQ s).keying = s.keying
      ∧ (refreshQ s).bus = s.bus
      ∧ (refreshQ s).handovers = s.handovers
      ∧ (refreshQ s).ram = s.ram
      ∧ (refreshQ s).port = s.port := by
  simp [refreshQ]

/-- Changes at most page. -/
@[simp] theorem stampPage_frame (s : State) :
    (stampPage s).pending = s.pending
      ∧ (stampPage s).free = s.free
      ∧ (stampPage s).pins = s.pins
      ∧ (stampPage s).stamp = s.stamp
      ∧ (stampPage s).mode = s.mode
      ∧ (stampPage s).members = s.members
      ∧ (stampPage s).seats = s.seats
      ∧ (stampPage s).plan = s.plan
      ∧ (stampPage s).station = s.station
      ∧ (stampPage s).floor = s.floor
      ∧ (stampPage s).queue = s.queue
      ∧ (stampPage s).duty = s.duty
      ∧ (stampPage s).playout = s.playout
      ∧ (stampPage s).source = s.source
      ∧ (stampPage s).watch = s.watch
      ∧ (stampPage s).ident = s.ident
      ∧ (stampPage s).tone = s.tone
      ∧ (stampPage s).keying = s.keying
      ∧ (stampPage s).bus = s.bus
      ∧ (stampPage s).handovers = s.handovers
      ∧ (stampPage s).ram = s.ram
      ∧ (stampPage s).port = s.port := by
  simp [stampPage]

/-- Changes at most ident. -/
@[simp] theorem settleClosing_frame (before s : State) :
    (settleClosing before s).pending = s.pending
      ∧ (settleClosing before s).free = s.free
      ∧ (settleClosing before s).pins = s.pins
      ∧ (settleClosing before s).stamp = s.stamp
      ∧ (settleClosing before s).mode = s.mode
      ∧ (settleClosing before s).members = s.members
      ∧ (settleClosing before s).seats = s.seats
      ∧ (settleClosing before s).plan = s.plan
      ∧ (settleClosing before s).station = s.station
      ∧ (settleClosing before s).floor = s.floor
      ∧ (settleClosing before s).queue = s.queue
      ∧ (settleClosing before s).duty = s.duty
      ∧ (settleClosing before s).playout = s.playout
      ∧ (settleClosing before s).source = s.source
      ∧ (settleClosing before s).watch = s.watch
      ∧ (settleClosing before s).tone = s.tone
      ∧ (settleClosing before s).keying = s.keying
      ∧ (settleClosing before s).bus = s.bus
      ∧ (settleClosing before s).handovers = s.handovers
      ∧ (settleClosing before s).ram = s.ram
      ∧ (settleClosing before s).port = s.port
      ∧ (settleClosing before s).page = s.page := by
  simp only [settleClosing]; (repeat' split) <;> simp

/-- Changes at most keying, bus. -/
@[simp] theorem settlePoll_frame (s : State) :
    (settlePoll s).pending = s.pending
      ∧ (settlePoll s).free = s.free
      ∧ (settlePoll s).pins = s.pins
      ∧ (settlePoll s).stamp = s.stamp
      ∧ (settlePoll s).mode = s.mode
      ∧ (settlePoll s).members = s.members
      ∧ (settlePoll s).seats = s.seats
      ∧ (settlePoll s).plan = s.plan
      ∧ (settlePoll s).station = s.station
      ∧ (settlePoll s).floor = s.floor
      ∧ (settlePoll s).queue = s.queue
      ∧ (settlePoll s).duty = s.duty
      ∧ (settlePoll s).playout = s.playout
      ∧ (settlePoll s).source = s.source
      ∧ (settlePoll s).watch = s.watch
      ∧ (settlePoll s).ident = s.ident
      ∧ (settlePoll s).tone = s.tone
      ∧ (settlePoll s).handovers = s.handovers
      ∧ (settlePoll s).ram = s.ram
      ∧ (settlePoll s).port = s.port
      ∧ (settlePoll s).page = s.page := by
  simp only [settlePoll]; (repeat' split) <;> simp

/-- Changes at most source, keying. -/
@[simp] theorem settleLines_frame (s : State) :
    (settleLines s).pending = s.pending
      ∧ (settleLines s).free = s.free
      ∧ (settleLines s).pins = s.pins
      ∧ (settleLines s).stamp = s.stamp
      ∧ (settleLines s).mode = s.mode
      ∧ (settleLines s).members = s.members
      ∧ (settleLines s).seats = s.seats
      ∧ (settleLines s).plan = s.plan
      ∧ (settleLines s).station = s.station
      ∧ (settleLines s).floor = s.floor
      ∧ (settleLines s).queue = s.queue
      ∧ (settleLines s).duty = s.duty
      ∧ (settleLines s).playout = s.playout
      ∧ (settleLines s).watch = s.watch
      ∧ (settleLines s).ident = s.ident
      ∧ (settleLines s).tone = s.tone
      ∧ (settleLines s).bus = s.bus
      ∧ (settleLines s).handovers = s.handovers
      ∧ (settleLines s).ram = s.ram
      ∧ (settleLines s).port = s.port
      ∧ (settleLines s).page = s.page := by
  simp [settleLines]

/-- Changes at most port, page. -/
@[simp] theorem settleBoard_frame (before s : State) :
    (settleBoard before s).pending = s.pending
      ∧ (settleBoard before s).free = s.free
      ∧ (settleBoard before s).pins = s.pins
      ∧ (settleBoard before s).stamp = s.stamp
      ∧ (settleBoard before s).mode = s.mode
      ∧ (settleBoard before s).members = s.members
      ∧ (settleBoard before s).seats = s.seats
      ∧ (settleBoard before s).plan = s.plan
      ∧ (settleBoard before s).station = s.station
      ∧ (settleBoard before s).floor = s.floor
      ∧ (settleBoard before s).queue = s.queue
      ∧ (settleBoard before s).duty = s.duty
      ∧ (settleBoard before s).playout = s.playout
      ∧ (settleBoard before s).source = s.source
      ∧ (settleBoard before s).watch = s.watch
      ∧ (settleBoard before s).ident = s.ident
      ∧ (settleBoard before s).tone = s.tone
      ∧ (settleBoard before s).keying = s.keying
      ∧ (settleBoard before s).bus = s.bus
      ∧ (settleBoard before s).handovers = s.handovers
      ∧ (settleBoard before s).ram = s.ram := by
  unfold settleBoard; split <;> simp

/-- Changes at most seats, source, ident, keying, bus, ram, port, page. -/
@[simp] theorem closeAct_frame (before s : State) :
    (closeAct before s).pending = s.pending
      ∧ (closeAct before s).free = s.free
      ∧ (closeAct before s).pins = s.pins
      ∧ (closeAct before s).stamp = s.stamp
      ∧ (closeAct before s).mode = s.mode
      ∧ (closeAct before s).members = s.members
      ∧ (closeAct before s).plan = s.plan
      ∧ (closeAct before s).station = s.station
      ∧ (closeAct before s).floor = s.floor
      ∧ (closeAct before s).queue = s.queue
      ∧ (closeAct before s).duty = s.duty
      ∧ (closeAct before s).playout = s.playout
      ∧ (closeAct before s).watch = s.watch
      ∧ (closeAct before s).tone = s.tone
      ∧ (closeAct before s).handovers = s.handovers := by
  simp [closeAct]

/-- Changes at most seats. -/
@[simp] theorem raiseCounter_frame (seat : SeatNo) (n : CounterName) (s : State) :
    (raiseCounter seat n s).pending = s.pending
      ∧ (raiseCounter seat n s).free = s.free
      ∧ (raiseCounter seat n s).pins = s.pins
      ∧ (raiseCounter seat n s).stamp = s.stamp
      ∧ (raiseCounter seat n s).mode = s.mode
      ∧ (raiseCounter seat n s).members = s.members
      ∧ (raiseCounter seat n s).plan = s.plan
      ∧ (raiseCounter seat n s).station = s.station
      ∧ (raiseCounter seat n s).floor = s.floor
      ∧ (raiseCounter seat n s).queue = s.queue
      ∧ (raiseCounter seat n s).duty = s.duty
      ∧ (raiseCounter seat n s).playout = s.playout
      ∧ (raiseCounter seat n s).source = s.source
      ∧ (raiseCounter seat n s).watch = s.watch
      ∧ (raiseCounter seat n s).ident = s.ident
      ∧ (raiseCounter seat n s).tone = s.tone
      ∧ (raiseCounter seat n s).keying = s.keying
      ∧ (raiseCounter seat n s).bus = s.bus
      ∧ (raiseCounter seat n s).handovers = s.handovers
      ∧ (raiseCounter seat n s).ram = s.ram
      ∧ (raiseCounter seat n s).port = s.port
      ∧ (raiseCounter seat n s).page = s.page := by
  simp [raiseCounter]

/-- Changes at most seats. -/
@[simp] theorem raiseHolderCounter_frame (n : CounterName) (s : State) :
    (raiseHolderCounter n s).pending = s.pending
      ∧ (raiseHolderCounter n s).free = s.free
      ∧ (raiseHolderCounter n s).pins = s.pins
      ∧ (raiseHolderCounter n s).stamp = s.stamp
      ∧ (raiseHolderCounter n s).mode = s.mode
      ∧ (raiseHolderCounter n s).members = s.members
      ∧ (raiseHolderCounter n s).plan = s.plan
      ∧ (raiseHolderCounter n s).station = s.station
      ∧ (raiseHolderCounter n s).floor = s.floor
      ∧ (raiseHolderCounter n s).queue = s.queue
      ∧ (raiseHolderCounter n s).duty = s.duty
      ∧ (raiseHolderCounter n s).playout = s.playout
      ∧ (raiseHolderCounter n s).source = s.source
      ∧ (raiseHolderCounter n s).watch = s.watch
      ∧ (raiseHolderCounter n s).ident = s.ident
      ∧ (raiseHolderCounter n s).tone = s.tone
      ∧ (raiseHolderCounter n s).keying = s.keying
      ∧ (raiseHolderCounter n s).bus = s.bus
      ∧ (raiseHolderCounter n s).handovers = s.handovers
      ∧ (raiseHolderCounter n s).ram = s.ram
      ∧ (raiseHolderCounter n s).port = s.port
      ∧ (raiseHolderCounter n s).page = s.page := by
  unfold raiseHolderCounter; split <;> simp

/-- Changes at most seats, floor, queue, playout, watch, ident, tone, keying, bus, page. -/
@[simp] theorem stall_frame (s : State) :
    (stall s).pending = s.pending
      ∧ (stall s).free = s.free
      ∧ (stall s).pins = s.pins
      ∧ (stall s).stamp = s.stamp
      ∧ (stall s).mode = s.mode
      ∧ (stall s).members = s.members
      ∧ (stall s).plan = s.plan
      ∧ (stall s).station = s.station
      ∧ (stall s).duty = s.duty
      ∧ (stall s).source = s.source
      ∧ (stall s).handovers = s.handovers
      ∧ (stall s).ram = s.ram
      ∧ (stall s).port = s.port := by
  simp only [stall]; (repeat' split) <;> simp

/-- Changes at most seats, watch. -/
@[simp] theorem addCriterion_frame (c : Criterion) (s : State) :
    (addCriterion c s).pending = s.pending
      ∧ (addCriterion c s).free = s.free
      ∧ (addCriterion c s).pins = s.pins
      ∧ (addCriterion c s).stamp = s.stamp
      ∧ (addCriterion c s).mode = s.mode
      ∧ (addCriterion c s).members = s.members
      ∧ (addCriterion c s).plan = s.plan
      ∧ (addCriterion c s).station = s.station
      ∧ (addCriterion c s).floor = s.floor
      ∧ (addCriterion c s).queue = s.queue
      ∧ (addCriterion c s).duty = s.duty
      ∧ (addCriterion c s).playout = s.playout
      ∧ (addCriterion c s).source = s.source
      ∧ (addCriterion c s).ident = s.ident
      ∧ (addCriterion c s).tone = s.tone
      ∧ (addCriterion c s).keying = s.keying
      ∧ (addCriterion c s).bus = s.bus
      ∧ (addCriterion c s).handovers = s.handovers
      ∧ (addCriterion c s).ram = s.ram
      ∧ (addCriterion c s).port = s.port
      ∧ (addCriterion c s).page = s.page := by
  simp only [addCriterion]; (repeat' split) <;> simp

/-- Changes at most seats, floor, queue, playout, watch, ident, tone, keying, bus, page. -/
@[simp] theorem criterionMet_frame (c : Criterion) (s : State) :
    (criterionMet c s).pending = s.pending
      ∧ (criterionMet c s).free = s.free
      ∧ (criterionMet c s).pins = s.pins
      ∧ (criterionMet c s).stamp = s.stamp
      ∧ (criterionMet c s).mode = s.mode
      ∧ (criterionMet c s).members = s.members
      ∧ (criterionMet c s).plan = s.plan
      ∧ (criterionMet c s).station = s.station
      ∧ (criterionMet c s).duty = s.duty
      ∧ (criterionMet c s).source = s.source
      ∧ (criterionMet c s).handovers = s.handovers
      ∧ (criterionMet c s).ram = s.ram
      ∧ (criterionMet c s).port = s.port := by
  simp only [criterionMet]; (repeat' split) <;> simp

/-- Changes at most seats, floor, queue, playout, watch, ident, tone, keying, bus, page. -/
@[simp] theorem disorderSeen_frame (s : State) :
    (disorderSeen s).pending = s.pending
      ∧ (disorderSeen s).free = s.free
      ∧ (disorderSeen s).pins = s.pins
      ∧ (disorderSeen s).stamp = s.stamp
      ∧ (disorderSeen s).mode = s.mode
      ∧ (disorderSeen s).members = s.members
      ∧ (disorderSeen s).plan = s.plan
      ∧ (disorderSeen s).station = s.station
      ∧ (disorderSeen s).duty = s.duty
      ∧ (disorderSeen s).source = s.source
      ∧ (disorderSeen s).handovers = s.handovers
      ∧ (disorderSeen s).ram = s.ram
      ∧ (disorderSeen s).port = s.port := by
  simp only [disorderSeen]; (repeat' split) <;> simp

/-- Changes at most watch. -/
@[simp] theorem countStep_frame (s : State) :
    (countStep s).pending = s.pending
      ∧ (countStep s).free = s.free
      ∧ (countStep s).pins = s.pins
      ∧ (countStep s).stamp = s.stamp
      ∧ (countStep s).mode = s.mode
      ∧ (countStep s).members = s.members
      ∧ (countStep s).seats = s.seats
      ∧ (countStep s).plan = s.plan
      ∧ (countStep s).station = s.station
      ∧ (countStep s).floor = s.floor
      ∧ (countStep s).queue = s.queue
      ∧ (countStep s).duty = s.duty
      ∧ (countStep s).playout = s.playout
      ∧ (countStep s).source = s.source
      ∧ (countStep s).ident = s.ident
      ∧ (countStep s).tone = s.tone
      ∧ (countStep s).keying = s.keying
      ∧ (countStep s).bus = s.bus
      ∧ (countStep s).handovers = s.handovers
      ∧ (countStep s).ram = s.ram
      ∧ (countStep s).port = s.port
      ∧ (countStep s).page = s.page := by
  unfold countStep; split <;> simp

/-- Changes at most seats, watch. -/
@[simp] theorem linkWarning_frame (s : State) :
    (linkWarning s).pending = s.pending
      ∧ (linkWarning s).free = s.free
      ∧ (linkWarning s).pins = s.pins
      ∧ (linkWarning s).stamp = s.stamp
      ∧ (linkWarning s).mode = s.mode
      ∧ (linkWarning s).members = s.members
      ∧ (linkWarning s).plan = s.plan
      ∧ (linkWarning s).station = s.station
      ∧ (linkWarning s).floor = s.floor
      ∧ (linkWarning s).queue = s.queue
      ∧ (linkWarning s).duty = s.duty
      ∧ (linkWarning s).playout = s.playout
      ∧ (linkWarning s).source = s.source
      ∧ (linkWarning s).ident = s.ident
      ∧ (linkWarning s).tone = s.tone
      ∧ (linkWarning s).keying = s.keying
      ∧ (linkWarning s).bus = s.bus
      ∧ (linkWarning s).handovers = s.handovers
      ∧ (linkWarning s).ram = s.ram
      ∧ (linkWarning s).port = s.port
      ∧ (linkWarning s).page = s.page := by
  simp only [linkWarning]; (repeat' split) <;> simp

/-- Changes at most playout. -/
@[simp] theorem finishStep_frame (s : State) :
    (finishStep s).pending = s.pending
      ∧ (finishStep s).free = s.free
      ∧ (finishStep s).pins = s.pins
      ∧ (finishStep s).stamp = s.stamp
      ∧ (finishStep s).mode = s.mode
      ∧ (finishStep s).members = s.members
      ∧ (finishStep s).seats = s.seats
      ∧ (finishStep s).plan = s.plan
      ∧ (finishStep s).station = s.station
      ∧ (finishStep s).floor = s.floor
      ∧ (finishStep s).queue = s.queue
      ∧ (finishStep s).duty = s.duty
      ∧ (finishStep s).source = s.source
      ∧ (finishStep s).watch = s.watch
      ∧ (finishStep s).ident = s.ident
      ∧ (finishStep s).tone = s.tone
      ∧ (finishStep s).keying = s.keying
      ∧ (finishStep s).bus = s.bus
      ∧ (finishStep s).handovers = s.handovers
      ∧ (finishStep s).ram = s.ram
      ∧ (finishStep s).port = s.port
      ∧ (finishStep s).page = s.page := by
  unfold finishStep; split <;> simp

/-- Changes at most seats, playout. -/
@[simp] theorem playFrame_frame (np : BitVec 16) (s : State) :
    (playFrame np s).pending = s.pending
      ∧ (playFrame np s).free = s.free
      ∧ (playFrame np s).pins = s.pins
      ∧ (playFrame np s).stamp = s.stamp
      ∧ (playFrame np s).mode = s.mode
      ∧ (playFrame np s).members = s.members
      ∧ (playFrame np s).plan = s.plan
      ∧ (playFrame np s).station = s.station
      ∧ (playFrame np s).floor = s.floor
      ∧ (playFrame np s).queue = s.queue
      ∧ (playFrame np s).duty = s.duty
      ∧ (playFrame np s).source = s.source
      ∧ (playFrame np s).watch = s.watch
      ∧ (playFrame np s).ident = s.ident
      ∧ (playFrame np s).tone = s.tone
      ∧ (playFrame np s).keying = s.keying
      ∧ (playFrame np s).bus = s.bus
      ∧ (playFrame np s).handovers = s.handovers
      ∧ (playFrame np s).ram = s.ram
      ∧ (playFrame np s).port = s.port
      ∧ (playFrame np s).page = s.page := by
  unfold playFrame; split <;> simp

/-- Changes at most seats, playout. -/
@[simp] theorem trimFrame_frame (s : State) :
    (trimFrame s).pending = s.pending
      ∧ (trimFrame s).free = s.free
      ∧ (trimFrame s).pins = s.pins
      ∧ (trimFrame s).stamp = s.stamp
      ∧ (trimFrame s).mode = s.mode
      ∧ (trimFrame s).members = s.members
      ∧ (trimFrame s).plan = s.plan
      ∧ (trimFrame s).station = s.station
      ∧ (trimFrame s).floor = s.floor
      ∧ (trimFrame s).queue = s.queue
      ∧ (trimFrame s).duty = s.duty
      ∧ (trimFrame s).source = s.source
      ∧ (trimFrame s).watch = s.watch
      ∧ (trimFrame s).ident = s.ident
      ∧ (trimFrame s).tone = s.tone
      ∧ (trimFrame s).keying = s.keying
      ∧ (trimFrame s).bus = s.bus
      ∧ (trimFrame s).handovers = s.handovers
      ∧ (trimFrame s).ram = s.ram
      ∧ (trimFrame s).port = s.port
      ∧ (trimFrame s).page = s.page := by
  unfold trimFrame; split <;> simp

/-- Changes at most seats, playout. -/
@[simp] theorem trimTest_frame (s : State) :
    (trimTest s).pending = s.pending
      ∧ (trimTest s).free = s.free
      ∧ (trimTest s).pins = s.pins
      ∧ (trimTest s).stamp = s.stamp
      ∧ (trimTest s).mode = s.mode
      ∧ (trimTest s).members = s.members
      ∧ (trimTest s).plan = s.plan
      ∧ (trimTest s).station = s.station
      ∧ (trimTest s).floor = s.floor
      ∧ (trimTest s).queue = s.queue
      ∧ (trimTest s).duty = s.duty
      ∧ (trimTest s).source = s.source
      ∧ (trimTest s).watch = s.watch
      ∧ (trimTest s).ident = s.ident
      ∧ (trimTest s).tone = s.tone
      ∧ (trimTest s).keying = s.keying
      ∧ (trimTest s).bus = s.bus
      ∧ (trimTest s).handovers = s.handovers
      ∧ (trimTest s).ram = s.ram
      ∧ (trimTest s).port = s.port
      ∧ (trimTest s).page = s.page := by
  simp only [trimTest]; (repeat' split) <;> simp

/-- Changes at most seats, floor, queue, playout, watch, ident, tone, keying, bus, page. -/
@[simp] theorem watchStep_frame (silent : Bool) (s : State) :
    (watchStep silent s).pending = s.pending
      ∧ (watchStep silent s).free = s.free
      ∧ (watchStep silent s).pins = s.pins
      ∧ (watchStep silent s).stamp = s.stamp
      ∧ (watchStep silent s).mode = s.mode
      ∧ (watchStep silent s).members = s.members
      ∧ (watchStep silent s).plan = s.plan
      ∧ (watchStep silent s).station = s.station
      ∧ (watchStep silent s).duty = s.duty
      ∧ (watchStep silent s).source = s.source
      ∧ (watchStep silent s).handovers = s.handovers
      ∧ (watchStep silent s).ram = s.ram
      ∧ (watchStep silent s).port = s.port := by
  simp only [watchStep]; (repeat' split) <;> simp

/-- Changes at most seats, floor, queue, playout, watch, ident, tone, keying, bus, page. -/
@[simp] theorem playoutStep_frame (s : State) :
    (playoutStep s).pending = s.pending
      ∧ (playoutStep s).free = s.free
      ∧ (playoutStep s).pins = s.pins
      ∧ (playoutStep s).stamp = s.stamp
      ∧ (playoutStep s).mode = s.mode
      ∧ (playoutStep s).members = s.members
      ∧ (playoutStep s).plan = s.plan
      ∧ (playoutStep s).station = s.station
      ∧ (playoutStep s).duty = s.duty
      ∧ (playoutStep s).source = s.source
      ∧ (playoutStep s).handovers = s.handovers
      ∧ (playoutStep s).ram = s.ram
      ∧ (playoutStep s).port = s.port := by
  simp only [playoutStep]; (repeat' split) <;> simp

/-- Changes at most tone. -/
@[simp] theorem startTuneTone_frame (s : State) :
    (startTuneTone s).pending = s.pending
      ∧ (startTuneTone s).free = s.free
      ∧ (startTuneTone s).pins = s.pins
      ∧ (startTuneTone s).stamp = s.stamp
      ∧ (startTuneTone s).mode = s.mode
      ∧ (startTuneTone s).members = s.members
      ∧ (startTuneTone s).seats = s.seats
      ∧ (startTuneTone s).plan = s.plan
      ∧ (startTuneTone s).station = s.station
      ∧ (startTuneTone s).floor = s.floor
      ∧ (startTuneTone s).queue = s.queue
      ∧ (startTuneTone s).duty = s.duty
      ∧ (startTuneTone s).playout = s.playout
      ∧ (startTuneTone s).source = s.source
      ∧ (startTuneTone s).watch = s.watch
      ∧ (startTuneTone s).ident = s.ident
      ∧ (startTuneTone s).keying = s.keying
      ∧ (startTuneTone s).bus = s.bus
      ∧ (startTuneTone s).handovers = s.handovers
      ∧ (startTuneTone s).ram = s.ram
      ∧ (startTuneTone s).port = s.port
      ∧ (startTuneTone s).page = s.page := by
  simp [startTuneTone]

/-- Changes at most seats, floor, queue, playout, watch, ident, tone, keying, bus, page. -/
@[simp] theorem enterKeyed_frame (s : State) :
    (enterKeyed s).pending = s.pending
      ∧ (enterKeyed s).free = s.free
      ∧ (enterKeyed s).pins = s.pins
      ∧ (enterKeyed s).stamp = s.stamp
      ∧ (enterKeyed s).mode = s.mode
      ∧ (enterKeyed s).members = s.members
      ∧ (enterKeyed s).plan = s.plan
      ∧ (enterKeyed s).station = s.station
      ∧ (enterKeyed s).duty = s.duty
      ∧ (enterKeyed s).source = s.source
      ∧ (enterKeyed s).handovers = s.handovers
      ∧ (enterKeyed s).ram = s.ram
      ∧ (enterKeyed s).port = s.port := by
  simp only [enterKeyed]; (repeat' split) <;> simp

/-- Changes at most seats, floor, queue, playout, watch, ident, tone, keying, bus, page. -/
@[simp] theorem takeAmpFault_frame (s : State) :
    (takeAmpFault s).pending = s.pending
      ∧ (takeAmpFault s).free = s.free
      ∧ (takeAmpFault s).pins = s.pins
      ∧ (takeAmpFault s).stamp = s.stamp
      ∧ (takeAmpFault s).mode = s.mode
      ∧ (takeAmpFault s).members = s.members
      ∧ (takeAmpFault s).plan = s.plan
      ∧ (takeAmpFault s).station = s.station
      ∧ (takeAmpFault s).duty = s.duty
      ∧ (takeAmpFault s).source = s.source
      ∧ (takeAmpFault s).handovers = s.handovers
      ∧ (takeAmpFault s).ram = s.ram
      ∧ (takeAmpFault s).port = s.port := by
  simp [takeAmpFault]

/-- Changes at most ident, keying. -/
@[simp] theorem assertPtt_frame (s : State) :
    (assertPtt s).pending = s.pending
      ∧ (assertPtt s).free = s.free
      ∧ (assertPtt s).pins = s.pins
      ∧ (assertPtt s).stamp = s.stamp
      ∧ (assertPtt s).mode = s.mode
      ∧ (assertPtt s).members = s.members
      ∧ (assertPtt s).seats = s.seats
      ∧ (assertPtt s).plan = s.plan
      ∧ (assertPtt s).station = s.station
      ∧ (assertPtt s).floor = s.floor
      ∧ (assertPtt s).queue = s.queue
      ∧ (assertPtt s).duty = s.duty
      ∧ (assertPtt s).playout = s.playout
      ∧ (assertPtt s).source = s.source
      ∧ (assertPtt s).watch = s.watch
      ∧ (assertPtt s).tone = s.tone
      ∧ (assertPtt s).bus = s.bus
      ∧ (assertPtt s).handovers = s.handovers
      ∧ (assertPtt s).ram = s.ram
      ∧ (assertPtt s).port = s.port
      ∧ (assertPtt s).page = s.page := by
  simp only [assertPtt]; (repeat' split) <;> simp

/-- Changes at most seats, floor, queue, playout, watch, ident, tone, keying, bus, page. -/
@[simp] theorem keyRequest_frame (s : State) :
    (keyRequest s).pending = s.pending
      ∧ (keyRequest s).free = s.free
      ∧ (keyRequest s).pins = s.pins
      ∧ (keyRequest s).stamp = s.stamp
      ∧ (keyRequest s).mode = s.mode
      ∧ (keyRequest s).members = s.members
      ∧ (keyRequest s).plan = s.plan
      ∧ (keyRequest s).station = s.station
      ∧ (keyRequest s).duty = s.duty
      ∧ (keyRequest s).source = s.source
      ∧ (keyRequest s).handovers = s.handovers
      ∧ (keyRequest s).ram = s.ram
      ∧ (keyRequest s).port = s.port := by
  simp only [keyRequest]; (repeat' split) <;> simp

/-- Changes at most seats, floor, playout, watch, page. -/
@[simp] theorem enterGranted_frame (s : State) :
    (enterGranted s).pending = s.pending
      ∧ (enterGranted s).free = s.free
      ∧ (enterGranted s).pins = s.pins
      ∧ (enterGranted s).stamp = s.stamp
      ∧ (enterGranted s).mode = s.mode
      ∧ (enterGranted s).members = s.members
      ∧ (enterGranted s).plan = s.plan
      ∧ (enterGranted s).station = s.station
      ∧ (enterGranted s).queue = s.queue
      ∧ (enterGranted s).duty = s.duty
      ∧ (enterGranted s).source = s.source
      ∧ (enterGranted s).ident = s.ident
      ∧ (enterGranted s).tone = s.tone
      ∧ (enterGranted s).keying = s.keying
      ∧ (enterGranted s).bus = s.bus
      ∧ (enterGranted s).handovers = s.handovers
      ∧ (enterGranted s).ram = s.ram
      ∧ (enterGranted s).port = s.port := by
  simp [enterGranted]

/-- Changes at most seats, floor, queue, playout, watch, ident, tone, keying, bus, page. -/
@[simp] theorem enterOnAir_frame (s : State) :
    (enterOnAir s).pending = s.pending
      ∧ (enterOnAir s).free = s.free
      ∧ (enterOnAir s).pins = s.pins
      ∧ (enterOnAir s).stamp = s.stamp
      ∧ (enterOnAir s).mode = s.mode
      ∧ (enterOnAir s).members = s.members
      ∧ (enterOnAir s).plan = s.plan
      ∧ (enterOnAir s).station = s.station
      ∧ (enterOnAir s).duty = s.duty
      ∧ (enterOnAir s).source = s.source
      ∧ (enterOnAir s).handovers = s.handovers
      ∧ (enterOnAir s).ram = s.ram
      ∧ (enterOnAir s).port = s.port := by
  simp [enterOnAir]

/-- Changes at most seats, floor, queue, playout, watch, ident, tone, keying, bus, page. -/
@[simp] theorem startThreshold_frame (s : State) :
    (startThreshold s).pending = s.pending
      ∧ (startThreshold s).free = s.free
      ∧ (startThreshold s).pins = s.pins
      ∧ (startThreshold s).stamp = s.stamp
      ∧ (startThreshold s).mode = s.mode
      ∧ (startThreshold s).members = s.members
      ∧ (startThreshold s).plan = s.plan
      ∧ (startThreshold s).station = s.station
      ∧ (startThreshold s).duty = s.duty
      ∧ (startThreshold s).source = s.source
      ∧ (startThreshold s).handovers = s.handovers
      ∧ (startThreshold s).ram = s.ram
      ∧ (startThreshold s).port = s.port := by
  unfold startThreshold; split <;> simp

/-- Changes at most seats, floor, queue, playout, watch, ident, tone, keying, bus, page. -/
@[simp] theorem setupComplete_frame (s : State) :
    (setupComplete s).pending = s.pending
      ∧ (setupComplete s).free = s.free
      ∧ (setupComplete s).pins = s.pins
      ∧ (setupComplete s).stamp = s.stamp
      ∧ (setupComplete s).mode = s.mode
      ∧ (setupComplete s).members = s.members
      ∧ (setupComplete s).plan = s.plan
      ∧ (setupComplete s).station = s.station
      ∧ (setupComplete s).duty = s.duty
      ∧ (setupComplete s).source = s.source
      ∧ (setupComplete s).handovers = s.handovers
      ∧ (setupComplete s).ram = s.ram
      ∧ (setupComplete s).port = s.port := by
  unfold setupComplete; split <;> simp

/-- Changes at most seats, playout. -/
@[simp] theorem insertFrame_frame (seat : SeatNo) (f : Frame) (s : State) :
    (insertFrame seat f s).pending = s.pending
      ∧ (insertFrame seat f s).free = s.free
      ∧ (insertFrame seat f s).pins = s.pins
      ∧ (insertFrame seat f s).stamp = s.stamp
      ∧ (insertFrame seat f s).mode = s.mode
      ∧ (insertFrame seat f s).members = s.members
      ∧ (insertFrame seat f s).plan = s.plan
      ∧ (insertFrame seat f s).station = s.station
      ∧ (insertFrame seat f s).floor = s.floor
      ∧ (insertFrame seat f s).queue = s.queue
      ∧ (insertFrame seat f s).duty = s.duty
      ∧ (insertFrame seat f s).source = s.source
      ∧ (insertFrame seat f s).watch = s.watch
      ∧ (insertFrame seat f s).ident = s.ident
      ∧ (insertFrame seat f s).tone = s.tone
      ∧ (insertFrame seat f s).keying = s.keying
      ∧ (insertFrame seat f s).bus = s.bus
      ∧ (insertFrame seat f s).handovers = s.handovers
      ∧ (insertFrame seat f s).ram = s.ram
      ∧ (insertFrame seat f s).port = s.port
      ∧ (insertFrame seat f s).page = s.page := by
  simp [insertFrame]

/-- Changes at most seats, floor, queue, playout, watch, ident, tone, keying, bus, page. -/
@[simp] theorem reportThreshold_frame (s : State) :
    (reportThreshold s).pending = s.pending
      ∧ (reportThreshold s).free = s.free
      ∧ (reportThreshold s).pins = s.pins
      ∧ (reportThreshold s).stamp = s.stamp
      ∧ (reportThreshold s).mode = s.mode
      ∧ (reportThreshold s).members = s.members
      ∧ (reportThreshold s).plan = s.plan
      ∧ (reportThreshold s).station = s.station
      ∧ (reportThreshold s).duty = s.duty
      ∧ (reportThreshold s).source = s.source
      ∧ (reportThreshold s).handovers = s.handovers
      ∧ (reportThreshold s).ram = s.ram
      ∧ (reportThreshold s).port = s.port := by
  unfold reportThreshold; split <;> simp

/-- Changes at most seats, playout. -/
@[simp] theorem resyncStream_frame (seat : SeatNo) (f : Frame) (s : State) :
    (resyncStream seat f s).pending = s.pending
      ∧ (resyncStream seat f s).free = s.free
      ∧ (resyncStream seat f s).pins = s.pins
      ∧ (resyncStream seat f s).stamp = s.stamp
      ∧ (resyncStream seat f s).mode = s.mode
      ∧ (resyncStream seat f s).members = s.members
      ∧ (resyncStream seat f s).plan = s.plan
      ∧ (resyncStream seat f s).station = s.station
      ∧ (resyncStream seat f s).floor = s.floor
      ∧ (resyncStream seat f s).queue = s.queue
      ∧ (resyncStream seat f s).duty = s.duty
      ∧ (resyncStream seat f s).source = s.source
      ∧ (resyncStream seat f s).watch = s.watch
      ∧ (resyncStream seat f s).ident = s.ident
      ∧ (resyncStream seat f s).tone = s.tone
      ∧ (resyncStream seat f s).keying = s.keying
      ∧ (resyncStream seat f s).bus = s.bus
      ∧ (resyncStream seat f s).handovers = s.handovers
      ∧ (resyncStream seat f s).ram = s.ram
      ∧ (resyncStream seat f s).port = s.port
      ∧ (resyncStream seat f s).page = s.page := by
  simp [resyncStream]

/-- Changes at most free, seats, floor, queue, playout, watch, ident, tone, keying, bus, page. -/
@[simp] theorem resyncReports_frame (s : State) :
    (resyncReports s).pending = s.pending
      ∧ (resyncReports s).pins = s.pins
      ∧ (resyncReports s).stamp = s.stamp
      ∧ (resyncReports s).mode = s.mode
      ∧ (resyncReports s).members = s.members
      ∧ (resyncReports s).plan = s.plan
      ∧ (resyncReports s).station = s.station
      ∧ (resyncReports s).duty = s.duty
      ∧ (resyncReports s).source = s.source
      ∧ (resyncReports s).handovers = s.handovers
      ∧ (resyncReports s).ram = s.ram
      ∧ (resyncReports s).port = s.port := by
  simp only [resyncReports]; (repeat' split) <;> simp

/-- Changes at most free, seats, floor, queue, playout, watch, ident, tone, keying, bus, page. -/
@[simp] theorem placeFrame_frame (seat : SeatNo) (f : Frame) (s : State) :
    (placeFrame seat f s).pending = s.pending
      ∧ (placeFrame seat f s).pins = s.pins
      ∧ (placeFrame seat f s).stamp = s.stamp
      ∧ (placeFrame seat f s).mode = s.mode
      ∧ (placeFrame seat f s).members = s.members
      ∧ (placeFrame seat f s).plan = s.plan
      ∧ (placeFrame seat f s).station = s.station
      ∧ (placeFrame seat f s).duty = s.duty
      ∧ (placeFrame seat f s).source = s.source
      ∧ (placeFrame seat f s).handovers = s.handovers
      ∧ (placeFrame seat f s).ram = s.ram
      ∧ (placeFrame seat f s).port = s.port := by
  simp only [placeFrame]; (repeat' split) <;> simp

/-- Changes at most free, seats, floor, queue, playout, watch, ident, tone, keying, bus, page. -/
@[simp] theorem takeAudioCell_frame (seat : SeatNo) (cell : AudioCellNo) (s : State) :
    (takeAudioCell seat cell s).pending = s.pending
      ∧ (takeAudioCell seat cell s).pins = s.pins
      ∧ (takeAudioCell seat cell s).stamp = s.stamp
      ∧ (takeAudioCell seat cell s).mode = s.mode
      ∧ (takeAudioCell seat cell s).members = s.members
      ∧ (takeAudioCell seat cell s).plan = s.plan
      ∧ (takeAudioCell seat cell s).station = s.station
      ∧ (takeAudioCell seat cell s).duty = s.duty
      ∧ (takeAudioCell seat cell s).source = s.source
      ∧ (takeAudioCell seat cell s).handovers = s.handovers
      ∧ (takeAudioCell seat cell s).ram = s.ram
      ∧ (takeAudioCell seat cell s).port = s.port := by
  simp only [takeAudioCell]; (repeat' split) <;> simp

/-- Changes at most port. -/
@[simp] theorem refuseWrite_frame (a : Nat) (s : State) :
    (refuseWrite a s).pending = s.pending
      ∧ (refuseWrite a s).free = s.free
      ∧ (refuseWrite a s).pins = s.pins
      ∧ (refuseWrite a s).stamp = s.stamp
      ∧ (refuseWrite a s).mode = s.mode
      ∧ (refuseWrite a s).members = s.members
      ∧ (refuseWrite a s).seats = s.seats
      ∧ (refuseWrite a s).plan = s.plan
      ∧ (refuseWrite a s).station = s.station
      ∧ (refuseWrite a s).floor = s.floor
      ∧ (refuseWrite a s).queue = s.queue
      ∧ (refuseWrite a s).duty = s.duty
      ∧ (refuseWrite a s).playout = s.playout
      ∧ (refuseWrite a s).source = s.source
      ∧ (refuseWrite a s).watch = s.watch
      ∧ (refuseWrite a s).ident = s.ident
      ∧ (refuseWrite a s).tone = s.tone
      ∧ (refuseWrite a s).keying = s.keying
      ∧ (refuseWrite a s).bus = s.bus
      ∧ (refuseWrite a s).handovers = s.handovers
      ∧ (refuseWrite a s).ram = s.ram
      ∧ (refuseWrite a s).page = s.page := by
  unfold refuseWrite; split <;> simp

/-- Changes at most ram, port. -/
@[simp] theorem returnBusCell_frame (n : BusCellNo) (r : CellResult) (b : List Byte) (s : State) :
    (returnBusCell n r b s).pending = s.pending
      ∧ (returnBusCell n r b s).free = s.free
      ∧ (returnBusCell n r b s).pins = s.pins
      ∧ (returnBusCell n r b s).stamp = s.stamp
      ∧ (returnBusCell n r b s).mode = s.mode
      ∧ (returnBusCell n r b s).members = s.members
      ∧ (returnBusCell n r b s).seats = s.seats
      ∧ (returnBusCell n r b s).plan = s.plan
      ∧ (returnBusCell n r b s).station = s.station
      ∧ (returnBusCell n r b s).floor = s.floor
      ∧ (returnBusCell n r b s).queue = s.queue
      ∧ (returnBusCell n r b s).duty = s.duty
      ∧ (returnBusCell n r b s).playout = s.playout
      ∧ (returnBusCell n r b s).source = s.source
      ∧ (returnBusCell n r b s).watch = s.watch
      ∧ (returnBusCell n r b s).ident = s.ident
      ∧ (returnBusCell n r b s).tone = s.tone
      ∧ (returnBusCell n r b s).keying = s.keying
      ∧ (returnBusCell n r b s).bus = s.bus
      ∧ (returnBusCell n r b s).handovers = s.handovers
      ∧ (returnBusCell n r b s).page = s.page := by
  simp [returnBusCell]

/-- Changes at most port. -/
@[simp] theorem readTransaction_frame (a n : Nat) (s : State) :
    (readTransaction a n s).pending = s.pending
      ∧ (readTransaction a n s).free = s.free
      ∧ (readTransaction a n s).pins = s.pins
      ∧ (readTransaction a n s).stamp = s.stamp
      ∧ (readTransaction a n s).mode = s.mode
      ∧ (readTransaction a n s).members = s.members
      ∧ (readTransaction a n s).seats = s.seats
      ∧ (readTransaction a n s).plan = s.plan
      ∧ (readTransaction a n s).station = s.station
      ∧ (readTransaction a n s).floor = s.floor
      ∧ (readTransaction a n s).queue = s.queue
      ∧ (readTransaction a n s).duty = s.duty
      ∧ (readTransaction a n s).playout = s.playout
      ∧ (readTransaction a n s).source = s.source
      ∧ (readTransaction a n s).watch = s.watch
      ∧ (readTransaction a n s).ident = s.ident
      ∧ (readTransaction a n s).tone = s.tone
      ∧ (readTransaction a n s).keying = s.keying
      ∧ (readTransaction a n s).bus = s.bus
      ∧ (readTransaction a n s).handovers = s.handovers
      ∧ (readTransaction a n s).ram = s.ram
      ∧ (readTransaction a n s).page = s.page := by
  simp [readTransaction]

/-- Changes at most bus, ram, port. -/
@[simp] theorem judgeBusCell_frame (n : BusCellNo) (s : State) :
    (judgeBusCell n s).pending = s.pending
      ∧ (judgeBusCell n s).free = s.free
      ∧ (judgeBusCell n s).pins = s.pins
      ∧ (judgeBusCell n s).stamp = s.stamp
      ∧ (judgeBusCell n s).mode = s.mode
      ∧ (judgeBusCell n s).members = s.members
      ∧ (judgeBusCell n s).seats = s.seats
      ∧ (judgeBusCell n s).plan = s.plan
      ∧ (judgeBusCell n s).station = s.station
      ∧ (judgeBusCell n s).floor = s.floor
      ∧ (judgeBusCell n s).queue = s.queue
      ∧ (judgeBusCell n s).duty = s.duty
      ∧ (judgeBusCell n s).playout = s.playout
      ∧ (judgeBusCell n s).source = s.source
      ∧ (judgeBusCell n s).watch = s.watch
      ∧ (judgeBusCell n s).ident = s.ident
      ∧ (judgeBusCell n s).tone = s.tone
      ∧ (judgeBusCell n s).keying = s.keying
      ∧ (judgeBusCell n s).handovers = s.handovers
      ∧ (judgeBusCell n s).page = s.page := by
  unfold judgeBusCell; split <;> simp

/-- Changes at most free, seats, floor, queue, playout, watch, ident, tone, keying, bus, handovers, ram, port, page. -/
@[simp] theorem acceptHandover_frame (c : CellRef) (s : State) :
    (acceptHandover c s).pending = s.pending
      ∧ (acceptHandover c s).pins = s.pins
      ∧ (acceptHandover c s).stamp = s.stamp
      ∧ (acceptHandover c s).mode = s.mode
      ∧ (acceptHandover c s).members = s.members
      ∧ (acceptHandover c s).plan = s.plan
      ∧ (acceptHandover c s).station = s.station
      ∧ (acceptHandover c s).duty = s.duty
      ∧ (acceptHandover c s).source = s.source := by
  unfold acceptHandover; split <;> simp

/-- Changes at most free, seats, floor, queue, playout, watch, ident, tone, keying, bus, handovers, ram, port, page. -/
@[simp] theorem writeToHandover_frame (c : CellRef) (v : Byte) (s : State) :
    (writeToHandover c v s).pending = s.pending
      ∧ (writeToHandover c v s).pins = s.pins
      ∧ (writeToHandover c v s).stamp = s.stamp
      ∧ (writeToHandover c v s).mode = s.mode
      ∧ (writeToHandover c v s).members = s.members
      ∧ (writeToHandover c v s).plan = s.plan
      ∧ (writeToHandover c v s).station = s.station
      ∧ (writeToHandover c v s).duty = s.duty
      ∧ (writeToHandover c v s).source = s.source := by
  unfold writeToHandover; split <;> simp

/-- Changes at most free, seats, floor, queue, playout, watch, ident, tone, keying, bus, handovers, ram, port, page. -/
@[simp] theorem ramWrite_frame (a : Nat) (v : Byte) (s : State) :
    (ramWrite a v s).pending = s.pending
      ∧ (ramWrite a v s).pins = s.pins
      ∧ (ramWrite a v s).stamp = s.stamp
      ∧ (ramWrite a v s).mode = s.mode
      ∧ (ramWrite a v s).members = s.members
      ∧ (ramWrite a v s).plan = s.plan
      ∧ (ramWrite a v s).station = s.station
      ∧ (ramWrite a v s).duty = s.duty
      ∧ (ramWrite a v s).source = s.source := by
  simp only [ramWrite]; (repeat' split) <;> simp

/-- Changes at most port. -/
@[simp] theorem clearSummary_frame (ones : BitVec 16) (s : State) :
    (clearSummary ones s).pending = s.pending
      ∧ (clearSummary ones s).free = s.free
      ∧ (clearSummary ones s).pins = s.pins
      ∧ (clearSummary ones s).stamp = s.stamp
      ∧ (clearSummary ones s).mode = s.mode
      ∧ (clearSummary ones s).members = s.members
      ∧ (clearSummary ones s).seats = s.seats
      ∧ (clearSummary ones s).plan = s.plan
      ∧ (clearSummary ones s).station = s.station
      ∧ (clearSummary ones s).floor = s.floor
      ∧ (clearSummary ones s).queue = s.queue
      ∧ (clearSummary ones s).duty = s.duty
      ∧ (clearSummary ones s).playout = s.playout
      ∧ (clearSummary ones s).source = s.source
      ∧ (clearSummary ones s).watch = s.watch
      ∧ (clearSummary ones s).ident = s.ident
      ∧ (clearSummary ones s).tone = s.tone
      ∧ (clearSummary ones s).keying = s.keying
      ∧ (clearSummary ones s).bus = s.bus
      ∧ (clearSummary ones s).handovers = s.handovers
      ∧ (clearSummary ones s).ram = s.ram
      ∧ (clearSummary ones s).page = s.page := by
  simp [clearSummary]

/-- Changes at most port. -/
@[simp] theorem storeMask_frame (h : Bool) (v : Byte) (s : State) :
    (storeMask h v s).pending = s.pending
      ∧ (storeMask h v s).free = s.free
      ∧ (storeMask h v s).pins = s.pins
      ∧ (storeMask h v s).stamp = s.stamp
      ∧ (storeMask h v s).mode = s.mode
      ∧ (storeMask h v s).members = s.members
      ∧ (storeMask h v s).seats = s.seats
      ∧ (storeMask h v s).plan = s.plan
      ∧ (storeMask h v s).station = s.station
      ∧ (storeMask h v s).floor = s.floor
      ∧ (storeMask h v s).queue = s.queue
      ∧ (storeMask h v s).duty = s.duty
      ∧ (storeMask h v s).playout = s.playout
      ∧ (storeMask h v s).source = s.source
      ∧ (storeMask h v s).watch = s.watch
      ∧ (storeMask h v s).ident = s.ident
      ∧ (storeMask h v s).tone = s.tone
      ∧ (storeMask h v s).keying = s.keying
      ∧ (storeMask h v s).bus = s.bus
      ∧ (storeMask h v s).handovers = s.handovers
      ∧ (storeMask h v s).ram = s.ram
      ∧ (storeMask h v s).page = s.page := by
  simp [storeMask]

/-- Changes at most seats. -/
@[simp] theorem placeAnswer_frame (seat : SeatNo) (a : Answer) (s : State) :
    (placeAnswer seat a s).pending = s.pending
      ∧ (placeAnswer seat a s).free = s.free
      ∧ (placeAnswer seat a s).pins = s.pins
      ∧ (placeAnswer seat a s).stamp = s.stamp
      ∧ (placeAnswer seat a s).mode = s.mode
      ∧ (placeAnswer seat a s).members = s.members
      ∧ (placeAnswer seat a s).plan = s.plan
      ∧ (placeAnswer seat a s).station = s.station
      ∧ (placeAnswer seat a s).floor = s.floor
      ∧ (placeAnswer seat a s).queue = s.queue
      ∧ (placeAnswer seat a s).duty = s.duty
      ∧ (placeAnswer seat a s).playout = s.playout
      ∧ (placeAnswer seat a s).source = s.source
      ∧ (placeAnswer seat a s).watch = s.watch
      ∧ (placeAnswer seat a s).ident = s.ident
      ∧ (placeAnswer seat a s).tone = s.tone
      ∧ (placeAnswer seat a s).keying = s.keying
      ∧ (placeAnswer seat a s).bus = s.bus
      ∧ (placeAnswer seat a s).handovers = s.handovers
      ∧ (placeAnswer seat a s).ram = s.ram
      ∧ (placeAnswer seat a s).port = s.port
      ∧ (placeAnswer seat a s).page = s.page := by
  simp [placeAnswer]

/-- Changes at most members, seats, floor, queue, playout, watch, ident, tone, keying, bus, page. -/
@[simp] theorem revoke_frame (m : MemberNo) (s : State) :
    (revoke m s).pending = s.pending
      ∧ (revoke m s).free = s.free
      ∧ (revoke m s).pins = s.pins
      ∧ (revoke m s).stamp = s.stamp
      ∧ (revoke m s).mode = s.mode
      ∧ (revoke m s).plan = s.plan
      ∧ (revoke m s).station = s.station
      ∧ (revoke m s).duty = s.duty
      ∧ (revoke m s).source = s.source
      ∧ (revoke m s).handovers = s.handovers
      ∧ (revoke m s).ram = s.ram
      ∧ (revoke m s).port = s.port := by
  unfold revoke; split <;> simp

/-- Changes at most members, seats, floor, queue, playout, watch, ident, tone, keying, bus, page. -/
@[simp] theorem suspend_frame (m : MemberNo) (s : State) :
    (suspend m s).pending = s.pending
      ∧ (suspend m s).free = s.free
      ∧ (suspend m s).pins = s.pins
      ∧ (suspend m s).stamp = s.stamp
      ∧ (suspend m s).mode = s.mode
      ∧ (suspend m s).plan = s.plan
      ∧ (suspend m s).station = s.station
      ∧ (suspend m s).duty = s.duty
      ∧ (suspend m s).source = s.source
      ∧ (suspend m s).handovers = s.handovers
      ∧ (suspend m s).ram = s.ram
      ∧ (suspend m s).port = s.port := by
  simp [suspend]

/-- Changes at most members, seats. -/
@[simp] theorem attachSeat_frame (seat : SeatNo) (m : MemberNo) (s : State) :
    (attachSeat seat m s).pending = s.pending
      ∧ (attachSeat seat m s).free = s.free
      ∧ (attachSeat seat m s).pins = s.pins
      ∧ (attachSeat seat m s).stamp = s.stamp
      ∧ (attachSeat seat m s).mode = s.mode
      ∧ (attachSeat seat m s).plan = s.plan
      ∧ (attachSeat seat m s).station = s.station
      ∧ (attachSeat seat m s).floor = s.floor
      ∧ (attachSeat seat m s).queue = s.queue
      ∧ (attachSeat seat m s).duty = s.duty
      ∧ (attachSeat seat m s).playout = s.playout
      ∧ (attachSeat seat m s).source = s.source
      ∧ (attachSeat seat m s).watch = s.watch
      ∧ (attachSeat seat m s).ident = s.ident
      ∧ (attachSeat seat m s).tone = s.tone
      ∧ (attachSeat seat m s).keying = s.keying
      ∧ (attachSeat seat m s).bus = s.bus
      ∧ (attachSeat seat m s).handovers = s.handovers
      ∧ (attachSeat seat m s).ram = s.ram
      ∧ (attachSeat seat m s).port = s.port
      ∧ (attachSeat seat m s).page = s.page := by
  simp [attachSeat]

/-- Changes at most members, seats, floor, queue, playout, watch, ident, tone, keying, bus, page. -/
@[simp] theorem wrongCode_frame (m : MemberNo) (r : Member) (s : State) :
    ((wrongCode m r s).1).pending = s.pending
      ∧ ((wrongCode m r s).1).free = s.free
      ∧ ((wrongCode m r s).1).pins = s.pins
      ∧ ((wrongCode m r s).1).stamp = s.stamp
      ∧ ((wrongCode m r s).1).mode = s.mode
      ∧ ((wrongCode m r s).1).plan = s.plan
      ∧ ((wrongCode m r s).1).station = s.station
      ∧ ((wrongCode m r s).1).duty = s.duty
      ∧ ((wrongCode m r s).1).source = s.source
      ∧ ((wrongCode m r s).1).handovers = s.handovers
      ∧ ((wrongCode m r s).1).ram = s.ram
      ∧ ((wrongCode m r s).1).port = s.port := by
  unfold wrongCode; split <;> simp

/-- Changes at most members, seats, floor, queue, playout, watch, ident, tone, keying, bus, page. -/
@[simp] theorem doAttach_frame (seat : SeatNo) (s : State) :
    ((doAttach seat s).1).pending = s.pending
      ∧ ((doAttach seat s).1).free = s.free
      ∧ ((doAttach seat s).1).pins = s.pins
      ∧ ((doAttach seat s).1).stamp = s.stamp
      ∧ ((doAttach seat s).1).mode = s.mode
      ∧ ((doAttach seat s).1).plan = s.plan
      ∧ ((doAttach seat s).1).station = s.station
      ∧ ((doAttach seat s).1).duty = s.duty
      ∧ ((doAttach seat s).1).source = s.source
      ∧ ((doAttach seat s).1).handovers = s.handovers
      ∧ ((doAttach seat s).1).ram = s.ram
      ∧ ((doAttach seat s).1).port = s.port := by
  simp only [doAttach]; (repeat' split) <;> simp

/-- Changes at most members, seats, floor, queue, playout, watch, ident, tone, keying, bus, page. -/
@[simp] theorem doDetach_frame (seat : SeatNo) (s : State) :
    ((doDetach seat s).1).pending = s.pending
      ∧ ((doDetach seat s).1).free = s.free
      ∧ ((doDetach seat s).1).pins = s.pins
      ∧ ((doDetach seat s).1).stamp = s.stamp
      ∧ ((doDetach seat s).1).mode = s.mode
      ∧ ((doDetach seat s).1).plan = s.plan
      ∧ ((doDetach seat s).1).station = s.station
      ∧ ((doDetach seat s).1).duty = s.duty
      ∧ ((doDetach seat s).1).source = s.source
      ∧ ((doDetach seat s).1).handovers = s.handovers
      ∧ ((doDetach seat s).1).ram = s.ram
      ∧ ((doDetach seat s).1).port = s.port := by
  unfold doDetach; split <;> simp

/-- Changes at most nothing. -/
@[simp] theorem doPresence_frame (seat : SeatNo) (s : State) :
    ((doPresence seat s).1).pending = s.pending
      ∧ ((doPresence seat s).1).free = s.free
      ∧ ((doPresence seat s).1).pins = s.pins
      ∧ ((doPresence seat s).1).stamp = s.stamp
      ∧ ((doPresence seat s).1).mode = s.mode
      ∧ ((doPresence seat s).1).members = s.members
      ∧ ((doPresence seat s).1).seats = s.seats
      ∧ ((doPresence seat s).1).plan = s.plan
      ∧ ((doPresence seat s).1).station = s.station
      ∧ ((doPresence seat s).1).floor = s.floor
      ∧ ((doPresence seat s).1).queue = s.queue
      ∧ ((doPresence seat s).1).duty = s.duty
      ∧ ((doPresence seat s).1).playout = s.playout
      ∧ ((doPresence seat s).1).source = s.source
      ∧ ((doPresence seat s).1).watch = s.watch
      ∧ ((doPresence seat s).1).ident = s.ident
      ∧ ((doPresence seat s).1).tone = s.tone
      ∧ ((doPresence seat s).1).keying = s.keying
      ∧ ((doPresence seat s).1).bus = s.bus
      ∧ ((doPresence seat s).1).handovers = s.handovers
      ∧ ((doPresence seat s).1).ram = s.ram
      ∧ ((doPresence seat s).1).port = s.port
      ∧ ((doPresence seat s).1).page = s.page := by
  unfold doPresence; split <;> simp

/-- Changes at most members, seats, floor, queue, playout, watch, ident, tone, keying, bus, page. -/
@[simp] theorem presenceExpired_frame (seat : SeatNo) (s : State) :
    (presenceExpired seat s).pending = s.pending
      ∧ (presenceExpired seat s).free = s.free
      ∧ (presenceExpired seat s).pins = s.pins
      ∧ (presenceExpired seat s).stamp = s.stamp
      ∧ (presenceExpired seat s).mode = s.mode
      ∧ (presenceExpired seat s).plan = s.plan
      ∧ (presenceExpired seat s).station = s.station
      ∧ (presenceExpired seat s).duty = s.duty
      ∧ (presenceExpired seat s).source = s.source
      ∧ (presenceExpired seat s).handovers = s.handovers
      ∧ (presenceExpired seat s).ram = s.ram
      ∧ (presenceExpired seat s).port = s.port := by
  unfold presenceExpired; split <;> simp

/-- Changes at most members. -/
@[simp] theorem doChangeCode_frame (seat : SeatNo) (s : State) :
    ((doChangeCode seat s).1).pending = s.pending
      ∧ ((doChangeCode seat s).1).free = s.free
      ∧ ((doChangeCode seat s).1).pins = s.pins
      ∧ ((doChangeCode seat s).1).stamp = s.stamp
      ∧ ((doChangeCode seat s).1).mode = s.mode
      ∧ ((doChangeCode seat s).1).seats = s.seats
      ∧ ((doChangeCode seat s).1).plan = s.plan
      ∧ ((doChangeCode seat s).1).station = s.station
      ∧ ((doChangeCode seat s).1).floor = s.floor
      ∧ ((doChangeCode seat s).1).queue = s.queue
      ∧ ((doChangeCode seat s).1).duty = s.duty
      ∧ ((doChangeCode seat s).1).playout = s.playout
      ∧ ((doChangeCode seat s).1).source = s.source
      ∧ ((doChangeCode seat s).1).watch = s.watch
      ∧ ((doChangeCode seat s).1).ident = s.ident
      ∧ ((doChangeCode seat s).1).tone = s.tone
      ∧ ((doChangeCode seat s).1).keying = s.keying
      ∧ ((doChangeCode seat s).1).bus = s.bus
      ∧ ((doChangeCode seat s).1).handovers = s.handovers
      ∧ ((doChangeCode seat s).1).ram = s.ram
      ∧ ((doChangeCode seat s).1).port = s.port
      ∧ ((doChangeCode seat s).1).page = s.page := by
  simp only [doChangeCode]; (repeat' split) <;> simp

/-- Changes at most members, seats, floor, queue, playout, watch, ident, tone, keying, bus, page. -/
@[simp] theorem doMemberWrite_frame (seat : SeatNo) (s : State) :
    ((doMemberWrite seat s).1).pending = s.pending
      ∧ ((doMemberWrite seat s).1).free = s.free
      ∧ ((doMemberWrite seat s).1).pins = s.pins
      ∧ ((doMemberWrite seat s).1).stamp = s.stamp
      ∧ ((doMemberWrite seat s).1).mode = s.mode
      ∧ ((doMemberWrite seat s).1).plan = s.plan
      ∧ ((doMemberWrite seat s).1).station = s.station
      ∧ ((doMemberWrite seat s).1).duty = s.duty
      ∧ ((doMemberWrite seat s).1).source = s.source
      ∧ ((doMemberWrite seat s).1).handovers = s.handovers
      ∧ ((doMemberWrite seat s).1).ram = s.ram
      ∧ ((doMemberWrite seat s).1).port = s.port := by
  simp only [doMemberWrite]; (repeat' split) <;> simp

/-- Changes at most members, seats, floor, queue, playout, watch, ident, tone, keying, bus, page. -/
@[simp] theorem doMemberRemove_frame (seat : SeatNo) (s : State) :
    ((doMemberRemove seat s).1).pending = s.pending
      ∧ ((doMemberRemove seat s).1).free = s.free
      ∧ ((doMemberRemove seat s).1).pins = s.pins
      ∧ ((doMemberRemove seat s).1).stamp = s.stamp
      ∧ ((doMemberRemove seat s).1).mode = s.mode
      ∧ ((doMemberRemove seat s).1).plan = s.plan
      ∧ ((doMemberRemove seat s).1).station = s.station
      ∧ ((doMemberRemove seat s).1).duty = s.duty
      ∧ ((doMemberRemove seat s).1).source = s.source
      ∧ ((doMemberRemove seat s).1).handovers = s.handovers
      ∧ ((doMemberRemove seat s).1).ram = s.ram
      ∧ ((doMemberRemove seat s).1).port = s.port := by
  simp only [doMemberRemove]; (repeat' split) <;> simp

/-- Changes at most members. -/
@[simp] theorem doDayRoll_frame (seat : SeatNo) (s : State) :
    ((doDayRoll seat s).1).pending = s.pending
      ∧ ((doDayRoll seat s).1).free = s.free
      ∧ ((doDayRoll seat s).1).pins = s.pins
      ∧ ((doDayRoll seat s).1).stamp = s.stamp
      ∧ ((doDayRoll seat s).1).mode = s.mode
      ∧ ((doDayRoll seat s).1).seats = s.seats
      ∧ ((doDayRoll seat s).1).plan = s.plan
      ∧ ((doDayRoll seat s).1).station = s.station
      ∧ ((doDayRoll seat s).1).floor = s.floor
      ∧ ((doDayRoll seat s).1).queue = s.queue
      ∧ ((doDayRoll seat s).1).duty = s.duty
      ∧ ((doDayRoll seat s).1).playout = s.playout
      ∧ ((doDayRoll seat s).1).source = s.source
      ∧ ((doDayRoll seat s).1).watch = s.watch
      ∧ ((doDayRoll seat s).1).ident = s.ident
      ∧ ((doDayRoll seat s).1).tone = s.tone
      ∧ ((doDayRoll seat s).1).keying = s.keying
      ∧ ((doDayRoll seat s).1).bus = s.bus
      ∧ ((doDayRoll seat s).1).handovers = s.handovers
      ∧ ((doDayRoll seat s).1).ram = s.ram
      ∧ ((doDayRoll seat s).1).port = s.port
      ∧ ((doDayRoll seat s).1).page = s.page := by
  simp [doDayRoll]

/-- Changes at most plan. -/
@[simp] theorem setSlot_frame (i : SlotNo) (g : Option Segment) (s : State) :
    (setSlot i g s).pending = s.pending
      ∧ (setSlot i g s).free = s.free
      ∧ (setSlot i g s).pins = s.pins
      ∧ (setSlot i g s).stamp = s.stamp
      ∧ (setSlot i g s).mode = s.mode
      ∧ (setSlot i g s).members = s.members
      ∧ (setSlot i g s).seats = s.seats
      ∧ (setSlot i g s).station = s.station
      ∧ (setSlot i g s).floor = s.floor
      ∧ (setSlot i g s).queue = s.queue
      ∧ (setSlot i g s).duty = s.duty
      ∧ (setSlot i g s).playout = s.playout
      ∧ (setSlot i g s).source = s.source
      ∧ (setSlot i g s).watch = s.watch
      ∧ (setSlot i g s).ident = s.ident
      ∧ (setSlot i g s).tone = s.tone
      ∧ (setSlot i g s).keying = s.keying
      ∧ (setSlot i g s).bus = s.bus
      ∧ (setSlot i g s).handovers = s.handovers
      ∧ (setSlot i g s).ram = s.ram
      ∧ (setSlot i g s).port = s.port
      ∧ (setSlot i g s).page = s.page := by
  simp [setSlot]

/-- Changes at most plan. -/
@[simp] theorem doBandWrite_frame (seat : SeatNo) (s : State) :
    ((doBandWrite seat s).1).pending = s.pending
      ∧ ((doBandWrite seat s).1).free = s.free
      ∧ ((doBandWrite seat s).1).pins = s.pins
      ∧ ((doBandWrite seat s).1).stamp = s.stamp
      ∧ ((doBandWrite seat s).1).mode = s.mode
      ∧ ((doBandWrite seat s).1).members = s.members
      ∧ ((doBandWrite seat s).1).seats = s.seats
      ∧ ((doBandWrite seat s).1).station = s.station
      ∧ ((doBandWrite seat s).1).floor = s.floor
      ∧ ((doBandWrite seat s).1).queue = s.queue
      ∧ ((doBandWrite seat s).1).duty = s.duty
      ∧ ((doBandWrite seat s).1).playout = s.playout
      ∧ ((doBandWrite seat s).1).source = s.source
      ∧ ((doBandWrite seat s).1).watch = s.watch
      ∧ ((doBandWrite seat s).1).ident = s.ident
      ∧ ((doBandWrite seat s).1).tone = s.tone
      ∧ ((doBandWrite seat s).1).keying = s.keying
      ∧ ((doBandWrite seat s).1).bus = s.bus
      ∧ ((doBandWrite seat s).1).handovers = s.handovers
      ∧ ((doBandWrite seat s).1).ram = s.ram
      ∧ ((doBandWrite seat s).1).port = s.port
      ∧ ((doBandWrite seat s).1).page = s.page := by
  simp only [doBandWrite]; (repeat' split) <;> simp

/-- Changes at most plan. -/
@[simp] theorem doBandRemove_frame (seat : SeatNo) (s : State) :
    ((doBandRemove seat s).1).pending = s.pending
      ∧ ((doBandRemove seat s).1).free = s.free
      ∧ ((doBandRemove seat s).1).pins = s.pins
      ∧ ((doBandRemove seat s).1).stamp = s.stamp
      ∧ ((doBandRemove seat s).1).mode = s.mode
      ∧ ((doBandRemove seat s).1).members = s.members
      ∧ ((doBandRemove seat s).1).seats = s.seats
      ∧ ((doBandRemove seat s).1).station = s.station
      ∧ ((doBandRemove seat s).1).floor = s.floor
      ∧ ((doBandRemove seat s).1).queue = s.queue
      ∧ ((doBandRemove seat s).1).duty = s.duty
      ∧ ((doBandRemove seat s).1).playout = s.playout
      ∧ ((doBandRemove seat s).1).source = s.source
      ∧ ((doBandRemove seat s).1).watch = s.watch
      ∧ ((doBandRemove seat s).1).ident = s.ident
      ∧ ((doBandRemove seat s).1).tone = s.tone
      ∧ ((doBandRemove seat s).1).keying = s.keying
      ∧ ((doBandRemove seat s).1).bus = s.bus
      ∧ ((doBandRemove seat s).1).handovers = s.handovers
      ∧ ((doBandRemove seat s).1).ram = s.ram
      ∧ ((doBandRemove seat s).1).port = s.port
      ∧ ((doBandRemove seat s).1).page = s.page := by
  simp only [doBandRemove]; (repeat' split) <;> simp

/-- Changes at most nothing. -/
@[simp] theorem doCheck_frame (seat : SeatNo) (s : State) :
    ((doCheck seat s).1).pending = s.pending
      ∧ ((doCheck seat s).1).free = s.free
      ∧ ((doCheck seat s).1).pins = s.pins
      ∧ ((doCheck seat s).1).stamp = s.stamp
      ∧ ((doCheck seat s).1).mode = s.mode
      ∧ ((doCheck seat s).1).members = s.members
      ∧ ((doCheck seat s).1).seats = s.seats
      ∧ ((doCheck seat s).1).plan = s.plan
      ∧ ((doCheck seat s).1).station = s.station
      ∧ ((doCheck seat s).1).floor = s.floor
      ∧ ((doCheck seat s).1).queue = s.queue
      ∧ ((doCheck seat s).1).duty = s.duty
      ∧ ((doCheck seat s).1).playout = s.playout
      ∧ ((doCheck seat s).1).source = s.source
      ∧ ((doCheck seat s).1).watch = s.watch
      ∧ ((doCheck seat s).1).ident = s.ident
      ∧ ((doCheck seat s).1).tone = s.tone
      ∧ ((doCheck seat s).1).keying = s.keying
      ∧ ((doCheck seat s).1).bus = s.bus
      ∧ ((doCheck seat s).1).handovers = s.handovers
      ∧ ((doCheck seat s).1).ram = s.ram
      ∧ ((doCheck seat s).1).port = s.port
      ∧ ((doCheck seat s).1).page = s.page := by
  simp only [doCheck]; (repeat' split) <;> simp

/-- Changes at most keying. -/
@[simp] theorem doAmpRestore_frame (seat : SeatNo) (s : State) :
    ((doAmpRestore seat s).1).pending = s.pending
      ∧ ((doAmpRestore seat s).1).free = s.free
      ∧ ((doAmpRestore seat s).1).pins = s.pins
      ∧ ((doAmpRestore seat s).1).stamp = s.stamp
      ∧ ((doAmpRestore seat s).1).mode = s.mode
      ∧ ((doAmpRestore seat s).1).members = s.members
      ∧ ((doAmpRestore seat s).1).seats = s.seats
      ∧ ((doAmpRestore seat s).1).plan = s.plan
      ∧ ((doAmpRestore seat s).1).station = s.station
      ∧ ((doAmpRestore seat s).1).floor = s.floor
      ∧ ((doAmpRestore seat s).1).queue = s.queue
      ∧ ((doAmpRestore seat s).1).duty = s.duty
      ∧ ((doAmpRestore seat s).1).playout = s.playout
      ∧ ((doAmpRestore seat s).1).source = s.source
      ∧ ((doAmpRestore seat s).1).watch = s.watch
      ∧ ((doAmpRestore seat s).1).ident = s.ident
      ∧ ((doAmpRestore seat s).1).tone = s.tone
      ∧ ((doAmpRestore seat s).1).bus = s.bus
      ∧ ((doAmpRestore seat s).1).handovers = s.handovers
      ∧ ((doAmpRestore seat s).1).ram = s.ram
      ∧ ((doAmpRestore seat s).1).port = s.port
      ∧ ((doAmpRestore seat s).1).page = s.page := by
  unfold doAmpRestore; split <;> simp

/-- Changes at most duty, page. -/
@[simp] theorem limitHeat_frame (s : State) :
    (limitHeat s).pending = s.pending
      ∧ (limitHeat s).free = s.free
      ∧ (limitHeat s).pins = s.pins
      ∧ (limitHeat s).stamp = s.stamp
      ∧ (limitHeat s).mode = s.mode
      ∧ (limitHeat s).members = s.members
      ∧ (limitHeat s).seats = s.seats
      ∧ (limitHeat s).plan = s.plan
      ∧ (limitHeat s).station = s.station
      ∧ (limitHeat s).floor = s.floor
      ∧ (limitHeat s).queue = s.queue
      ∧ (limitHeat s).playout = s.playout
      ∧ (limitHeat s).source = s.source
      ∧ (limitHeat s).watch = s.watch
      ∧ (limitHeat s).ident = s.ident
      ∧ (limitHeat s).tone = s.tone
      ∧ (limitHeat s).keying = s.keying
      ∧ (limitHeat s).bus = s.bus
      ∧ (limitHeat s).handovers = s.handovers
      ∧ (limitHeat s).ram = s.ram
      ∧ (limitHeat s).port = s.port := by
  unfold limitHeat; split <;> simp

/-- Changes at most bus. -/
@[simp] theorem forgetMoved_frame (old : StationRecord) (s : State) :
    (forgetMoved old s).pending = s.pending
      ∧ (forgetMoved old s).free = s.free
      ∧ (forgetMoved old s).pins = s.pins
      ∧ (forgetMoved old s).stamp = s.stamp
      ∧ (forgetMoved old s).mode = s.mode
      ∧ (forgetMoved old s).members = s.members
      ∧ (forgetMoved old s).seats = s.seats
      ∧ (forgetMoved old s).plan = s.plan
      ∧ (forgetMoved old s).station = s.station
      ∧ (forgetMoved old s).floor = s.floor
      ∧ (forgetMoved old s).queue = s.queue
      ∧ (forgetMoved old s).duty = s.duty
      ∧ (forgetMoved old s).playout = s.playout
      ∧ (forgetMoved old s).source = s.source
      ∧ (forgetMoved old s).watch = s.watch
      ∧ (forgetMoved old s).ident = s.ident
      ∧ (forgetMoved old s).tone = s.tone
      ∧ (forgetMoved old s).keying = s.keying
      ∧ (forgetMoved old s).handovers = s.handovers
      ∧ (forgetMoved old s).ram = s.ram
      ∧ (forgetMoved old s).port = s.port
      ∧ (forgetMoved old s).page = s.page := by
  simp [forgetMoved]

/-- Changes at most station, duty, bus, page. -/
@[simp] theorem doStationWrite_frame (seat : SeatNo) (s : State) :
    ((doStationWrite seat s).1).pending = s.pending
      ∧ ((doStationWrite seat s).1).free = s.free
      ∧ ((doStationWrite seat s).1).pins = s.pins
      ∧ ((doStationWrite seat s).1).stamp = s.stamp
      ∧ ((doStationWrite seat s).1).mode = s.mode
      ∧ ((doStationWrite seat s).1).members = s.members
      ∧ ((doStationWrite seat s).1).seats = s.seats
      ∧ ((doStationWrite seat s).1).plan = s.plan
      ∧ ((doStationWrite seat s).1).floor = s.floor
      ∧ ((doStationWrite seat s).1).queue = s.queue
      ∧ ((doStationWrite seat s).1).playout = s.playout
      ∧ ((doStationWrite seat s).1).source = s.source
      ∧ ((doStationWrite seat s).1).watch = s.watch
      ∧ ((doStationWrite seat s).1).ident = s.ident
      ∧ ((doStationWrite seat s).1).tone = s.tone
      ∧ ((doStationWrite seat s).1).keying = s.keying
      ∧ ((doStationWrite seat s).1).handovers = s.handovers
      ∧ ((doStationWrite seat s).1).ram = s.ram
      ∧ ((doStationWrite seat s).1).port = s.port := by
  simp only [doStationWrite]; (repeat' split) <;> simp

/-- Changes at most mode. -/
@[simp] theorem doBeginService_frame (seat : SeatNo) (s : State) :
    ((doBeginService seat s).1).pending = s.pending
      ∧ ((doBeginService seat s).1).free = s.free
      ∧ ((doBeginService seat s).1).pins = s.pins
      ∧ ((doBeginService seat s).1).stamp = s.stamp
      ∧ ((doBeginService seat s).1).members = s.members
      ∧ ((doBeginService seat s).1).seats = s.seats
      ∧ ((doBeginService seat s).1).plan = s.plan
      ∧ ((doBeginService seat s).1).station = s.station
      ∧ ((doBeginService seat s).1).floor = s.floor
      ∧ ((doBeginService seat s).1).queue = s.queue
      ∧ ((doBeginService seat s).1).duty = s.duty
      ∧ ((doBeginService seat s).1).playout = s.playout
      ∧ ((doBeginService seat s).1).source = s.source
      ∧ ((doBeginService seat s).1).watch = s.watch
      ∧ ((doBeginService seat s).1).ident = s.ident
      ∧ ((doBeginService seat s).1).tone = s.tone
      ∧ ((doBeginService seat s).1).keying = s.keying
      ∧ ((doBeginService seat s).1).bus = s.bus
      ∧ ((doBeginService seat s).1).handovers = s.handovers
      ∧ ((doBeginService seat s).1).ram = s.ram
      ∧ ((doBeginService seat s).1).port = s.port
      ∧ ((doBeginService seat s).1).page = s.page := by
  simp only [doBeginService]; (repeat' split) <;> simp

/-- Changes at most members, seats, floor, queue, playout, watch, ident, tone, keying, bus, page. -/
@[simp] theorem detachOthers_frame (seat : SeatNo) (s : State) :
    (detachOthers seat s).pending = s.pending
      ∧ (detachOthers seat s).free = s.free
      ∧ (detachOthers seat s).pins = s.pins
      ∧ (detachOthers seat s).stamp = s.stamp
      ∧ (detachOthers seat s).mode = s.mode
      ∧ (detachOthers seat s).plan = s.plan
      ∧ (detachOthers seat s).station = s.station
      ∧ (detachOthers seat s).duty = s.duty
      ∧ (detachOthers seat s).source = s.source
      ∧ (detachOthers seat s).handovers = s.handovers
      ∧ (detachOthers seat s).ram = s.ram
      ∧ (detachOthers seat s).port = s.port := by
  refine ⟨?_, ?_, ?_, ?_, ?_, ?_, ?_, ?_, ?_, ?_, ?_, ?_⟩ <;> (unfold detachOthers; generalize List.finRange 12 = l; induction l generalizing s with
    | nil => rfl
    | cons e rest ih => simp only [List.foldl_cons, ih]; split <;> simp)

/-- Changes at most mode, members, seats, floor, queue, playout, watch, ident, tone, keying, bus, page. -/
@[simp] theorem endService_frame (seat : SeatNo) (s : State) :
    (endService seat s).pending = s.pending
      ∧ (endService seat s).free = s.free
      ∧ (endService seat s).pins = s.pins
      ∧ (endService seat s).stamp = s.stamp
      ∧ (endService seat s).plan = s.plan
      ∧ (endService seat s).station = s.station
      ∧ (endService seat s).duty = s.duty
      ∧ (endService seat s).source = s.source
      ∧ (endService seat s).handovers = s.handovers
      ∧ (endService seat s).ram = s.ram
      ∧ (endService seat s).port = s.port := by
  simp only [endService]; (repeat' split) <;> simp

/-- Changes at most mode, members, seats, floor, queue, playout, watch, ident, tone, keying, bus, page. -/
@[simp] theorem doEndService_frame (seat : SeatNo) (s : State) :
    ((doEndService seat s).1).pending = s.pending
      ∧ ((doEndService seat s).1).free = s.free
      ∧ ((doEndService seat s).1).pins = s.pins
      ∧ ((doEndService seat s).1).stamp = s.stamp
      ∧ ((doEndService seat s).1).plan = s.plan
      ∧ ((doEndService seat s).1).station = s.station
      ∧ ((doEndService seat s).1).duty = s.duty
      ∧ ((doEndService seat s).1).source = s.source
      ∧ ((doEndService seat s).1).handovers = s.handovers
      ∧ ((doEndService seat s).1).ram = s.ram
      ∧ ((doEndService seat s).1).port = s.port := by
  simp only [doEndService]; (repeat' split) <;> simp

/-- Changes at most seats, queue, page. -/
@[simp] theorem joinWith_frame (e : Entry) (s : State) :
    ((joinWith e s).1).pending = s.pending
      ∧ ((joinWith e s).1).free = s.free
      ∧ ((joinWith e s).1).pins = s.pins
      ∧ ((joinWith e s).1).stamp = s.stamp
      ∧ ((joinWith e s).1).mode = s.mode
      ∧ ((joinWith e s).1).members = s.members
      ∧ ((joinWith e s).1).plan = s.plan
      ∧ ((joinWith e s).1).station = s.station
      ∧ ((joinWith e s).1).floor = s.floor
      ∧ ((joinWith e s).1).duty = s.duty
      ∧ ((joinWith e s).1).playout = s.playout
      ∧ ((joinWith e s).1).source = s.source
      ∧ ((joinWith e s).1).watch = s.watch
      ∧ ((joinWith e s).1).ident = s.ident
      ∧ ((joinWith e s).1).tone = s.tone
      ∧ ((joinWith e s).1).keying = s.keying
      ∧ ((joinWith e s).1).bus = s.bus
      ∧ ((joinWith e s).1).handovers = s.handovers
      ∧ ((joinWith e s).1).ram = s.ram
      ∧ ((joinWith e s).1).port = s.port := by
  simp [joinWith]

/-- Changes at most seats, floor, queue, playout, watch, ident, bus, page. -/
@[simp] theorem requestQueued_frame (e : Entry) (s : State) :
    ((requestQueued e s).1).pending = s.pending
      ∧ ((requestQueued e s).1).free = s.free
      ∧ ((requestQueued e s).1).pins = s.pins
      ∧ ((requestQueued e s).1).stamp = s.stamp
      ∧ ((requestQueued e s).1).mode = s.mode
      ∧ ((requestQueued e s).1).members = s.members
      ∧ ((requestQueued e s).1).plan = s.plan
      ∧ ((requestQueued e s).1).station = s.station
      ∧ ((requestQueued e s).1).duty = s.duty
      ∧ ((requestQueued e s).1).source = s.source
      ∧ ((requestQueued e s).1).tone = s.tone
      ∧ ((requestQueued e s).1).keying = s.keying
      ∧ ((requestQueued e s).1).handovers = s.handovers
      ∧ ((requestQueued e s).1).ram = s.ram
      ∧ ((requestQueued e s).1).port = s.port := by
  unfold requestQueued; split <;> simp

/-- Changes at most seats, queue, page. -/
@[simp] theorem judgeAndJoin_frame (e : Entry) (s : State) :
    ((judgeAndJoin e s).1).pending = s.pending
      ∧ ((judgeAndJoin e s).1).free = s.free
      ∧ ((judgeAndJoin e s).1).pins = s.pins
      ∧ ((judgeAndJoin e s).1).stamp = s.stamp
      ∧ ((judgeAndJoin e s).1).mode = s.mode
      ∧ ((judgeAndJoin e s).1).members = s.members
      ∧ ((judgeAndJoin e s).1).plan = s.plan
      ∧ ((judgeAndJoin e s).1).station = s.station
      ∧ ((judgeAndJoin e s).1).floor = s.floor
      ∧ ((judgeAndJoin e s).1).duty = s.duty
      ∧ ((judgeAndJoin e s).1).playout = s.playout
      ∧ ((judgeAndJoin e s).1).source = s.source
      ∧ ((judgeAndJoin e s).1).watch = s.watch
      ∧ ((judgeAndJoin e s).1).ident = s.ident
      ∧ ((judgeAndJoin e s).1).tone = s.tone
      ∧ ((judgeAndJoin e s).1).keying = s.keying
      ∧ ((judgeAndJoin e s).1).bus = s.bus
      ∧ ((judgeAndJoin e s).1).handovers = s.handovers
      ∧ ((judgeAndJoin e s).1).ram = s.ram
      ∧ ((judgeAndJoin e s).1).port = s.port := by
  unfold judgeAndJoin; split <;> simp

/-- Changes at most seats, floor, queue, playout, watch, ident, tone, keying, bus, page. -/
@[simp] theorem rekeyGranted_frame (seat : SeatNo) (g : Grant) (s : State) :
    (rekeyGranted seat g s).pending = s.pending
      ∧ (rekeyGranted seat g s).free = s.free
      ∧ (rekeyGranted seat g s).pins = s.pins
      ∧ (rekeyGranted seat g s).stamp = s.stamp
      ∧ (rekeyGranted seat g s).mode = s.mode
      ∧ (rekeyGranted seat g s).members = s.members
      ∧ (rekeyGranted seat g s).plan = s.plan
      ∧ (rekeyGranted seat g s).station = s.station
      ∧ (rekeyGranted seat g s).duty = s.duty
      ∧ (rekeyGranted seat g s).source = s.source
      ∧ (rekeyGranted seat g s).handovers = s.handovers
      ∧ (rekeyGranted seat g s).ram = s.ram
      ∧ (rekeyGranted seat g s).port = s.port := by
  simp only [rekeyGranted]; (repeat' split) <;> simp

/-- Changes at most seats, floor, queue, playout, watch, ident, tone, keying, bus, page. -/
@[simp] theorem rekey_frame (h : Holder) (e : Entry) (s : State) :
    ((rekey h e s).1).pending = s.pending
      ∧ ((rekey h e s).1).free = s.free
      ∧ ((rekey h e s).1).pins = s.pins
      ∧ ((rekey h e s).1).stamp = s.stamp
      ∧ ((rekey h e s).1).mode = s.mode
      ∧ ((rekey h e s).1).members = s.members
      ∧ ((rekey h e s).1).plan = s.plan
      ∧ ((rekey h e s).1).station = s.station
      ∧ ((rekey h e s).1).duty = s.duty
      ∧ ((rekey h e s).1).source = s.source
      ∧ ((rekey h e s).1).handovers = s.handovers
      ∧ ((rekey h e s).1).ram = s.ram
      ∧ ((rekey h e s).1).port = s.port := by
  refine ⟨?_, ?_, ?_, ?_, ?_, ?_, ?_, ?_, ?_, ?_, ?_, ?_, ?_⟩ <;> (unfold rekey; (repeat' split) <;> simp [endHangWith])

/-- Changes at most seats, floor, queue, playout, watch, ident, tone, keying, bus, page. -/
@[simp] theorem doRequest_frame (seat : SeatNo) (s : State) :
    ((doRequest seat s).1).pending = s.pending
      ∧ ((doRequest seat s).1).free = s.free
      ∧ ((doRequest seat s).1).pins = s.pins
      ∧ ((doRequest seat s).1).stamp = s.stamp
      ∧ ((doRequest seat s).1).mode = s.mode
      ∧ ((doRequest seat s).1).members = s.members
      ∧ ((doRequest seat s).1).plan = s.plan
      ∧ ((doRequest seat s).1).station = s.station
      ∧ ((doRequest seat s).1).duty = s.duty
      ∧ ((doRequest seat s).1).source = s.source
      ∧ ((doRequest seat s).1).handovers = s.handovers
      ∧ ((doRequest seat s).1).ram = s.ram
      ∧ ((doRequest seat s).1).port = s.port := by
  simp only [doRequest]; (repeat' split) <;> simp

/-- Changes at most seats, floor, queue, playout, watch, ident, bus, page. -/
@[simp] theorem doWithdraw_frame (seat : SeatNo) (s : State) :
    ((doWithdraw seat s).1).pending = s.pending
      ∧ ((doWithdraw seat s).1).free = s.free
      ∧ ((doWithdraw seat s).1).pins = s.pins
      ∧ ((doWithdraw seat s).1).stamp = s.stamp
      ∧ ((doWithdraw seat s).1).mode = s.mode
      ∧ ((doWithdraw seat s).1).members = s.members
      ∧ ((doWithdraw seat s).1).plan = s.plan
      ∧ ((doWithdraw seat s).1).station = s.station
      ∧ ((doWithdraw seat s).1).duty = s.duty
      ∧ ((doWithdraw seat s).1).source = s.source
      ∧ ((doWithdraw seat s).1).tone = s.tone
      ∧ ((doWithdraw seat s).1).keying = s.keying
      ∧ ((doWithdraw seat s).1).handovers = s.handovers
      ∧ ((doWithdraw seat s).1).ram = s.ram
      ∧ ((doWithdraw seat s).1).port = s.port := by
  unfold doWithdraw; split <;> simp

/-- Changes at most seats, floor, playout, watch, page. -/
@[simp] theorem enterHang_frame (s : State) :
    (enterHang s).pending = s.pending
      ∧ (enterHang s).free = s.free
      ∧ (enterHang s).pins = s.pins
      ∧ (enterHang s).stamp = s.stamp
      ∧ (enterHang s).mode = s.mode
      ∧ (enterHang s).members = s.members
      ∧ (enterHang s).plan = s.plan
      ∧ (enterHang s).station = s.station
      ∧ (enterHang s).queue = s.queue
      ∧ (enterHang s).duty = s.duty
      ∧ (enterHang s).source = s.source
      ∧ (enterHang s).ident = s.ident
      ∧ (enterHang s).tone = s.tone
      ∧ (enterHang s).keying = s.keying
      ∧ (enterHang s).bus = s.bus
      ∧ (enterHang s).handovers = s.handovers
      ∧ (enterHang s).ram = s.ram
      ∧ (enterHang s).port = s.port := by
  simp [enterHang]

/-- Changes at most seats, floor, queue, playout, watch, ident, tone, keying, bus, page. -/
@[simp] theorem releaseFloor_frame (s : State) :
    ((releaseFloor s).2).pending = s.pending
      ∧ ((releaseFloor s).2).free = s.free
      ∧ ((releaseFloor s).2).pins = s.pins
      ∧ ((releaseFloor s).2).stamp = s.stamp
      ∧ ((releaseFloor s).2).mode = s.mode
      ∧ ((releaseFloor s).2).members = s.members
      ∧ ((releaseFloor s).2).plan = s.plan
      ∧ ((releaseFloor s).2).station = s.station
      ∧ ((releaseFloor s).2).duty = s.duty
      ∧ ((releaseFloor s).2).source = s.source
      ∧ ((releaseFloor s).2).handovers = s.handovers
      ∧ ((releaseFloor s).2).ram = s.ram
      ∧ ((releaseFloor s).2).port = s.port := by
  simp only [releaseFloor]; (repeat' split) <;> simp

/-- Changes at most seats, floor, queue, playout, watch, ident, tone, keying, bus, page. -/
@[simp] theorem doRelease_frame (seat : SeatNo) (s : State) :
    ((doRelease seat s).1).pending = s.pending
      ∧ ((doRelease seat s).1).free = s.free
      ∧ ((doRelease seat s).1).pins = s.pins
      ∧ ((doRelease seat s).1).stamp = s.stamp
      ∧ ((doRelease seat s).1).mode = s.mode
      ∧ ((doRelease seat s).1).members = s.members
      ∧ ((doRelease seat s).1).plan = s.plan
      ∧ ((doRelease seat s).1).station = s.station
      ∧ ((doRelease seat s).1).duty = s.duty
      ∧ ((doRelease seat s).1).source = s.source
      ∧ ((doRelease seat s).1).handovers = s.handovers
      ∧ ((doRelease seat s).1).ram = s.ram
      ∧ ((doRelease seat s).1).port = s.port := by
  unfold doRelease; split <;> simp

/-- Changes at most seats, floor, queue, playout, watch, ident, tone, keying, bus, page. -/
@[simp] theorem forceRelease_frame (c : Bool) (s : State) :
    (forceRelease c s).pending = s.pending
      ∧ (forceRelease c s).free = s.free
      ∧ (forceRelease c s).pins = s.pins
      ∧ (forceRelease c s).stamp = s.stamp
      ∧ (forceRelease c s).mode = s.mode
      ∧ (forceRelease c s).members = s.members
      ∧ (forceRelease c s).plan = s.plan
      ∧ (forceRelease c s).station = s.station
      ∧ (forceRelease c s).duty = s.duty
      ∧ (forceRelease c s).source = s.source
      ∧ (forceRelease c s).handovers = s.handovers
      ∧ (forceRelease c s).ram = s.ram
      ∧ (forceRelease c s).port = s.port := by
  simp only [forceRelease]; (repeat' split) <;> simp

/-- Changes at most seats, floor, queue, playout, watch, ident, tone, keying, bus, page. -/
@[simp] theorem doForceRelease_frame (seat : SeatNo) (s : State) :
    ((doForceRelease seat s).1).pending = s.pending
      ∧ ((doForceRelease seat s).1).free = s.free
      ∧ ((doForceRelease seat s).1).pins = s.pins
      ∧ ((doForceRelease seat s).1).stamp = s.stamp
      ∧ ((doForceRelease seat s).1).mode = s.mode
      ∧ ((doForceRelease seat s).1).members = s.members
      ∧ ((doForceRelease seat s).1).plan = s.plan
      ∧ ((doForceRelease seat s).1).station = s.station
      ∧ ((doForceRelease seat s).1).duty = s.duty
      ∧ ((doForceRelease seat s).1).source = s.source
      ∧ ((doForceRelease seat s).1).handovers = s.handovers
      ∧ ((doForceRelease seat s).1).ram = s.ram
      ∧ ((doForceRelease seat s).1).port = s.port := by
  simp only [doForceRelease]; (repeat' split) <;> simp

/-- Changes at most floor, bus. -/
@[simp] theorem placeSetup_frame (l : List Message) (s : State) :
    (placeSetup l s).pending = s.pending
      ∧ (placeSetup l s).free = s.free
      ∧ (placeSetup l s).pins = s.pins
      ∧ (placeSetup l s).stamp = s.stamp
      ∧ (placeSetup l s).mode = s.mode
      ∧ (placeSetup l s).members = s.members
      ∧ (placeSetup l s).seats = s.seats
      ∧ (placeSetup l s).plan = s.plan
      ∧ (placeSetup l s).station = s.station
      ∧ (placeSetup l s).queue = s.queue
      ∧ (placeSetup l s).duty = s.duty
      ∧ (placeSetup l s).playout = s.playout
      ∧ (placeSetup l s).source = s.source
      ∧ (placeSetup l s).watch = s.watch
      ∧ (placeSetup l s).ident = s.ident
      ∧ (placeSetup l s).tone = s.tone
      ∧ (placeSetup l s).keying = s.keying
      ∧ (placeSetup l s).handovers = s.handovers
      ∧ (placeSetup l s).ram = s.ram
      ∧ (placeSetup l s).port = s.port
      ∧ (placeSetup l s).page = s.page := by
  simp [placeSetup]

/-- Changes at most seats, floor, queue, playout, watch, ident, tone, keying, bus, page. -/
@[simp] theorem setUp_frame (s : State) :
    (setUp s).pending = s.pending
      ∧ (setUp s).free = s.free
      ∧ (setUp s).pins = s.pins
      ∧ (setUp s).stamp = s.stamp
      ∧ (setUp s).mode = s.mode
      ∧ (setUp s).members = s.members
      ∧ (setUp s).plan = s.plan
      ∧ (setUp s).station = s.station
      ∧ (setUp s).duty = s.duty
      ∧ (setUp s).source = s.source
      ∧ (setUp s).handovers = s.handovers
      ∧ (setUp s).ram = s.ram
      ∧ (setUp s).port = s.port := by
  simp only [setUp]; (repeat' split) <;> simp

/-- Changes at most seats, floor, queue, playout, watch, ident, tone, keying, bus, page. -/
@[simp] theorem finishSetup_frame (before s : State) :
    (finishSetup before s).pending = s.pending
      ∧ (finishSetup before s).free = s.free
      ∧ (finishSetup before s).pins = s.pins
      ∧ (finishSetup before s).stamp = s.stamp
      ∧ (finishSetup before s).mode = s.mode
      ∧ (finishSetup before s).members = s.members
      ∧ (finishSetup before s).plan = s.plan
      ∧ (finishSetup before s).station = s.station
      ∧ (finishSetup before s).duty = s.duty
      ∧ (finishSetup before s).source = s.source
      ∧ (finishSetup before s).handovers = s.handovers
      ∧ (finishSetup before s).ram = s.ram
      ∧ (finishSetup before s).port = s.port := by
  refine ⟨?_, ?_, ?_, ?_, ?_, ?_, ?_, ?_, ?_, ?_, ?_, ?_, ?_⟩ <;> (unfold finishSetup; generalize s.queue.length + 1 = n; induction n generalizing s with
    | zero => rfl
    | succ n ih => unfold finishSetups; split <;> simp [ih])

/-- Changes at most seats, floor, queue, playout, watch, ident, tone, keying, bus, page. -/
@[simp] theorem startWaitExpired_frame (s : State) :
    (startWaitExpired s).pending = s.pending
      ∧ (startWaitExpired s).free = s.free
      ∧ (startWaitExpired s).pins = s.pins
      ∧ (startWaitExpired s).stamp = s.stamp
      ∧ (startWaitExpired s).mode = s.mode
      ∧ (startWaitExpired s).members = s.members
      ∧ (startWaitExpired s).plan = s.plan
      ∧ (startWaitExpired s).station = s.station
      ∧ (startWaitExpired s).duty = s.duty
      ∧ (startWaitExpired s).source = s.source
      ∧ (startWaitExpired s).handovers = s.handovers
      ∧ (startWaitExpired s).ram = s.ram
      ∧ (startWaitExpired s).port = s.port := by
  unfold startWaitExpired; split <;> simp

/-- Changes at most seats, floor, queue, playout, watch, ident, tone, keying, bus, page. -/
@[simp] theorem keyDownExpired_frame (s : State) :
    (keyDownExpired s).pending = s.pending
      ∧ (keyDownExpired s).free = s.free
      ∧ (keyDownExpired s).pins = s.pins
      ∧ (keyDownExpired s).stamp = s.stamp
      ∧ (keyDownExpired s).mode = s.mode
      ∧ (keyDownExpired s).members = s.members
      ∧ (keyDownExpired s).plan = s.plan
      ∧ (keyDownExpired s).station = s.station
      ∧ (keyDownExpired s).duty = s.duty
      ∧ (keyDownExpired s).source = s.source
      ∧ (keyDownExpired s).handovers = s.handovers
      ∧ (keyDownExpired s).ram = s.ram
      ∧ (keyDownExpired s).port = s.port := by
  simp only [keyDownExpired]; (repeat' split) <;> simp

/-- Changes at most seats, floor. -/
@[simp] theorem timeWarning_frame (s : State) :
    (timeWarning s).pending = s.pending
      ∧ (timeWarning s).free = s.free
      ∧ (timeWarning s).pins = s.pins
      ∧ (timeWarning s).stamp = s.stamp
      ∧ (timeWarning s).mode = s.mode
      ∧ (timeWarning s).members = s.members
      ∧ (timeWarning s).plan = s.plan
      ∧ (timeWarning s).station = s.station
      ∧ (timeWarning s).queue = s.queue
      ∧ (timeWarning s).duty = s.duty
      ∧ (timeWarning s).playout = s.playout
      ∧ (timeWarning s).source = s.source
      ∧ (timeWarning s).watch = s.watch
      ∧ (timeWarning s).ident = s.ident
      ∧ (timeWarning s).tone = s.tone
      ∧ (timeWarning s).keying = s.keying
      ∧ (timeWarning s).bus = s.bus
      ∧ (timeWarning s).handovers = s.handovers
      ∧ (timeWarning s).ram = s.ram
      ∧ (timeWarning s).port = s.port
      ∧ (timeWarning s).page = s.page := by
  simp only [timeWarning]; (repeat' split) <;> simp

/-- Changes at most seats, floor, queue, playout, watch, ident, tone, keying, bus, page. -/
@[simp] theorem hangExpired_frame (s : State) :
    (hangExpired s).pending = s.pending
      ∧ (hangExpired s).free = s.free
      ∧ (hangExpired s).pins = s.pins
      ∧ (hangExpired s).stamp = s.stamp
      ∧ (hangExpired s).mode = s.mode
      ∧ (hangExpired s).members = s.members
      ∧ (hangExpired s).plan = s.plan
      ∧ (hangExpired s).station = s.station
      ∧ (hangExpired s).duty = s.duty
      ∧ (hangExpired s).source = s.source
      ∧ (hangExpired s).handovers = s.handovers
      ∧ (hangExpired s).ram = s.ram
      ∧ (hangExpired s).port = s.port := by
  unfold hangExpired; split <;> simp

/-- Changes at most seats, floor, queue, playout, watch, ident, tone, keying, bus, page. -/
@[simp] theorem rejoinExpired_frame (s : State) :
    (rejoinExpired s).pending = s.pending
      ∧ (rejoinExpired s).free = s.free
      ∧ (rejoinExpired s).pins = s.pins
      ∧ (rejoinExpired s).stamp = s.stamp
      ∧ (rejoinExpired s).mode = s.mode
      ∧ (rejoinExpired s).members = s.members
      ∧ (rejoinExpired s).plan = s.plan
      ∧ (rejoinExpired s).station = s.station
      ∧ (rejoinExpired s).duty = s.duty
      ∧ (rejoinExpired s).source = s.source
      ∧ (rejoinExpired s).handovers = s.handovers
      ∧ (rejoinExpired s).ram = s.ram
      ∧ (rejoinExpired s).port = s.port := by
  unfold rejoinExpired; split <;> simp

/-- Changes at most seats, floor, queue, playout, watch, ident, tone, keying, bus, page. -/
@[simp] theorem askIdent_frame (s : State) :
    (askIdent s).pending = s.pending
      ∧ (askIdent s).free = s.free
      ∧ (askIdent s).pins = s.pins
      ∧ (askIdent s).stamp = s.stamp
      ∧ (askIdent s).mode = s.mode
      ∧ (askIdent s).members = s.members
      ∧ (askIdent s).plan = s.plan
      ∧ (askIdent s).station = s.station
      ∧ (askIdent s).duty = s.duty
      ∧ (askIdent s).source = s.source
      ∧ (askIdent s).handovers = s.handovers
      ∧ (askIdent s).ram = s.ram
      ∧ (askIdent s).port = s.port := by
  unfold askIdent; split <;> simp

/-- Changes at most duty. -/
@[simp] theorem tallyMs_frame (s : State) :
    (tallyMs s).pending = s.pending
      ∧ (tallyMs s).free = s.free
      ∧ (tallyMs s).pins = s.pins
      ∧ (tallyMs s).stamp = s.stamp
      ∧ (tallyMs s).mode = s.mode
      ∧ (tallyMs s).members = s.members
      ∧ (tallyMs s).seats = s.seats
      ∧ (tallyMs s).plan = s.plan
      ∧ (tallyMs s).station = s.station
      ∧ (tallyMs s).floor = s.floor
      ∧ (tallyMs s).queue = s.queue
      ∧ (tallyMs s).playout = s.playout
      ∧ (tallyMs s).source = s.source
      ∧ (tallyMs s).watch = s.watch
      ∧ (tallyMs s).ident = s.ident
      ∧ (tallyMs s).tone = s.tone
      ∧ (tallyMs s).keying = s.keying
      ∧ (tallyMs s).bus = s.bus
      ∧ (tallyMs s).handovers = s.handovers
      ∧ (tallyMs s).ram = s.ram
      ∧ (tallyMs s).port = s.port
      ∧ (tallyMs s).page = s.page := by
  unfold tallyMs; split <;> simp

/-- Changes at most floor. -/
@[simp] theorem turnMs_frame (s : State) :
    (turnMs s).pending = s.pending
      ∧ (turnMs s).free = s.free
      ∧ (turnMs s).pins = s.pins
      ∧ (turnMs s).stamp = s.stamp
      ∧ (turnMs s).mode = s.mode
      ∧ (turnMs s).members = s.members
      ∧ (turnMs s).seats = s.seats
      ∧ (turnMs s).plan = s.plan
      ∧ (turnMs s).station = s.station
      ∧ (turnMs s).queue = s.queue
      ∧ (turnMs s).duty = s.duty
      ∧ (turnMs s).playout = s.playout
      ∧ (turnMs s).source = s.source
      ∧ (turnMs s).watch = s.watch
      ∧ (turnMs s).ident = s.ident
      ∧ (turnMs s).tone = s.tone
      ∧ (turnMs s).keying = s.keying
      ∧ (turnMs s).bus = s.bus
      ∧ (turnMs s).handovers = s.handovers
      ∧ (turnMs s).ram = s.ram
      ∧ (turnMs s).port = s.port
      ∧ (turnMs s).page = s.page := by
  unfold turnMs; split <;> simp

/-- Changes at most members. -/
@[simp] theorem useMs_frame (s : State) :
    (useMs s).pending = s.pending
      ∧ (useMs s).free = s.free
      ∧ (useMs s).pins = s.pins
      ∧ (useMs s).stamp = s.stamp
      ∧ (useMs s).mode = s.mode
      ∧ (useMs s).seats = s.seats
      ∧ (useMs s).plan = s.plan
      ∧ (useMs s).station = s.station
      ∧ (useMs s).floor = s.floor
      ∧ (useMs s).queue = s.queue
      ∧ (useMs s).duty = s.duty
      ∧ (useMs s).playout = s.playout
      ∧ (useMs s).source = s.source
      ∧ (useMs s).watch = s.watch
      ∧ (useMs s).ident = s.ident
      ∧ (useMs s).tone = s.tone
      ∧ (useMs s).keying = s.keying
      ∧ (useMs s).bus = s.bus
      ∧ (useMs s).handovers = s.handovers
      ∧ (useMs s).ram = s.ram
      ∧ (useMs s).port = s.port
      ∧ (useMs s).page = s.page := by
  unfold useMs; split <;> simp

/-- Changes at most members, floor, duty. -/
@[simp] theorem keyedMs_frame (s : State) :
    (keyedMs s).pending = s.pending
      ∧ (keyedMs s).free = s.free
      ∧ (keyedMs s).pins = s.pins
      ∧ (keyedMs s).stamp = s.stamp
      ∧ (keyedMs s).mode = s.mode
      ∧ (keyedMs s).seats = s.seats
      ∧ (keyedMs s).plan = s.plan
      ∧ (keyedMs s).station = s.station
      ∧ (keyedMs s).queue = s.queue
      ∧ (keyedMs s).playout = s.playout
      ∧ (keyedMs s).source = s.source
      ∧ (keyedMs s).watch = s.watch
      ∧ (keyedMs s).ident = s.ident
      ∧ (keyedMs s).tone = s.tone
      ∧ (keyedMs s).keying = s.keying
      ∧ (keyedMs s).bus = s.bus
      ∧ (keyedMs s).handovers = s.handovers
      ∧ (keyedMs s).ram = s.ram
      ∧ (keyedMs s).port = s.port
      ∧ (keyedMs s).page = s.page := by
  unfold keyedMs; split <;> simp

/-- Changes at most duty. -/
@[simp] theorem updateHeat_frame (s : State) :
    (updateHeat s).pending = s.pending
      ∧ (updateHeat s).free = s.free
      ∧ (updateHeat s).pins = s.pins
      ∧ (updateHeat s).stamp = s.stamp
      ∧ (updateHeat s).mode = s.mode
      ∧ (updateHeat s).members = s.members
      ∧ (updateHeat s).seats = s.seats
      ∧ (updateHeat s).plan = s.plan
      ∧ (updateHeat s).station = s.station
      ∧ (updateHeat s).floor = s.floor
      ∧ (updateHeat s).queue = s.queue
      ∧ (updateHeat s).playout = s.playout
      ∧ (updateHeat s).source = s.source
      ∧ (updateHeat s).watch = s.watch
      ∧ (updateHeat s).ident = s.ident
      ∧ (updateHeat s).tone = s.tone
      ∧ (updateHeat s).keying = s.keying
      ∧ (updateHeat s).bus = s.bus
      ∧ (updateHeat s).handovers = s.handovers
      ∧ (updateHeat s).ram = s.ram
      ∧ (updateHeat s).port = s.port
      ∧ (updateHeat s).page = s.page := by
  simp [updateHeat]

/-- Changes at most seats, floor, queue, playout, watch, ident, tone, keying, bus, page. -/
@[simp] theorem dutyReport_frame (e : Bool) (s : State) :
    (dutyReport e s).pending = s.pending
      ∧ (dutyReport e s).free = s.free
      ∧ (dutyReport e s).pins = s.pins
      ∧ (dutyReport e s).stamp = s.stamp
      ∧ (dutyReport e s).mode = s.mode
      ∧ (dutyReport e s).members = s.members
      ∧ (dutyReport e s).plan = s.plan
      ∧ (dutyReport e s).station = s.station
      ∧ (dutyReport e s).duty = s.duty
      ∧ (dutyReport e s).source = s.source
      ∧ (dutyReport e s).handovers = s.handovers
      ∧ (dutyReport e s).ram = s.ram
      ∧ (dutyReport e s).port = s.port := by
  simp only [dutyReport]; (repeat' split) <;> simp

/-- Changes at most seats, floor, queue, duty, playout, watch, ident, tone, keying, bus, page. -/
@[simp] theorem dutyExpired_frame (s : State) :
    (dutyExpired s).pending = s.pending
      ∧ (dutyExpired s).free = s.free
      ∧ (dutyExpired s).pins = s.pins
      ∧ (dutyExpired s).stamp = s.stamp
      ∧ (dutyExpired s).mode = s.mode
      ∧ (dutyExpired s).members = s.members
      ∧ (dutyExpired s).plan = s.plan
      ∧ (dutyExpired s).station = s.station
      ∧ (dutyExpired s).source = s.source
      ∧ (dutyExpired s).handovers = s.handovers
      ∧ (dutyExpired s).ram = s.ram
      ∧ (dutyExpired s).port = s.port := by
  simp [dutyExpired]

/-- Changes at most seats, floor, queue, playout, watch, ident, tone, keying, bus, page. -/
@[simp] theorem leadExpired_frame (s : State) :
    (leadExpired s).pending = s.pending
      ∧ (leadExpired s).free = s.free
      ∧ (leadExpired s).pins = s.pins
      ∧ (leadExpired s).stamp = s.stamp
      ∧ (leadExpired s).mode = s.mode
      ∧ (leadExpired s).members = s.members
      ∧ (leadExpired s).plan = s.plan
      ∧ (leadExpired s).station = s.station
      ∧ (leadExpired s).duty = s.duty
      ∧ (leadExpired s).source = s.source
      ∧ (leadExpired s).handovers = s.handovers
      ∧ (leadExpired s).ram = s.ram
      ∧ (leadExpired s).port = s.port := by
  unfold leadExpired; split <;> simp

/-- Changes at most seats, floor, queue, playout, watch, ident, tone, keying, bus, page. -/
@[simp] theorem playoutExpired_frame (s : State) :
    (playoutExpired s).pending = s.pending
      ∧ (playoutExpired s).free = s.free
      ∧ (playoutExpired s).pins = s.pins
      ∧ (playoutExpired s).stamp = s.stamp
      ∧ (playoutExpired s).mode = s.mode
      ∧ (playoutExpired s).members = s.members
      ∧ (playoutExpired s).plan = s.plan
      ∧ (playoutExpired s).station = s.station
      ∧ (playoutExpired s).duty = s.duty
      ∧ (playoutExpired s).source = s.source
      ∧ (playoutExpired s).handovers = s.handovers
      ∧ (playoutExpired s).ram = s.ram
      ∧ (playoutExpired s).port = s.port := by
  unfold playoutExpired; split <;> simp

/-- Changes at most seats, playout. -/
@[simp] theorem trimReached_frame (s : State) :
    (trimReached s).pending = s.pending
      ∧ (trimReached s).free = s.free
      ∧ (trimReached s).pins = s.pins
      ∧ (trimReached s).stamp = s.stamp
      ∧ (trimReached s).mode = s.mode
      ∧ (trimReached s).members = s.members
      ∧ (trimReached s).plan = s.plan
      ∧ (trimReached s).station = s.station
      ∧ (trimReached s).floor = s.floor
      ∧ (trimReached s).queue = s.queue
      ∧ (trimReached s).duty = s.duty
      ∧ (trimReached s).source = s.source
      ∧ (trimReached s).watch = s.watch
      ∧ (trimReached s).ident = s.ident
      ∧ (trimReached s).tone = s.tone
      ∧ (trimReached s).keying = s.keying
      ∧ (trimReached s).bus = s.bus
      ∧ (trimReached s).handovers = s.handovers
      ∧ (trimReached s).ram = s.ram
      ∧ (trimReached s).port = s.port
      ∧ (trimReached s).page = s.page := by
  unfold trimReached; split <;> simp

/-- Changes at most watch. -/
@[simp] theorem windowEnd_frame (s : State) :
    (windowEnd s).pending = s.pending
      ∧ (windowEnd s).free = s.free
      ∧ (windowEnd s).pins = s.pins
      ∧ (windowEnd s).stamp = s.stamp
      ∧ (windowEnd s).mode = s.mode
      ∧ (windowEnd s).members = s.members
      ∧ (windowEnd s).seats = s.seats
      ∧ (windowEnd s).plan = s.plan
      ∧ (windowEnd s).station = s.station
      ∧ (windowEnd s).floor = s.floor
      ∧ (windowEnd s).queue = s.queue
      ∧ (windowEnd s).duty = s.duty
      ∧ (windowEnd s).playout = s.playout
      ∧ (windowEnd s).source = s.source
      ∧ (windowEnd s).ident = s.ident
      ∧ (windowEnd s).tone = s.tone
      ∧ (windowEnd s).keying = s.keying
      ∧ (windowEnd s).bus = s.bus
      ∧ (windowEnd s).handovers = s.handovers
      ∧ (windowEnd s).ram = s.ram
      ∧ (windowEnd s).port = s.port
      ∧ (windowEnd s).page = s.page := by
  unfold windowEnd; split <;> simp

/-- Changes at most playout. -/
@[simp] theorem cwTransition_frame (s : State) :
    (cwTransition s).pending = s.pending
      ∧ (cwTransition s).free = s.free
      ∧ (cwTransition s).pins = s.pins
      ∧ (cwTransition s).stamp = s.stamp
      ∧ (cwTransition s).mode = s.mode
      ∧ (cwTransition s).members = s.members
      ∧ (cwTransition s).seats = s.seats
      ∧ (cwTransition s).plan = s.plan
      ∧ (cwTransition s).station = s.station
      ∧ (cwTransition s).floor = s.floor
      ∧ (cwTransition s).queue = s.queue
      ∧ (cwTransition s).duty = s.duty
      ∧ (cwTransition s).source = s.source
      ∧ (cwTransition s).watch = s.watch
      ∧ (cwTransition s).ident = s.ident
      ∧ (cwTransition s).tone = s.tone
      ∧ (cwTransition s).keying = s.keying
      ∧ (cwTransition s).bus = s.bus
      ∧ (cwTransition s).handovers = s.handovers
      ∧ (cwTransition s).ram = s.ram
      ∧ (cwTransition s).port = s.port
      ∧ (cwTransition s).page = s.page := by
  simp only [cwTransition]; (repeat' split) <;> simp

/-- Changes at most ident. -/
@[simp] theorem becomeOverdue_frame (s : State) :
    (becomeOverdue s).pending = s.pending
      ∧ (becomeOverdue s).free = s.free
      ∧ (becomeOverdue s).pins = s.pins
      ∧ (becomeOverdue s).stamp = s.stamp
      ∧ (becomeOverdue s).mode = s.mode
      ∧ (becomeOverdue s).members = s.members
      ∧ (becomeOverdue s).seats = s.seats
      ∧ (becomeOverdue s).plan = s.plan
      ∧ (becomeOverdue s).station = s.station
      ∧ (becomeOverdue s).floor = s.floor
      ∧ (becomeOverdue s).queue = s.queue
      ∧ (becomeOverdue s).duty = s.duty
      ∧ (becomeOverdue s).playout = s.playout
      ∧ (becomeOverdue s).source = s.source
      ∧ (becomeOverdue s).watch = s.watch
      ∧ (becomeOverdue s).tone = s.tone
      ∧ (becomeOverdue s).keying = s.keying
      ∧ (becomeOverdue s).bus = s.bus
      ∧ (becomeOverdue s).handovers = s.handovers
      ∧ (becomeOverdue s).ram = s.ram
      ∧ (becomeOverdue s).port = s.port
      ∧ (becomeOverdue s).page = s.page := by
  simp [becomeOverdue]

/-- Changes at most seats, floor, queue, playout, watch, ident, tone, keying, bus, page. -/
@[simp] theorem idPendingReport_frame (s : State) :
    (idPendingReport s).pending = s.pending
      ∧ (idPendingReport s).free = s.free
      ∧ (idPendingReport s).pins = s.pins
      ∧ (idPendingReport s).stamp = s.stamp
      ∧ (idPendingReport s).mode = s.mode
      ∧ (idPendingReport s).members = s.members
      ∧ (idPendingReport s).plan = s.plan
      ∧ (idPendingReport s).station = s.station
      ∧ (idPendingReport s).duty = s.duty
      ∧ (idPendingReport s).source = s.source
      ∧ (idPendingReport s).handovers = s.handovers
      ∧ (idPendingReport s).ram = s.ram
      ∧ (idPendingReport s).port = s.port := by
  unfold idPendingReport; split <;> simp

/-- Changes at most seats, floor, queue, playout, watch, ident, tone, keying, bus, page. -/
@[simp] theorem becomePending_frame (s : State) :
    (becomePending s).pending = s.pending
      ∧ (becomePending s).free = s.free
      ∧ (becomePending s).pins = s.pins
      ∧ (becomePending s).stamp = s.stamp
      ∧ (becomePending s).mode = s.mode
      ∧ (becomePending s).members = s.members
      ∧ (becomePending s).plan = s.plan
      ∧ (becomePending s).station = s.station
      ∧ (becomePending s).duty = s.duty
      ∧ (becomePending s).source = s.source
      ∧ (becomePending s).handovers = s.handovers
      ∧ (becomePending s).ram = s.ram
      ∧ (becomePending s).port = s.port := by
  simp only [becomePending]; (repeat' split) <;> simp

/-- Changes at most seats, floor, queue, playout, watch, ident, tone, keying, bus, page. -/
@[simp] theorem periodicExpired_frame (s : State) :
    (periodicExpired s).pending = s.pending
      ∧ (periodicExpired s).free = s.free
      ∧ (periodicExpired s).pins = s.pins
      ∧ (periodicExpired s).stamp = s.stamp
      ∧ (periodicExpired s).mode = s.mode
      ∧ (periodicExpired s).members = s.members
      ∧ (periodicExpired s).plan = s.plan
      ∧ (periodicExpired s).station = s.station
      ∧ (periodicExpired s).duty = s.duty
      ∧ (periodicExpired s).source = s.source
      ∧ (periodicExpired s).handovers = s.handovers
      ∧ (periodicExpired s).ram = s.ram
      ∧ (periodicExpired s).port = s.port := by
  unfold periodicExpired; split <;> simp

/-- Changes at most seats, floor, queue, playout, watch, ident, tone, keying, bus, page. -/
@[simp] theorem closingExpired_frame (s : State) :
    (closingExpired s).pending = s.pending
      ∧ (closingExpired s).free = s.free
      ∧ (closingExpired s).pins = s.pins
      ∧ (closingExpired s).stamp = s.stamp
      ∧ (closingExpired s).mode = s.mode
      ∧ (closingExpired s).members = s.members
      ∧ (closingExpired s).plan = s.plan
      ∧ (closingExpired s).station = s.station
      ∧ (closingExpired s).duty = s.duty
      ∧ (closingExpired s).source = s.source
      ∧ (closingExpired s).handovers = s.handovers
      ∧ (closingExpired s).ram = s.ram
      ∧ (closingExpired s).port = s.port := by
  unfold closingExpired; split <;> simp

/-- Changes at most ident. -/
@[simp] theorem graceExpired_frame (s : State) :
    (graceExpired s).pending = s.pending
      ∧ (graceExpired s).free = s.free
      ∧ (graceExpired s).pins = s.pins
      ∧ (graceExpired s).stamp = s.stamp
      ∧ (graceExpired s).mode = s.mode
      ∧ (graceExpired s).members = s.members
      ∧ (graceExpired s).seats = s.seats
      ∧ (graceExpired s).plan = s.plan
      ∧ (graceExpired s).station = s.station
      ∧ (graceExpired s).floor = s.floor
      ∧ (graceExpired s).queue = s.queue
      ∧ (graceExpired s).duty = s.duty
      ∧ (graceExpired s).playout = s.playout
      ∧ (graceExpired s).source = s.source
      ∧ (graceExpired s).watch = s.watch
      ∧ (graceExpired s).tone = s.tone
      ∧ (graceExpired s).keying = s.keying
      ∧ (graceExpired s).bus = s.bus
      ∧ (graceExpired s).handovers = s.handovers
      ∧ (graceExpired s).ram = s.ram
      ∧ (graceExpired s).port = s.port
      ∧ (graceExpired s).page = s.page := by
  unfold graceExpired; split <;> simp

/-- Changes at most seats, floor, queue, playout, watch, ident, tone, keying, bus, page. -/
@[simp] theorem identDone_frame (snd : Sender) (s : State) :
    (identDone snd s).pending = s.pending
      ∧ (identDone snd s).free = s.free
      ∧ (identDone snd s).pins = s.pins
      ∧ (identDone snd s).stamp = s.stamp
      ∧ (identDone snd s).mode = s.mode
      ∧ (identDone snd s).members = s.members
      ∧ (identDone snd s).plan = s.plan
      ∧ (identDone snd s).station = s.station
      ∧ (identDone snd s).duty = s.duty
      ∧ (identDone snd s).source = s.source
      ∧ (identDone snd s).handovers = s.handovers
      ∧ (identDone snd s).ram = s.ram
      ∧ (identDone snd s).port = s.port := by
  simp [identDone]

/-- Changes at most seats, floor, queue, playout, watch, ident, tone, keying, bus, page. -/
@[simp] theorem idComplete_frame (s : State) :
    (idComplete s).pending = s.pending
      ∧ (idComplete s).free = s.free
      ∧ (idComplete s).pins = s.pins
      ∧ (idComplete s).stamp = s.stamp
      ∧ (idComplete s).mode = s.mode
      ∧ (idComplete s).members = s.members
      ∧ (idComplete s).plan = s.plan
      ∧ (idComplete s).station = s.station
      ∧ (idComplete s).duty = s.duty
      ∧ (idComplete s).source = s.source
      ∧ (idComplete s).handovers = s.handovers
      ∧ (idComplete s).ram = s.ram
      ∧ (idComplete s).port = s.port := by
  simp only [idComplete]; (repeat' split) <;> simp

/-- Changes at most seats, watch, ident. -/
@[simp] theorem overlayDone_frame (snd : Sender) (s : State) :
    (overlayDone snd s).pending = s.pending
      ∧ (overlayDone snd s).free = s.free
      ∧ (overlayDone snd s).pins = s.pins
      ∧ (overlayDone snd s).stamp = s.stamp
      ∧ (overlayDone snd s).mode = s.mode
      ∧ (overlayDone snd s).members = s.members
      ∧ (overlayDone snd s).plan = s.plan
      ∧ (overlayDone snd s).station = s.station
      ∧ (overlayDone snd s).floor = s.floor
      ∧ (overlayDone snd s).queue = s.queue
      ∧ (overlayDone snd s).duty = s.duty
      ∧ (overlayDone snd s).playout = s.playout
      ∧ (overlayDone snd s).source = s.source
      ∧ (overlayDone snd s).tone = s.tone
      ∧ (overlayDone snd s).keying = s.keying
      ∧ (overlayDone snd s).bus = s.bus
      ∧ (overlayDone snd s).handovers = s.handovers
      ∧ (overlayDone snd s).ram = s.ram
      ∧ (overlayDone snd s).port = s.port
      ∧ (overlayDone snd s).page = s.page := by
  simp only [overlayDone]; (repeat' split) <;> simp

/-- Changes at most seats, watch, ident. -/
@[simp] theorem overlayComplete_frame (s : State) :
    (overlayComplete s).pending = s.pending
      ∧ (overlayComplete s).free = s.free
      ∧ (overlayComplete s).pins = s.pins
      ∧ (overlayComplete s).stamp = s.stamp
      ∧ (overlayComplete s).mode = s.mode
      ∧ (overlayComplete s).members = s.members
      ∧ (overlayComplete s).plan = s.plan
      ∧ (overlayComplete s).station = s.station
      ∧ (overlayComplete s).floor = s.floor
      ∧ (overlayComplete s).queue = s.queue
      ∧ (overlayComplete s).duty = s.duty
      ∧ (overlayComplete s).playout = s.playout
      ∧ (overlayComplete s).source = s.source
      ∧ (overlayComplete s).tone = s.tone
      ∧ (overlayComplete s).keying = s.keying
      ∧ (overlayComplete s).bus = s.bus
      ∧ (overlayComplete s).handovers = s.handovers
      ∧ (overlayComplete s).ram = s.ram
      ∧ (overlayComplete s).port = s.port
      ∧ (overlayComplete s).page = s.page := by
  simp only [overlayComplete]; (repeat' split) <;> simp

/-- Changes at most seats, floor, queue, playout, watch, ident, tone, keying, bus, page. -/
@[simp] theorem elementEnd_frame (s : State) :
    (elementEnd s).pending = s.pending
      ∧ (elementEnd s).free = s.free
      ∧ (elementEnd s).pins = s.pins
      ∧ (elementEnd s).stamp = s.stamp
      ∧ (elementEnd s).mode = s.mode
      ∧ (elementEnd s).members = s.members
      ∧ (elementEnd s).plan = s.plan
      ∧ (elementEnd s).station = s.station
      ∧ (elementEnd s).duty = s.duty
      ∧ (elementEnd s).source = s.source
      ∧ (elementEnd s).handovers = s.handovers
      ∧ (elementEnd s).ram = s.ram
      ∧ (elementEnd s).port = s.port := by
  simp only [elementEnd]; (repeat' split) <;> simp

/-- Changes at most tone. -/
@[simp] theorem toggleGate_frame (s : State) :
    (toggleGate s).pending = s.pending
      ∧ (toggleGate s).free = s.free
      ∧ (toggleGate s).pins = s.pins
      ∧ (toggleGate s).stamp = s.stamp
      ∧ (toggleGate s).mode = s.mode
      ∧ (toggleGate s).members = s.members
      ∧ (toggleGate s).seats = s.seats
      ∧ (toggleGate s).plan = s.plan
      ∧ (toggleGate s).station = s.station
      ∧ (toggleGate s).floor = s.floor
      ∧ (toggleGate s).queue = s.queue
      ∧ (toggleGate s).duty = s.duty
      ∧ (toggleGate s).playout = s.playout
      ∧ (toggleGate s).source = s.source
      ∧ (toggleGate s).watch = s.watch
      ∧ (toggleGate s).ident = s.ident
      ∧ (toggleGate s).keying = s.keying
      ∧ (toggleGate s).bus = s.bus
      ∧ (toggleGate s).handovers = s.handovers
      ∧ (toggleGate s).ram = s.ram
      ∧ (toggleGate s).port = s.port
      ∧ (toggleGate s).page = s.page := by
  unfold toggleGate; split <;> simp

/-- Changes at most seats, floor, queue, playout, watch, ident, tone, keying, bus, page. -/
@[simp] theorem inhibitReport_frame (s : State) :
    (inhibitReport s).pending = s.pending
      ∧ (inhibitReport s).free = s.free
      ∧ (inhibitReport s).pins = s.pins
      ∧ (inhibitReport s).stamp = s.stamp
      ∧ (inhibitReport s).mode = s.mode
      ∧ (inhibitReport s).members = s.members
      ∧ (inhibitReport s).plan = s.plan
      ∧ (inhibitReport s).station = s.station
      ∧ (inhibitReport s).duty = s.duty
      ∧ (inhibitReport s).source = s.source
      ∧ (inhibitReport s).handovers = s.handovers
      ∧ (inhibitReport s).ram = s.ram
      ∧ (inhibitReport s).port = s.port := by
  unfold inhibitReport; split <;> simp

/-- Changes at most pins. -/
@[simp] theorem setInhibit_frame (l : Bool) (s : State) :
    (setInhibit l s).pending = s.pending
      ∧ (setInhibit l s).free = s.free
      ∧ (setInhibit l s).stamp = s.stamp
      ∧ (setInhibit l s).mode = s.mode
      ∧ (setInhibit l s).members = s.members
      ∧ (setInhibit l s).seats = s.seats
      ∧ (setInhibit l s).plan = s.plan
      ∧ (setInhibit l s).station = s.station
      ∧ (setInhibit l s).floor = s.floor
      ∧ (setInhibit l s).queue = s.queue
      ∧ (setInhibit l s).duty = s.duty
      ∧ (setInhibit l s).playout = s.playout
      ∧ (setInhibit l s).source = s.source
      ∧ (setInhibit l s).watch = s.watch
      ∧ (setInhibit l s).ident = s.ident
      ∧ (setInhibit l s).tone = s.tone
      ∧ (setInhibit l s).keying = s.keying
      ∧ (setInhibit l s).bus = s.bus
      ∧ (setInhibit l s).handovers = s.handovers
      ∧ (setInhibit l s).ram = s.ram
      ∧ (setInhibit l s).port = s.port
      ∧ (setInhibit l s).page = s.page := by
  simp [setInhibit]

/-- Changes at most pins, seats, floor, queue, playout, watch, ident, tone, keying, bus, page. -/
@[simp] theorem inhibitTaken_frame (s : State) :
    (inhibitTaken s).pending = s.pending
      ∧ (inhibitTaken s).free = s.free
      ∧ (inhibitTaken s).stamp = s.stamp
      ∧ (inhibitTaken s).mode = s.mode
      ∧ (inhibitTaken s).members = s.members
      ∧ (inhibitTaken s).plan = s.plan
      ∧ (inhibitTaken s).station = s.station
      ∧ (inhibitTaken s).duty = s.duty
      ∧ (inhibitTaken s).source = s.source
      ∧ (inhibitTaken s).handovers = s.handovers
      ∧ (inhibitTaken s).ram = s.ram
      ∧ (inhibitTaken s).port = s.port := by
  simp [inhibitTaken]

/-- Changes at most pins, seats, floor, queue, playout, watch, ident, bus, page. -/
@[simp] theorem inhibitCleared_frame (s : State) :
    (inhibitCleared s).pending = s.pending
      ∧ (inhibitCleared s).free = s.free
      ∧ (inhibitCleared s).stamp = s.stamp
      ∧ (inhibitCleared s).mode = s.mode
      ∧ (inhibitCleared s).members = s.members
      ∧ (inhibitCleared s).plan = s.plan
      ∧ (inhibitCleared s).station = s.station
      ∧ (inhibitCleared s).duty = s.duty
      ∧ (inhibitCleared s).source = s.source
      ∧ (inhibitCleared s).tone = s.tone
      ∧ (inhibitCleared s).keying = s.keying
      ∧ (inhibitCleared s).handovers = s.handovers
      ∧ (inhibitCleared s).ram = s.ram
      ∧ (inhibitCleared s).port = s.port := by
  simp only [inhibitCleared]; (repeat' split) <;> simp

/-- Changes at most pins. -/
@[simp] theorem setAmpFault_frame (l : Bool) (s : State) :
    (setAmpFault l s).pending = s.pending
      ∧ (setAmpFault l s).free = s.free
      ∧ (setAmpFault l s).stamp = s.stamp
      ∧ (setAmpFault l s).mode = s.mode
      ∧ (setAmpFault l s).members = s.members
      ∧ (setAmpFault l s).seats = s.seats
      ∧ (setAmpFault l s).plan = s.plan
      ∧ (setAmpFault l s).station = s.station
      ∧ (setAmpFault l s).floor = s.floor
      ∧ (setAmpFault l s).queue = s.queue
      ∧ (setAmpFault l s).duty = s.duty
      ∧ (setAmpFault l s).playout = s.playout
      ∧ (setAmpFault l s).source = s.source
      ∧ (setAmpFault l s).watch = s.watch
      ∧ (setAmpFault l s).ident = s.ident
      ∧ (setAmpFault l s).tone = s.tone
      ∧ (setAmpFault l s).keying = s.keying
      ∧ (setAmpFault l s).bus = s.bus
      ∧ (setAmpFault l s).handovers = s.handovers
      ∧ (setAmpFault l s).ram = s.ram
      ∧ (setAmpFault l s).port = s.port
      ∧ (setAmpFault l s).page = s.page := by
  simp [setAmpFault]

/-- Changes at most pins, seats, floor, queue, playout, watch, ident, tone, keying, bus, page. -/
@[simp] theorem ampFaultTaken_frame (s : State) :
    (ampFaultTaken s).pending = s.pending
      ∧ (ampFaultTaken s).free = s.free
      ∧ (ampFaultTaken s).stamp = s.stamp
      ∧ (ampFaultTaken s).mode = s.mode
      ∧ (ampFaultTaken s).members = s.members
      ∧ (ampFaultTaken s).plan = s.plan
      ∧ (ampFaultTaken s).station = s.station
      ∧ (ampFaultTaken s).duty = s.duty
      ∧ (ampFaultTaken s).source = s.source
      ∧ (ampFaultTaken s).handovers = s.handovers
      ∧ (ampFaultTaken s).ram = s.ram
      ∧ (ampFaultTaken s).port = s.port := by
  simp only [ampFaultTaken]; (repeat' split) <;> simp

/-- Changes at most bus. -/
@[simp] theorem placePoll_frame (s : State) :
    (placePoll s).pending = s.pending
      ∧ (placePoll s).free = s.free
      ∧ (placePoll s).pins = s.pins
      ∧ (placePoll s).stamp = s.stamp
      ∧ (placePoll s).mode = s.mode
      ∧ (placePoll s).members = s.members
      ∧ (placePoll s).seats = s.seats
      ∧ (placePoll s).plan = s.plan
      ∧ (placePoll s).station = s.station
      ∧ (placePoll s).floor = s.floor
      ∧ (placePoll s).queue = s.queue
      ∧ (placePoll s).duty = s.duty
      ∧ (placePoll s).playout = s.playout
      ∧ (placePoll s).source = s.source
      ∧ (placePoll s).watch = s.watch
      ∧ (placePoll s).ident = s.ident
      ∧ (placePoll s).tone = s.tone
      ∧ (placePoll s).keying = s.keying
      ∧ (placePoll s).handovers = s.handovers
      ∧ (placePoll s).ram = s.ram
      ∧ (placePoll s).port = s.port
      ∧ (placePoll s).page = s.page := by
  unfold placePoll; split <;> simp

/-- Changes at most keying, bus. -/
@[simp] theorem pollExpired_frame (s : State) :
    (pollExpired s).pending = s.pending
      ∧ (pollExpired s).free = s.free
      ∧ (pollExpired s).pins = s.pins
      ∧ (pollExpired s).stamp = s.stamp
      ∧ (pollExpired s).mode = s.mode
      ∧ (pollExpired s).members = s.members
      ∧ (pollExpired s).seats = s.seats
      ∧ (pollExpired s).plan = s.plan
      ∧ (pollExpired s).station = s.station
      ∧ (pollExpired s).floor = s.floor
      ∧ (pollExpired s).queue = s.queue
      ∧ (pollExpired s).duty = s.duty
      ∧ (pollExpired s).playout = s.playout
      ∧ (pollExpired s).source = s.source
      ∧ (pollExpired s).watch = s.watch
      ∧ (pollExpired s).ident = s.ident
      ∧ (pollExpired s).tone = s.tone
      ∧ (pollExpired s).handovers = s.handovers
      ∧ (pollExpired s).ram = s.ram
      ∧ (pollExpired s).port = s.port
      ∧ (pollExpired s).page = s.page := by
  unfold pollExpired; split <;> simp

/-- Changes at most seats, floor, queue, playout, watch, ident, tone, keying, bus, page. -/
@[simp] theorem noStatusReport_frame (s : State) :
    (noStatusReport s).pending = s.pending
      ∧ (noStatusReport s).free = s.free
      ∧ (noStatusReport s).pins = s.pins
      ∧ (noStatusReport s).stamp = s.stamp
      ∧ (noStatusReport s).mode = s.mode
      ∧ (noStatusReport s).members = s.members
      ∧ (noStatusReport s).plan = s.plan
      ∧ (noStatusReport s).station = s.station
      ∧ (noStatusReport s).duty = s.duty
      ∧ (noStatusReport s).source = s.source
      ∧ (noStatusReport s).handovers = s.handovers
      ∧ (noStatusReport s).ram = s.ram
      ∧ (noStatusReport s).port = s.port := by
  simp [noStatusReport]

/-- Changes at most seats, floor, queue, playout, watch, ident, tone, keying, bus, page. -/
@[simp] theorem pollFailed_frame (s : State) :
    (pollFailed s).pending = s.pending
      ∧ (pollFailed s).free = s.free
      ∧ (pollFailed s).pins = s.pins
      ∧ (pollFailed s).stamp = s.stamp
      ∧ (pollFailed s).mode = s.mode
      ∧ (pollFailed s).members = s.members
      ∧ (pollFailed s).plan = s.plan
      ∧ (pollFailed s).station = s.station
      ∧ (pollFailed s).duty = s.duty
      ∧ (pollFailed s).source = s.source
      ∧ (pollFailed s).handovers = s.handovers
      ∧ (pollFailed s).ram = s.ram
      ∧ (pollFailed s).port = s.port := by
  unfold pollFailed; split <;> simp

/-- Changes at most seats, floor, queue, playout, watch, ident, tone, keying, bus, page. -/
@[simp] theorem noStatusReached_frame (s : State) :
    (noStatusReached s).pending = s.pending
      ∧ (noStatusReached s).free = s.free
      ∧ (noStatusReached s).pins = s.pins
      ∧ (noStatusReached s).stamp = s.stamp
      ∧ (noStatusReached s).mode = s.mode
      ∧ (noStatusReached s).members = s.members
      ∧ (noStatusReached s).plan = s.plan
      ∧ (noStatusReached s).station = s.station
      ∧ (noStatusReached s).duty = s.duty
      ∧ (noStatusReached s).source = s.source
      ∧ (noStatusReached s).handovers = s.handovers
      ∧ (noStatusReached s).ram = s.ram
      ∧ (noStatusReached s).port = s.port := by
  unfold noStatusReached; split <;> simp

/-- Changes at most seats, floor, queue, playout, watch, ident, tone, keying, bus, page. -/
@[simp] theorem pollFault_frame (s : State) :
    (pollFault s).pending = s.pending
      ∧ (pollFault s).free = s.free
      ∧ (pollFault s).pins = s.pins
      ∧ (pollFault s).stamp = s.stamp
      ∧ (pollFault s).mode = s.mode
      ∧ (pollFault s).members = s.members
      ∧ (pollFault s).plan = s.plan
      ∧ (pollFault s).station = s.station
      ∧ (pollFault s).duty = s.duty
      ∧ (pollFault s).source = s.source
      ∧ (pollFault s).handovers = s.handovers
      ∧ (pollFault s).ram = s.ram
      ∧ (pollFault s).port = s.port := by
  simp only [pollFault]; (repeat' split) <;> simp

/-- Changes at most seats, floor, queue, playout, watch, ident, tone, keying, bus, page. -/
@[simp] theorem pollAnswered_frame (f w : Byte) (s : State) :
    (pollAnswered f w s).pending = s.pending
      ∧ (pollAnswered f w s).free = s.free
      ∧ (pollAnswered f w s).pins = s.pins
      ∧ (pollAnswered f w s).stamp = s.stamp
      ∧ (pollAnswered f w s).mode = s.mode
      ∧ (pollAnswered f w s).members = s.members
      ∧ (pollAnswered f w s).plan = s.plan
      ∧ (pollAnswered f w s).station = s.station
      ∧ (pollAnswered f w s).duty = s.duty
      ∧ (pollAnswered f w s).source = s.source
      ∧ (pollAnswered f w s).handovers = s.handovers
      ∧ (pollAnswered f w s).ram = s.ram
      ∧ (pollAnswered f w s).port = s.port := by
  simp only [pollAnswered]; (repeat' split) <;> simp

/-- Changes at most seats, floor, queue, playout, watch, ident, tone, keying, bus, page. -/
@[simp] theorem setupReport_frame (i : SetupItem) (o : TxnOutcome) (s : State) :
    (setupReport i o s).pending = s.pending
      ∧ (setupReport i o s).free = s.free
      ∧ (setupReport i o s).pins = s.pins
      ∧ (setupReport i o s).stamp = s.stamp
      ∧ (setupReport i o s).mode = s.mode
      ∧ (setupReport i o s).members = s.members
      ∧ (setupReport i o s).plan = s.plan
      ∧ (setupReport i o s).station = s.station
      ∧ (setupReport i o s).duty = s.duty
      ∧ (setupReport i o s).source = s.source
      ∧ (setupReport i o s).handovers = s.handovers
      ∧ (setupReport i o s).ram = s.ram
      ∧ (setupReport i o s).port = s.port := by
  simp only [setupReport]; (repeat' split) <;> simp

/-- Changes at most seats, floor, queue, playout, watch, ident, tone, keying, bus, page. -/
@[simp] theorem pollReport_frame (o : TxnOutcome) (r : List Byte) (s : State) :
    (pollReport o r s).pending = s.pending
      ∧ (pollReport o r s).free = s.free
      ∧ (pollReport o r s).pins = s.pins
      ∧ (pollReport o r s).stamp = s.stamp
      ∧ (pollReport o r s).mode = s.mode
      ∧ (pollReport o r s).members = s.members
      ∧ (pollReport o r s).plan = s.plan
      ∧ (pollReport o r s).station = s.station
      ∧ (pollReport o r s).duty = s.duty
      ∧ (pollReport o r s).source = s.source
      ∧ (pollReport o r s).handovers = s.handovers
      ∧ (pollReport o r s).ram = s.ram
      ∧ (pollReport o r s).port = s.port := by
  simp only [pollReport]; (repeat' split) <;> simp

/-- Changes at most seats, floor, queue, playout, watch, ident, tone, keying, bus, ram, port, page. -/
@[simp] theorem reportOutcome_frame (t : Txn) (o : TxnOutcome) (r : List Byte) (s : State) :
    (reportOutcome t o r s).pending = s.pending
      ∧ (reportOutcome t o r s).free = s.free
      ∧ (reportOutcome t o r s).pins = s.pins
      ∧ (reportOutcome t o r s).stamp = s.stamp
      ∧ (reportOutcome t o r s).mode = s.mode
      ∧ (reportOutcome t o r s).members = s.members
      ∧ (reportOutcome t o r s).plan = s.plan
      ∧ (reportOutcome t o r s).station = s.station
      ∧ (reportOutcome t o r s).duty = s.duty
      ∧ (reportOutcome t o r s).source = s.source
      ∧ (reportOutcome t o r s).handovers = s.handovers := by
  unfold reportOutcome; split <;> simp

/-- Changes at most seats, floor, queue, playout, watch, ident, tone, keying, bus, ram, port, page. -/
@[simp] theorem finishTxn_frame (t : Txn) (o : TxnOutcome) (r : List Byte) (s : State) :
    (finishTxn t o r s).pending = s.pending
      ∧ (finishTxn t o r s).free = s.free
      ∧ (finishTxn t o r s).pins = s.pins
      ∧ (finishTxn t o r s).stamp = s.stamp
      ∧ (finishTxn t o r s).mode = s.mode
      ∧ (finishTxn t o r s).members = s.members
      ∧ (finishTxn t o r s).plan = s.plan
      ∧ (finishTxn t o r s).station = s.station
      ∧ (finishTxn t o r s).duty = s.duty
      ∧ (finishTxn t o r s).source = s.source
      ∧ (finishTxn t o r s).handovers = s.handovers := by
  simp [finishTxn]

/-- Changes at most bus. -/
@[simp] theorem openAttempt_frame (t : Txn) (s : State) :
    (openAttempt t s).pending = s.pending
      ∧ (openAttempt t s).free = s.free
      ∧ (openAttempt t s).pins = s.pins
      ∧ (openAttempt t s).stamp = s.stamp
      ∧ (openAttempt t s).mode = s.mode
      ∧ (openAttempt t s).members = s.members
      ∧ (openAttempt t s).seats = s.seats
      ∧ (openAttempt t s).plan = s.plan
      ∧ (openAttempt t s).station = s.station
      ∧ (openAttempt t s).floor = s.floor
      ∧ (openAttempt t s).queue = s.queue
      ∧ (openAttempt t s).duty = s.duty
      ∧ (openAttempt t s).playout = s.playout
      ∧ (openAttempt t s).source = s.source
      ∧ (openAttempt t s).watch = s.watch
      ∧ (openAttempt t s).ident = s.ident
      ∧ (openAttempt t s).tone = s.tone
      ∧ (openAttempt t s).keying = s.keying
      ∧ (openAttempt t s).handovers = s.handovers
      ∧ (openAttempt t s).ram = s.ram
      ∧ (openAttempt t s).port = s.port
      ∧ (openAttempt t s).page = s.page := by
  simp [openAttempt]

/-- Changes at most seats, floor, queue, playout, watch, ident, tone, keying, bus, ram, port, page. -/
@[simp] theorem startTransaction_frame (s : State) :
    (startTransaction s).pending = s.pending
      ∧ (startTransaction s).free = s.free
      ∧ (startTransaction s).pins = s.pins
      ∧ (startTransaction s).stamp = s.stamp
      ∧ (startTransaction s).mode = s.mode
      ∧ (startTransaction s).members = s.members
      ∧ (startTransaction s).plan = s.plan
      ∧ (startTransaction s).station = s.station
      ∧ (startTransaction s).duty = s.duty
      ∧ (startTransaction s).source = s.source
      ∧ (startTransaction s).handovers = s.handovers := by
  simp only [startTransaction]; (repeat' split) <;> simp

/-- Changes at most bus. -/
@[simp] theorem hear_frame (b : Option Byte) (s : State) :
    (hear b s).pending = s.pending
      ∧ (hear b s).free = s.free
      ∧ (hear b s).pins = s.pins
      ∧ (hear b s).stamp = s.stamp
      ∧ (hear b s).mode = s.mode
      ∧ (hear b s).members = s.members
      ∧ (hear b s).seats = s.seats
      ∧ (hear b s).plan = s.plan
      ∧ (hear b s).station = s.station
      ∧ (hear b s).floor = s.floor
      ∧ (hear b s).queue = s.queue
      ∧ (hear b s).duty = s.duty
      ∧ (hear b s).playout = s.playout
      ∧ (hear b s).source = s.source
      ∧ (hear b s).watch = s.watch
      ∧ (hear b s).ident = s.ident
      ∧ (hear b s).tone = s.tone
      ∧ (hear b s).keying = s.keying
      ∧ (hear b s).handovers = s.handovers
      ∧ (hear b s).ram = s.ram
      ∧ (hear b s).port = s.port
      ∧ (hear b s).page = s.page := by
  simp only [hear]; (repeat' split) <;> simp

/-- Changes at most bus. -/
@[simp] theorem sendClosing_frame (s : State) :
    (sendClosing s).pending = s.pending
      ∧ (sendClosing s).free = s.free
      ∧ (sendClosing s).pins = s.pins
      ∧ (sendClosing s).stamp = s.stamp
      ∧ (sendClosing s).mode = s.mode
      ∧ (sendClosing s).members = s.members
      ∧ (sendClosing s).seats = s.seats
      ∧ (sendClosing s).plan = s.plan
      ∧ (sendClosing s).station = s.station
      ∧ (sendClosing s).floor = s.floor
      ∧ (sendClosing s).queue = s.queue
      ∧ (sendClosing s).duty = s.duty
      ∧ (sendClosing s).playout = s.playout
      ∧ (sendClosing s).source = s.source
      ∧ (sendClosing s).watch = s.watch
      ∧ (sendClosing s).ident = s.ident
      ∧ (sendClosing s).tone = s.tone
      ∧ (sendClosing s).keying = s.keying
      ∧ (sendClosing s).handovers = s.handovers
      ∧ (sendClosing s).ram = s.ram
      ∧ (sendClosing s).port = s.port
      ∧ (sendClosing s).page = s.page := by
  simp [sendClosing]

/-- Changes at most seats, floor, queue, playout, watch, ident, tone, keying, bus, ram, port, page. -/
@[simp] theorem attemptRefused_frame (t : Txn) (s : State) :
    (attemptRefused t s).pending = s.pending
      ∧ (attemptRefused t s).free = s.free
      ∧ (attemptRefused t s).pins = s.pins
      ∧ (attemptRefused t s).stamp = s.stamp
      ∧ (attemptRefused t s).mode = s.mode
      ∧ (attemptRefused t s).members = s.members
      ∧ (attemptRefused t s).plan = s.plan
      ∧ (attemptRefused t s).station = s.station
      ∧ (attemptRefused t s).duty = s.duty
      ∧ (attemptRefused t s).source = s.source
      ∧ (attemptRefused t s).handovers = s.handovers := by
  unfold attemptRefused; split <;> simp

/-- Changes at most bus. -/
@[simp] theorem takeUp_frame (k : Nat) (o : List Byte) (s : State) :
    (takeUp k o s).pending = s.pending
      ∧ (takeUp k o s).free = s.free
      ∧ (takeUp k o s).pins = s.pins
      ∧ (takeUp k o s).stamp = s.stamp
      ∧ (takeUp k o s).mode = s.mode
      ∧ (takeUp k o s).members = s.members
      ∧ (takeUp k o s).seats = s.seats
      ∧ (takeUp k o s).plan = s.plan
      ∧ (takeUp k o s).station = s.station
      ∧ (takeUp k o s).floor = s.floor
      ∧ (takeUp k o s).queue = s.queue
      ∧ (takeUp k o s).duty = s.duty
      ∧ (takeUp k o s).playout = s.playout
      ∧ (takeUp k o s).source = s.source
      ∧ (takeUp k o s).watch = s.watch
      ∧ (takeUp k o s).ident = s.ident
      ∧ (takeUp k o s).tone = s.tone
      ∧ (takeUp k o s).keying = s.keying
      ∧ (takeUp k o s).handovers = s.handovers
      ∧ (takeUp k o s).ram = s.ram
      ∧ (takeUp k o s).port = s.port
      ∧ (takeUp k o s).page = s.page := by
  simp only [takeUp]; split <;> simp

/-- Changes at most seats, floor, queue, playout, watch, ident, tone, keying, bus, ram, port, page. -/
@[simp] theorem countLoss_frame (t : Txn) (s : State) :
    (countLoss t s).pending = s.pending
      ∧ (countLoss t s).free = s.free
      ∧ (countLoss t s).pins = s.pins
      ∧ (countLoss t s).stamp = s.stamp
      ∧ (countLoss t s).mode = s.mode
      ∧ (countLoss t s).members = s.members
      ∧ (countLoss t s).plan = s.plan
      ∧ (countLoss t s).station = s.station
      ∧ (countLoss t s).duty = s.duty
      ∧ (countLoss t s).source = s.source
      ∧ (countLoss t s).handovers = s.handovers := by
  simp only [countLoss]; split <;> simp

/-- Changes at most seats, floor, queue, playout, watch, ident, tone, keying, bus, ram, port, page. -/
@[simp] theorem attemptLost_frame (o : List Byte) (t : Txn) (s : State) :
    (attemptLost o t s).pending = s.pending
      ∧ (attemptLost o t s).free = s.free
      ∧ (attemptLost o t s).pins = s.pins
      ∧ (attemptLost o t s).stamp = s.stamp
      ∧ (attemptLost o t s).mode = s.mode
      ∧ (attemptLost o t s).members = s.members
      ∧ (attemptLost o t s).plan = s.plan
      ∧ (attemptLost o t s).station = s.station
      ∧ (attemptLost o t s).duty = s.duty
      ∧ (attemptLost o t s).source = s.source
      ∧ (attemptLost o t s).handovers = s.handovers := by
  simp only [attemptLost]; (repeat' split) <;> simp

/-- Changes at most seats, floor, queue, playout, watch, ident, tone, keying, bus, ram, port, page. -/
@[simp] theorem attemptEnd_frame (e : AttemptEnd) (s : State) :
    (attemptEnd e s).pending = s.pending
      ∧ (attemptEnd e s).free = s.free
      ∧ (attemptEnd e s).pins = s.pins
      ∧ (attemptEnd e s).stamp = s.stamp
      ∧ (attemptEnd e s).mode = s.mode
      ∧ (attemptEnd e s).members = s.members
      ∧ (attemptEnd e s).plan = s.plan
      ∧ (attemptEnd e s).station = s.station
      ∧ (attemptEnd e s).duty = s.duty
      ∧ (attemptEnd e s).source = s.source
      ∧ (attemptEnd e s).handovers = s.handovers := by
  simp only [attemptEnd]; (repeat' split) <;> simp

/-- Changes at most bus. -/
@[simp] theorem closeFrame_frame (f : CommandFrame) (s : State) :
    (closeFrame f s).pending = s.pending
      ∧ (closeFrame f s).free = s.free
      ∧ (closeFrame f s).pins = s.pins
      ∧ (closeFrame f s).stamp = s.stamp
      ∧ (closeFrame f s).mode = s.mode
      ∧ (closeFrame f s).members = s.members
      ∧ (closeFrame f s).seats = s.seats
      ∧ (closeFrame f s).plan = s.plan
      ∧ (closeFrame f s).station = s.station
      ∧ (closeFrame f s).floor = s.floor
      ∧ (closeFrame f s).queue = s.queue
      ∧ (closeFrame f s).duty = s.duty
      ∧ (closeFrame f s).playout = s.playout
      ∧ (closeFrame f s).source = s.source
      ∧ (closeFrame f s).watch = s.watch
      ∧ (closeFrame f s).ident = s.ident
      ∧ (closeFrame f s).tone = s.tone
      ∧ (closeFrame f s).keying = s.keying
      ∧ (closeFrame f s).handovers = s.handovers
      ∧ (closeFrame f s).ram = s.ram
      ∧ (closeFrame f s).port = s.port
      ∧ (closeFrame f s).page = s.page := by
  unfold closeFrame; split <;> simp

/-- Changes at most bus. -/
@[simp] theorem fillInbound_frame (m : Option PanelMessage) (s : State) :
    (fillInbound m s).pending = s.pending
      ∧ (fillInbound m s).free = s.free
      ∧ (fillInbound m s).pins = s.pins
      ∧ (fillInbound m s).stamp = s.stamp
      ∧ (fillInbound m s).mode = s.mode
      ∧ (fillInbound m s).members = s.members
      ∧ (fillInbound m s).seats = s.seats
      ∧ (fillInbound m s).plan = s.plan
      ∧ (fillInbound m s).station = s.station
      ∧ (fillInbound m s).floor = s.floor
      ∧ (fillInbound m s).queue = s.queue
      ∧ (fillInbound m s).duty = s.duty
      ∧ (fillInbound m s).playout = s.playout
      ∧ (fillInbound m s).source = s.source
      ∧ (fillInbound m s).watch = s.watch
      ∧ (fillInbound m s).ident = s.ident
      ∧ (fillInbound m s).tone = s.tone
      ∧ (fillInbound m s).keying = s.keying
      ∧ (fillInbound m s).handovers = s.handovers
      ∧ (fillInbound m s).ram = s.ram
      ∧ (fillInbound m s).port = s.port
      ∧ (fillInbound m s).page = s.page := by
  unfold fillInbound; split <;> simp

/-- Changes at most bus. -/
@[simp] theorem holdFrame_frame (f : CommandFrame) (s : State) :
    (holdFrame f s).pending = s.pending
      ∧ (holdFrame f s).free = s.free
      ∧ (holdFrame f s).pins = s.pins
      ∧ (holdFrame f s).stamp = s.stamp
      ∧ (holdFrame f s).mode = s.mode
      ∧ (holdFrame f s).members = s.members
      ∧ (holdFrame f s).seats = s.seats
      ∧ (holdFrame f s).plan = s.plan
      ∧ (holdFrame f s).station = s.station
      ∧ (holdFrame f s).floor = s.floor
      ∧ (holdFrame f s).queue = s.queue
      ∧ (holdFrame f s).duty = s.duty
      ∧ (holdFrame f s).playout = s.playout
      ∧ (holdFrame f s).source = s.source
      ∧ (holdFrame f s).watch = s.watch
      ∧ (holdFrame f s).ident = s.ident
      ∧ (holdFrame f s).tone = s.tone
      ∧ (holdFrame f s).keying = s.keying
      ∧ (holdFrame f s).handovers = s.handovers
      ∧ (holdFrame f s).ram = s.ram
      ∧ (holdFrame f s).port = s.port
      ∧ (holdFrame f s).page = s.page := by
  unfold holdFrame; split <;> simp

/-- Changes at most bus. -/
@[simp] theorem foreignFrame_frame (f : CommandFrame) (s : State) :
    (foreignFrame f s).pending = s.pending
      ∧ (foreignFrame f s).free = s.free
      ∧ (foreignFrame f s).pins = s.pins
      ∧ (foreignFrame f s).stamp = s.stamp
      ∧ (foreignFrame f s).mode = s.mode
      ∧ (foreignFrame f s).members = s.members
      ∧ (foreignFrame f s).seats = s.seats
      ∧ (foreignFrame f s).plan = s.plan
      ∧ (foreignFrame f s).station = s.station
      ∧ (foreignFrame f s).floor = s.floor
      ∧ (foreignFrame f s).queue = s.queue
      ∧ (foreignFrame f s).duty = s.duty
      ∧ (foreignFrame f s).playout = s.playout
      ∧ (foreignFrame f s).source = s.source
      ∧ (foreignFrame f s).watch = s.watch
      ∧ (foreignFrame f s).ident = s.ident
      ∧ (foreignFrame f s).tone = s.tone
      ∧ (foreignFrame f s).keying = s.keying
      ∧ (foreignFrame f s).handovers = s.handovers
      ∧ (foreignFrame f s).ram = s.ram
      ∧ (foreignFrame f s).port = s.port
      ∧ (foreignFrame f s).page = s.page := by
  simp only [foreignFrame]; (repeat' split) <;> simp

/-- Changes at most bus. -/
@[simp] theorem foreignOpening_frame (h : Heard) (s : State) :
    (foreignOpening h s).pending = s.pending
      ∧ (foreignOpening h s).free = s.free
      ∧ (foreignOpening h s).pins = s.pins
      ∧ (foreignOpening h s).stamp = s.stamp
      ∧ (foreignOpening h s).mode = s.mode
      ∧ (foreignOpening h s).members = s.members
      ∧ (foreignOpening h s).seats = s.seats
      ∧ (foreignOpening h s).plan = s.plan
      ∧ (foreignOpening h s).station = s.station
      ∧ (foreignOpening h s).floor = s.floor
      ∧ (foreignOpening h s).queue = s.queue
      ∧ (foreignOpening h s).duty = s.duty
      ∧ (foreignOpening h s).playout = s.playout
      ∧ (foreignOpening h s).source = s.source
      ∧ (foreignOpening h s).watch = s.watch
      ∧ (foreignOpening h s).ident = s.ident
      ∧ (foreignOpening h s).tone = s.tone
      ∧ (foreignOpening h s).keying = s.keying
      ∧ (foreignOpening h s).handovers = s.handovers
      ∧ (foreignOpening h s).ram = s.ram
      ∧ (foreignOpening h s).port = s.port
      ∧ (foreignOpening h s).page = s.page := by
  simp only [foreignOpening]; (repeat' split) <;> simp

/-- Changes at most bus. -/
@[simp] theorem busQuiet_frame (s : State) :
    (busQuiet s).pending = s.pending
      ∧ (busQuiet s).free = s.free
      ∧ (busQuiet s).pins = s.pins
      ∧ (busQuiet s).stamp = s.stamp
      ∧ (busQuiet s).mode = s.mode
      ∧ (busQuiet s).members = s.members
      ∧ (busQuiet s).seats = s.seats
      ∧ (busQuiet s).plan = s.plan
      ∧ (busQuiet s).station = s.station
      ∧ (busQuiet s).floor = s.floor
      ∧ (busQuiet s).queue = s.queue
      ∧ (busQuiet s).duty = s.duty
      ∧ (busQuiet s).playout = s.playout
      ∧ (busQuiet s).source = s.source
      ∧ (busQuiet s).watch = s.watch
      ∧ (busQuiet s).ident = s.ident
      ∧ (busQuiet s).tone = s.tone
      ∧ (busQuiet s).keying = s.keying
      ∧ (busQuiet s).handovers = s.handovers
      ∧ (busQuiet s).ram = s.ram
      ∧ (busQuiet s).port = s.port
      ∧ (busQuiet s).page = s.page := by
  unfold busQuiet; split <;> simp

/-- Changes at most bus. -/
@[simp] theorem holdTimedOut_frame (s : State) :
    (holdTimedOut s).pending = s.pending
      ∧ (holdTimedOut s).free = s.free
      ∧ (holdTimedOut s).pins = s.pins
      ∧ (holdTimedOut s).stamp = s.stamp
      ∧ (holdTimedOut s).mode = s.mode
      ∧ (holdTimedOut s).members = s.members
      ∧ (holdTimedOut s).seats = s.seats
      ∧ (holdTimedOut s).plan = s.plan
      ∧ (holdTimedOut s).station = s.station
      ∧ (holdTimedOut s).floor = s.floor
      ∧ (holdTimedOut s).queue = s.queue
      ∧ (holdTimedOut s).duty = s.duty
      ∧ (holdTimedOut s).playout = s.playout
      ∧ (holdTimedOut s).source = s.source
      ∧ (holdTimedOut s).watch = s.watch
      ∧ (holdTimedOut s).ident = s.ident
      ∧ (holdTimedOut s).tone = s.tone
      ∧ (holdTimedOut s).keying = s.keying
      ∧ (holdTimedOut s).handovers = s.handovers
      ∧ (holdTimedOut s).ram = s.ram
      ∧ (holdTimedOut s).port = s.port
      ∧ (holdTimedOut s).page = s.page := by
  unfold holdTimedOut; split <;> simp

/-- Changes at most bus. -/
@[simp] theorem enterRecovering_frame (b : StuckLines) (s : State) :
    (enterRecovering b s).pending = s.pending
      ∧ (enterRecovering b s).free = s.free
      ∧ (enterRecovering b s).pins = s.pins
      ∧ (enterRecovering b s).stamp = s.stamp
      ∧ (enterRecovering b s).mode = s.mode
      ∧ (enterRecovering b s).members = s.members
      ∧ (enterRecovering b s).seats = s.seats
      ∧ (enterRecovering b s).plan = s.plan
      ∧ (enterRecovering b s).station = s.station
      ∧ (enterRecovering b s).floor = s.floor
      ∧ (enterRecovering b s).queue = s.queue
      ∧ (enterRecovering b s).duty = s.duty
      ∧ (enterRecovering b s).playout = s.playout
      ∧ (enterRecovering b s).source = s.source
      ∧ (enterRecovering b s).watch = s.watch
      ∧ (enterRecovering b s).ident = s.ident
      ∧ (enterRecovering b s).tone = s.tone
      ∧ (enterRecovering b s).keying = s.keying
      ∧ (enterRecovering b s).handovers = s.handovers
      ∧ (enterRecovering b s).ram = s.ram
      ∧ (enterRecovering b s).port = s.port
      ∧ (enterRecovering b s).page = s.page := by
  simp [enterRecovering]

/-- Changes at most seats, floor, queue, playout, watch, ident, tone, keying, bus, ram, port, page. -/
@[simp] theorem stuck_frame (b : StuckLines) (s : State) :
    (stuck b s).pending = s.pending
      ∧ (stuck b s).free = s.free
      ∧ (stuck b s).pins = s.pins
      ∧ (stuck b s).stamp = s.stamp
      ∧ (stuck b s).mode = s.mode
      ∧ (stuck b s).members = s.members
      ∧ (stuck b s).plan = s.plan
      ∧ (stuck b s).station = s.station
      ∧ (stuck b s).duty = s.duty
      ∧ (stuck b s).source = s.source
      ∧ (stuck b s).handovers = s.handovers := by
  simp only [stuck]; (repeat' split) <;> simp

/-- Changes at most bus. -/
@[simp] theorem recovered_frame (s : State) :
    (recovered s).pending = s.pending
      ∧ (recovered s).free = s.free
      ∧ (recovered s).pins = s.pins
      ∧ (recovered s).stamp = s.stamp
      ∧ (recovered s).mode = s.mode
      ∧ (recovered s).members = s.members
      ∧ (recovered s).seats = s.seats
      ∧ (recovered s).plan = s.plan
      ∧ (recovered s).station = s.station
      ∧ (recovered s).floor = s.floor
      ∧ (recovered s).queue = s.queue
      ∧ (recovered s).duty = s.duty
      ∧ (recovered s).playout = s.playout
      ∧ (recovered s).source = s.source
      ∧ (recovered s).watch = s.watch
      ∧ (recovered s).ident = s.ident
      ∧ (recovered s).tone = s.tone
      ∧ (recovered s).keying = s.keying
      ∧ (recovered s).handovers = s.handovers
      ∧ (recovered s).ram = s.ram
      ∧ (recovered s).port = s.port
      ∧ (recovered s).page = s.page := by
  unfold recovered; split <;> simp

/-- Changes at most bus. -/
@[simp] theorem openAnew_frame (s : State) :
    (openAnew s).pending = s.pending
      ∧ (openAnew s).free = s.free
      ∧ (openAnew s).pins = s.pins
      ∧ (openAnew s).stamp = s.stamp
      ∧ (openAnew s).mode = s.mode
      ∧ (openAnew s).members = s.members
      ∧ (openAnew s).seats = s.seats
      ∧ (openAnew s).plan = s.plan
      ∧ (openAnew s).station = s.station
      ∧ (openAnew s).floor = s.floor
      ∧ (openAnew s).queue = s.queue
      ∧ (openAnew s).duty = s.duty
      ∧ (openAnew s).playout = s.playout
      ∧ (openAnew s).source = s.source
      ∧ (openAnew s).watch = s.watch
      ∧ (openAnew s).ident = s.ident
      ∧ (openAnew s).tone = s.tone
      ∧ (openAnew s).keying = s.keying
      ∧ (openAnew s).handovers = s.handovers
      ∧ (openAnew s).ram = s.ram
      ∧ (openAnew s).port = s.port
      ∧ (openAnew s).page = s.page := by
  unfold openAnew; split <;> simp

/-- Changes at most bus. -/
@[simp] theorem emptyInbound_frame (s : State) :
    (emptyInbound s).pending = s.pending
      ∧ (emptyInbound s).free = s.free
      ∧ (emptyInbound s).pins = s.pins
      ∧ (emptyInbound s).stamp = s.stamp
      ∧ (emptyInbound s).mode = s.mode
      ∧ (emptyInbound s).members = s.members
      ∧ (emptyInbound s).seats = s.seats
      ∧ (emptyInbound s).plan = s.plan
      ∧ (emptyInbound s).station = s.station
      ∧ (emptyInbound s).floor = s.floor
      ∧ (emptyInbound s).queue = s.queue
      ∧ (emptyInbound s).duty = s.duty
      ∧ (emptyInbound s).playout = s.playout
      ∧ (emptyInbound s).source = s.source
      ∧ (emptyInbound s).watch = s.watch
      ∧ (emptyInbound s).ident = s.ident
      ∧ (emptyInbound s).tone = s.tone
      ∧ (emptyInbound s).keying = s.keying
      ∧ (emptyInbound s).handovers = s.handovers
      ∧ (emptyInbound s).ram = s.ram
      ∧ (emptyInbound s).port = s.port
      ∧ (emptyInbound s).page = s.page := by
  simp [emptyInbound]

/-- Changes at most seats, floor, playout, watch, ident, tone, keying, bus, page. -/
@[simp] theorem takeStation_frame (s : State) :
    (takeStation s).pending = s.pending
      ∧ (takeStation s).free = s.free
      ∧ (takeStation s).pins = s.pins
      ∧ (takeStation s).stamp = s.stamp
      ∧ (takeStation s).mode = s.mode
      ∧ (takeStation s).members = s.members
      ∧ (takeStation s).plan = s.plan
      ∧ (takeStation s).station = s.station
      ∧ (takeStation s).queue = s.queue
      ∧ (takeStation s).duty = s.duty
      ∧ (takeStation s).source = s.source
      ∧ (takeStation s).handovers = s.handovers
      ∧ (takeStation s).ram = s.ram
      ∧ (takeStation s).port = s.port := by
  simp only [takeStation]; (repeat' split) <;> simp

/-- Changes at most seats, floor, queue, playout, watch, ident, bus, page. -/
@[simp] theorem giveStation_frame (s : State) :
    (giveStation s).pending = s.pending
      ∧ (giveStation s).free = s.free
      ∧ (giveStation s).pins = s.pins
      ∧ (giveStation s).stamp = s.stamp
      ∧ (giveStation s).mode = s.mode
      ∧ (giveStation s).members = s.members
      ∧ (giveStation s).plan = s.plan
      ∧ (giveStation s).station = s.station
      ∧ (giveStation s).duty = s.duty
      ∧ (giveStation s).source = s.source
      ∧ (giveStation s).tone = s.tone
      ∧ (giveStation s).keying = s.keying
      ∧ (giveStation s).handovers = s.handovers
      ∧ (giveStation s).ram = s.ram
      ∧ (giveStation s).port = s.port := by
  unfold giveStation; split <;> simp

/-- Changes at most seats, floor, queue, playout, watch, ident, tone, keying, bus, page. -/
@[simp] theorem haltStation_frame (s : State) :
    (haltStation s).pending = s.pending
      ∧ (haltStation s).free = s.free
      ∧ (haltStation s).pins = s.pins
      ∧ (haltStation s).stamp = s.stamp
      ∧ (haltStation s).mode = s.mode
      ∧ (haltStation s).members = s.members
      ∧ (haltStation s).plan = s.plan
      ∧ (haltStation s).station = s.station
      ∧ (haltStation s).duty = s.duty
      ∧ (haltStation s).source = s.source
      ∧ (haltStation s).handovers = s.handovers
      ∧ (haltStation s).ram = s.ram
      ∧ (haltStation s).port = s.port := by
  unfold haltStation; split <;> simp

/-- Changes at most seats, floor, queue, playout, watch, ident, bus, page. -/
@[simp] theorem resumeStation_frame (s : State) :
    (resumeStation s).pending = s.pending
      ∧ (resumeStation s).free = s.free
      ∧ (resumeStation s).pins = s.pins
      ∧ (resumeStation s).stamp = s.stamp
      ∧ (resumeStation s).mode = s.mode
      ∧ (resumeStation s).members = s.members
      ∧ (resumeStation s).plan = s.plan
      ∧ (resumeStation s).station = s.station
      ∧ (resumeStation s).duty = s.duty
      ∧ (resumeStation s).source = s.source
      ∧ (resumeStation s).tone = s.tone
      ∧ (resumeStation s).keying = s.keying
      ∧ (resumeStation s).handovers = s.handovers
      ∧ (resumeStation s).ram = s.ram
      ∧ (resumeStation s).port = s.port := by
  unfold resumeStation; split <;> simp

/-- Changes at most bus. -/
@[simp] theorem answerState_frame (a : ReplyAsked) (s : State) :
    (answerState a s).pending = s.pending
      ∧ (answerState a s).free = s.free
      ∧ (answerState a s).pins = s.pins
      ∧ (answerState a s).stamp = s.stamp
      ∧ (answerState a s).mode = s.mode
      ∧ (answerState a s).members = s.members
      ∧ (answerState a s).seats = s.seats
      ∧ (answerState a s).plan = s.plan
      ∧ (answerState a s).station = s.station
      ∧ (answerState a s).floor = s.floor
      ∧ (answerState a s).queue = s.queue
      ∧ (answerState a s).duty = s.duty
      ∧ (answerState a s).playout = s.playout
      ∧ (answerState a s).source = s.source
      ∧ (answerState a s).watch = s.watch
      ∧ (answerState a s).ident = s.ident
      ∧ (answerState a s).tone = s.tone
      ∧ (answerState a s).keying = s.keying
      ∧ (answerState a s).handovers = s.handovers
      ∧ (answerState a s).ram = s.ram
      ∧ (answerState a s).port = s.port
      ∧ (answerState a s).page = s.page := by
  simp only [answerState]; split <;> simp

end Sys2Proof.Machine
end

