-- ==== Sys2Proof/Laws/Memory.lean ====
section
/-! SUPPORT. The exchange memory: a read after a write gives what was written, a write leaves every other
address alone, and every write keeps the canonical form. -/

namespace Sys2Proof.Machine

/-! ### Reads -/

/-- A list without the address reads 0, and what stands behind it decides. -/
theorem Memory.read_append_of_absent {m n : Memory} {a : Nat} (h : ∀ c ∈ m, c.1 ≠ a) :
    Memory.read (m ++ n) a = Memory.read n a := by
  induction m with
  | nil => rfl
  | cons c rest ih =>
    obtain ⟨k, v⟩ := c
    have hk : k ≠ a := h (k, v) (by simp)
    simp only [List.cons_append, Memory.read, if_neg hk]
    exact ih fun c hc => h c (by simp [hc])

/-- An address absent from the second list is decided by the first. -/
theorem Memory.read_append_left {m n : Memory} {a : Nat} (h : ∀ c ∈ n, c.1 ≠ a) :
    Memory.read (m ++ n) a = Memory.read m a := by
  induction m with
  | nil =>
    simpa using Memory.read_append_of_absent (n := []) h
  | cons c rest ih =>
    obtain ⟨k, v⟩ := c
    by_cases hk : k = a <;> simp [Memory.read, hk, ih]

/-- Entries that the filter drops do not matter to an address it keeps. -/
theorem Memory.read_filter {m : Memory} {p : Host.Cell → Bool} {a : Nat}
    (h : ∀ c : Host.Cell, c.1 = a → p c = true) :
    Memory.read (m.filter p) a = Memory.read m a := by
  induction m with
  | nil => rfl
  | cons c rest ih =>
    obtain ⟨k, v⟩ := c
    by_cases hk : k = a
    · rw [List.filter_cons_of_pos (h (k, v) hk)]
      simp [Memory.read, hk]
    · by_cases hp : p (k, v) = true <;> simp [hp, Memory.read, hk, ih]

/-- The addresses of a block's cells. -/
theorem blockCells_range {base : Nat} {bytes : List Byte} :
    ∀ c ∈ blockCells base bytes, base ≤ c.1 ∧ c.1 < base + bytes.length := by
  induction bytes generalizing base with
  | nil => simp [blockCells]
  | cons v rest ih =>
    intro c hc
    simp only [blockCells] at hc
    split at hc
    · have := ih c hc
      simp only [List.length_cons]
      omega
    · rcases List.mem_cons.1 hc with rfl | hc
      · simp
      · have := ih c hc
        simp only [List.length_cons]
        omega

/-- A block's cells read as its bytes. -/
theorem read_blockCells {base : Nat} {bytes : List Byte} {i : Nat} (h : i < bytes.length) :
    Memory.read (blockCells base bytes) (base + i) = bytes[i] := by
  induction bytes generalizing base i with
  | nil => simp at h
  | cons v rest ih =>
    cases i with
    | zero =>
      simp only [blockCells, Nat.add_zero, List.getElem_cons_zero]
      split
      · next hv =>
        have := Memory.read_append_of_absent (m := blockCells (base + 1) rest) (n := []) (a := base)
          fun c hc => by have := blockCells_range c hc; omega
        simpa [Memory.read, hv] using this
      · simp [Memory.read]
    | succ i =>
      have hi : i < rest.length := by simpa using h
      have key := ih (base := base + 1) hi
      rw [show base + 1 + i = base + (i + 1) by omega] at key
      simp only [blockCells, List.getElem_cons_succ]
      split
      · exact key
      · simp only [Memory.read]
        rw [if_neg (by omega)]
        exact key

/-- A read inside a written block gives the block's byte. -/
theorem Memory.read_writeBlock_inside {m : Memory} {base : Nat} {bytes : List Byte} {i : Nat}
    (h : i < bytes.length) :
    Memory.read (Memory.writeBlock base bytes m) (base + i) = bytes[i] := by
  unfold Memory.writeBlock
  rw [Memory.read_append_left, Memory.read_append_of_absent, read_blockCells h]
  · intro c hc
    have := (List.mem_filter.1 hc).2
    simp only [decide_eq_true_eq] at this
    omega
  · intro c hc
    have := (List.mem_filter.1 hc).2
    simp only [decide_eq_true_eq] at this
    omega

/-- A read outside a written block gives what it gave before. -/
theorem Memory.read_writeBlock_outside {m : Memory} {base : Nat} {bytes : List Byte} {a : Nat}
    (h : a < base ∨ base + bytes.length ≤ a) :
    Memory.read (Memory.writeBlock base bytes m) a = Memory.read m a := by
  unfold Memory.writeBlock
  have hb : ∀ c ∈ blockCells base bytes, c.1 ≠ a := fun c hc => by
    have := blockCells_range c hc
    omega
  rcases h with h | h
  · rw [List.append_assoc, Memory.read_append_left, Memory.read_filter]
    · intro c hc
      simpa [hc] using h
    · intro c hc
      rcases List.mem_append.1 hc with hc | hc
      · exact hb c hc
      · have := (List.mem_filter.1 hc).2
        simp only [decide_eq_true_eq] at this
        omega
  · rw [Memory.read_append_of_absent, Memory.read_filter]
    · intro c hc
      simpa [hc] using h
    · intro c hc
      rcases List.mem_append.1 hc with hc | hc
      · have := (List.mem_filter.1 hc).2
        simp only [decide_eq_true_eq] at this
        omega
      · exact hb c hc

/-- A read of the byte just written gives it. -/
@[simp] theorem Memory.read_write_same {m : Memory} {a : Nat} {v : Byte} :
    Memory.read (Memory.write a v m) a = v := by
  simpa [Memory.write] using Memory.read_writeBlock_inside (m := m) (base := a) (bytes := [v]) (i := 0)
    (by simp)

/-- A read of another byte gives what it gave before. -/
theorem Memory.read_write_other {m : Memory} {a b : Nat} {v : Byte} (h : b ≠ a) :
    Memory.read (Memory.write a v m) b = Memory.read m b := by
  unfold Memory.write
  exact Memory.read_writeBlock_outside (by simp only [List.length_singleton]; omega)

/-- The length of a block read. -/
@[simp] theorem Memory.readBlock_length {m : Memory} {base n : Nat} :
    (Memory.readBlock m base n).length = n := by
  induction n generalizing base with
  | zero => rfl
  | succ n ih => simp [Memory.readBlock, ih]

/-- A byte of a block read. -/
theorem Memory.readBlock_getElem {m : Memory} {base n i : Nat}
    (h : i < (Memory.readBlock m base n).length) :
    (Memory.readBlock m base n)[i] = Memory.read m (base + i) := by
  induction n generalizing base i with
  | zero => simp [Memory.readBlock] at h
  | succ n ih =>
    cases i with
    | zero => simp [Memory.readBlock]
    | succ i =>
      simp only [Memory.readBlock, List.getElem_cons_succ, ih]
      congr 1
      omega

/-- Two memories that read alike over a block give the same block. -/
theorem Memory.readBlock_congr {m n : Memory} {base k : Nat}
    (h : ∀ i, i < k → Memory.read m (base + i) = Memory.read n (base + i)) :
    Memory.readBlock m base k = Memory.readBlock n base k := by
  apply List.ext_getElem (by simp)
  intro i hi _
  rw [Memory.readBlock_getElem, Memory.readBlock_getElem]
  exact h i (by simpa using hi)

/-- A block read back after it was written. -/
theorem Memory.readBlock_writeBlock_same {m : Memory} {base : Nat} {bytes : List Byte} :
    Memory.readBlock (Memory.writeBlock base bytes m) base bytes.length = bytes := by
  apply List.ext_getElem (by simp)
  intro i hi hj
  rw [Memory.readBlock_getElem, Memory.read_writeBlock_inside hj]

/-! ### The canonical form -/

/-- The form from a lower bound is the form from any smaller one. -/
theorem Memory.wfFrom_mono {lo lo' : Nat} {m : Memory} (h : lo ≤ lo')
    (hm : Memory.wfFrom lo' m = true) : Memory.wfFrom lo m = true := by
  cases m with
  | nil => rfl
  | cons c rest =>
    obtain ⟨k, v⟩ := c
    simp only [Memory.wfFrom, Bool.and_eq_true, decide_eq_true_eq] at hm ⊢
    exact ⟨⟨by omega, hm.1.2⟩, hm.2⟩

/-- Dropping entries keeps the form. -/
theorem Memory.wfFrom_filter {lo : Nat} {m : Memory} {p : Host.Cell → Bool}
    (hm : Memory.wfFrom lo m = true) : Memory.wfFrom lo (m.filter p) = true := by
  induction m generalizing lo with
  | nil => rfl
  | cons c rest ih =>
    obtain ⟨k, v⟩ := c
    simp only [Memory.wfFrom, Bool.and_eq_true, decide_eq_true_eq] at hm
    by_cases hp : p (k, v) = true
    · simp only [List.filter_cons_of_pos hp, Memory.wfFrom, Bool.and_eq_true, decide_eq_true_eq]
      exact ⟨hm.1, ih hm.2⟩
    · simp only [List.filter_cons, hp]
      exact Memory.wfFrom_mono (by omega) (ih hm.2)

/-- The entries from a bound on have the form from that bound. -/
theorem Memory.wfFrom_filter_ge {lo hi : Nat} {m : Memory} (hm : Memory.wfFrom lo m = true) :
    Memory.wfFrom hi (m.filter fun c => decide (hi ≤ c.1)) = true := by
  induction m generalizing lo with
  | nil => rfl
  | cons c rest ih =>
    obtain ⟨k, v⟩ := c
    simp only [Memory.wfFrom, Bool.and_eq_true, decide_eq_true_eq] at hm
    by_cases hk : hi ≤ k
    · rw [List.filter_cons_of_pos (by simpa using hk)]
      simp only [Memory.wfFrom, Bool.and_eq_true, decide_eq_true_eq]
      exact ⟨⟨hk, hm.1.2⟩, Memory.wfFrom_filter hm.2⟩
    · simp only [List.filter_cons, hk, decide_false]
      exact ih hm.2

/-- A list in form below a bound, followed by one in form from it. -/
theorem Memory.wfFrom_append {lo hi : Nat} {m n : Memory} (hm : Memory.wfFrom lo m = true)
    (hb : ∀ c ∈ m, c.1 < hi) (hn : Memory.wfFrom hi n = true) (h : lo ≤ hi) :
    Memory.wfFrom lo (m ++ n) = true := by
  induction m generalizing lo with
  | nil => exact Memory.wfFrom_mono h hn
  | cons c rest ih =>
    obtain ⟨k, v⟩ := c
    simp only [Memory.wfFrom, List.cons_append, Bool.and_eq_true, decide_eq_true_eq] at hm ⊢
    have hk : k < hi := hb (k, v) (by simp)
    exact ⟨hm.1, ih hm.2 (fun c hc => hb c (by simp [hc])) (by omega)⟩

/-- A block's cells are in form from its base. -/
theorem wfFrom_blockCells {base : Nat} {bytes : List Byte} :
    Memory.wfFrom base (blockCells base bytes) = true := by
  induction bytes generalizing base with
  | nil => rfl
  | cons v rest ih =>
    simp only [blockCells]
    split
    · exact Memory.wfFrom_mono (by omega) ih
    · next hv =>
      simp only [Memory.wfFrom, Bool.and_eq_true, decide_eq_true_eq, bne_iff_ne]
      exact ⟨⟨Nat.le_refl base, hv⟩, ih⟩

/-- A block write keeps the canonical form. -/
theorem Memory.wf_writeBlock {m : Memory} {base : Nat} {bytes : List Byte}
    (hm : Memory.wf m = true) : Memory.wf (Memory.writeBlock base bytes m) = true := by
  unfold Memory.wf Memory.writeBlock at *
  rw [List.append_assoc]
  refine Memory.wfFrom_append (hi := base) (Memory.wfFrom_filter hm) ?_ ?_ (by omega)
  · intro c hc
    simpa using (List.mem_filter.1 hc).2
  · refine Memory.wfFrom_append (hi := base + bytes.length) wfFrom_blockCells ?_
      (Memory.wfFrom_filter_ge hm) (by omega)
    exact fun c hc => (blockCells_range c hc).2

/-- A byte write keeps the canonical form. -/
theorem Memory.wf_write {m : Memory} {a : Nat} {v : Byte} (hm : Memory.wf m = true) :
    Memory.wf (Memory.write a v m) = true :=
  Memory.wf_writeBlock hm

/-- The memory after reset is in canonical form. -/
theorem wf_initialRam : Memory.wf initialRam = true := by decide

end Sys2Proof.Machine
end

