-- ==== Sys2Proof/Laws/Operations.lean ====
section
/-! SUPPORT. What each shared operation does: the cells and their hand-over bytes, the tables, the
notices, the floor's and the keying unit's operations, and the close of an act. -/

namespace Sys2Proof.Machine

/-! ### Cells -/

/-- Two cells share no address. -/
theorem CellRef.disjoint {c d : CellRef} (h : c ≠ d) :
    c.base + c.size ≤ d.base ∨ d.base + d.size ≤ c.base := by
  cases c <;> cases d
  case bus.bus n n' =>
    have : n.val ≠ n'.val := fun e => h (by rw [Fin.ext e])
    simp only [CellRef.base, CellRef.size]
    omega
  case order.order x y =>
    have : x.val ≠ y.val := fun e => h (by rw [Fin.ext e])
    simp only [CellRef.base, CellRef.size, seatArea]
    omega
  case report.report x y =>
    have : x.val ≠ y.val := fun e => h (by rw [Fin.ext e])
    simp only [CellRef.base, CellRef.size, seatArea]
    omega
  case audio.audio x n y n' =>
    have : x.val ≠ y.val ∨ n.val ≠ n'.val := by
      by_cases e : x.val = y.val
      · exact .inr fun e' => h (by rw [Fin.ext e, Fin.ext e'])
      · exact .inl e
    simp only [CellRef.base, CellRef.size, seatArea]
    rcases Nat.lt_trichotomy x.val y.val with hx | hx | hx <;> omega
  case order.audio x y n =>
    simp only [CellRef.base, CellRef.size, seatArea]
    rcases Nat.lt_trichotomy x.val y.val with hx | hx | hx <;> omega
  case report.audio x y n =>
    simp only [CellRef.base, CellRef.size, seatArea]
    rcases Nat.lt_trichotomy x.val y.val with hx | hx | hx <;> omega
  case audio.order x n y =>
    simp only [CellRef.base, CellRef.size, seatArea]
    rcases Nat.lt_trichotomy x.val y.val with hx | hx | hx <;> omega
  case audio.report x n y =>
    simp only [CellRef.base, CellRef.size, seatArea]
    rcases Nat.lt_trichotomy x.val y.val with hx | hx | hx <;> omega
  all_goals
    simp only [CellRef.base, CellRef.size, seatArea]
    omega

/-- A cell is larger than its hand-over byte. -/
theorem CellRef.size_pos (c : CellRef) : 128 ≤ c.size := by
  cases c <;> simp [CellRef.size]

/-- Two cells have two hand-over bytes. -/
theorem CellRef.handoverAddress_injective {c d : CellRef}
    (h : c.handoverAddress = d.handoverAddress) : c = d := by
  by_cases hne : c = d
  · exact hne
  · have hd := CellRef.disjoint hne
    have hc := c.size_pos
    have hd' := d.size_pos
    simp only [CellRef.handoverAddress] at h
    omega

/-- Writing a hand-over byte decides whether its own cell is part-held. -/
@[simp] theorem partHeld_writeHandover_same (c : CellRef) (v : Byte) (s : State) :
    partHeld (writeHandover c v s) c = (v == 1) := by
  simp [partHeld, writeHandover]

/-- Writing a hand-over byte leaves every other cell as it was. -/
theorem partHeld_writeHandover_other {c d : CellRef} (v : Byte) (s : State) (h : d ≠ c) :
    partHeld (writeHandover c v s) d = partHeld s d := by
  have : d.handoverAddress ≠ c.handoverAddress :=
    fun e => h (CellRef.handoverAddress_injective e)
  simp [partHeld, writeHandover, Memory.read_write_other this]

/-- Writing a hand-over byte leaves every other byte as it was. -/
theorem read_writeHandover_other {c : CellRef} {a : Nat} (v : Byte) (s : State)
    (h : a ≠ c.handoverAddress) :
    Memory.read (writeHandover c v s).ram a = Memory.read s.ram a := by
  simp [writeHandover, Memory.read_write_other h]

/-! ### Tables -/

/-- The members after one record is replaced. -/
theorem setMember_getElem (m x : MemberNo) (r : Option Member) (s : State) :
    (setMember m r s).members[x] = if x = m then r else s.members[x] := by
  by_cases h : x = m
  · subst h
    simp [setMember]
  · have : m.val ≠ x.val := fun e => h (Fin.ext e.symm)
    simp [setMember, h, this]

/-- The members after one record is changed. -/
theorem modMember_getElem (m x : MemberNo) (f : Member → Member) (s : State) :
    (modMember m f s).members[x] = if x = m then s.members[m].map f else s.members[x] := by
  simp only [modMember, setMember_getElem]

/-- The seats after one record is changed. -/
theorem modSeat_getElem (seat x : SeatNo) (f : Seat → Seat) (s : State) :
    (modSeat seat f s).seats[x] = if x = seat then f s.seats[seat] else s.seats[x] := by
  by_cases h : x = seat
  · subst h
    simp [modSeat]
  · have : seat.val ≠ x.val := fun e => h (Fin.ext e.symm)
    simp [modSeat, h, this]

/-- The plan after one slot is written. -/
theorem setSlot_getElem (i x : SlotNo) (g : Option Segment) (s : State) :
    (setSlot i g s).plan[x] = if x = i then g else s.plan[x] := by
  by_cases h : x = i
  · subst h
    simp [setSlot]
  · have : i.val ≠ x.val := fun e => h (Fin.ext e.symm)
    simp [setSlot, h, this]

/-! ### Notices -/

/-- A notice changes a seat's pending set alone. -/
@[simp] theorem Seat.receive_frame (n : Notice) (r : Seat) :
    (r.receive n).attachment = r.attachment ∧ (r.receive n).answer = r.answer
      ∧ (r.receive n).counters = r.counters ∧ (r.receive n).saturated = r.saturated
      ∧ (r.receive n).criteria = r.criteria ∧ (r.receive n).warned = r.warned := by
  unfold Seat.receive
  split <;> simp

/-- The notice received by an ATTACHED seat is pending. -/
theorem Seat.mem_receive (n : Notice) (r : Seat) (h : r.attachment.isSome = true) :
    n ∈ (r.receive n).notices := by
  simp [Seat.receive, h, placeNotice]

/-- A pending notice of another kind stays pending. -/
theorem Seat.mem_receive_of_mem {n o : Notice} {r : Seat} (h : o ∈ r.notices)
    (hk : o.body.kind ≠ n.body.kind) : o ∈ (r.receive n).notices := by
  unfold Seat.receive
  split
  · simp [placeNotice, h, hk]
  · exact h

/-- A pending set keeps at most one notice of each kind. -/
theorem placeNotice_nodup {n : Notice} {l : List Notice}
    (h : (l.map fun o => o.body.kind).Nodup) :
    ((placeNotice n l).map fun o => o.body.kind).Nodup := by
  unfold placeNotice
  rw [List.map_append, List.nodup_append]
  refine ⟨h.sublist (List.filter_sublist.map _), by simp, ?_⟩
  intro a ha b hb
  simp only [List.map_cons, List.map_nil, List.mem_singleton] at hb
  subst hb
  obtain ⟨o, ho, rfl⟩ := List.mem_map.1 ha
  simpa using (List.mem_filter.1 ho).2

/-- A raised notice reaches its seat. -/
theorem raise_getElem (seat x : SeatNo) (body : NoticeBody) (s : State) :
    (raise seat body s).seats[x]
      = if x = seat then (s.seats[seat]).receive ⟨body, s.stamp⟩ else s.seats[x] := by
  simp only [raise, modSeat_getElem]

/-- A notice raised for all reaches every seat. -/
theorem raiseAll_getElem (x : SeatNo) (body : NoticeBody) (s : State) :
    (raiseAll body s).seats[x] = (s.seats[x]).receive ⟨body, s.stamp⟩ := by
  simp [raiseAll]

/-- A notice detaches nobody. -/
@[simp] theorem attachedMember_raise (seat x : SeatNo) (body : NoticeBody) (s : State) :
    attachedMember (raise seat body s) x = attachedMember s x := by
  simp only [attachedMember, raise_getElem]
  split
  · next h => subst h; simp
  · rfl

/-- A notice for all detaches nobody. -/
@[simp] theorem attachedMember_raiseAll (x : SeatNo) (body : NoticeBody) (s : State) :
    attachedMember (raiseAll body s) x = attachedMember s x := by
  simp only [attachedMember, raiseAll_getElem, Seat.receive_frame]

/-! ### The floor -/

/-- A change of floor state changes that field of the floor record alone. -/
@[simp] theorem setFloorState_floor (new : FloorState) (s : State) :
    (setFloorState new s).floor = { s.floor with state := new } := by
  unfold setFloorState
  split
  · next h => rw [← h]
  · simp only
    split <;> split <;> split <;> simp

/-- The turn's end clears the holder, the grant, the counts and the timers. -/
@[simp] theorem endTurnCore_floor (cause : EndCause) (detail : EndDetail) (s : State) :
    (endTurnCore cause detail s).floor = s.floor.cleared := by
  simp [endTurnCore]

/-- A change of floor state calls for a rewrite of the floor board; where the floor is in that state
already, nothing is called for. -/
theorem setFloorState_boardDue (new : FloorState) (s : State) :
    (setFloorState new s).page.boardDue
      = (s.page.boardDue || decide (s.floor.state ≠ new)) := by
  unfold setFloorState
  split
  · next h => simp [h]
  · next h =>
    simp only
    split <;> split <;> split <;> simp [h]

/-- At the close of an act no rewrite of the floor board is due. -/
@[simp] theorem settleBoard_boardDue (before s : State) :
    (settleBoard before s).page.boardDue = false := by
  unfold settleBoard
  split
  · next h => exact h.1
  · simp [rewriteBoard]

/-- An unkey leaves the unit UNKEYED. -/
@[simp] theorem unkey_keying_state (s : State) : (unkey s).keying.state = .unkeyed := by
  unfold unkey
  split
  · assumption
  · simp

/-- An unkey touches neither the lead-in service flag nor the requested key state. -/
@[simp] theorem unkey_ampInService (s : State) :
    (unkey s).keying.ampInService = s.keying.ampInService := by
  unfold unkey
  split <;> simp

/-- With nobody waiting and no ID pending, a serving point leaves the floor IDLE. -/
theorem serve_empty (s : State) (hq : s.queue = []) (hp : s.ident.pending = false) :
    serve s = setFloorState .idle s := by
  unfold serve
  split
  · rfl
  · simp [hp, hq, serveEntries]

/-- While TX_INHIBIT is asserted, a serving point leaves the floor IDLE. -/
theorem serve_inhibited (s : State) (h : s.pins.txInhibit = true) :
    serve s = setFloorState .idle s := by
  simp [serve, h]

/-- A serving point of a SERVING station sends a pending ID first. -/
theorem serve_pending (s : State) (hm : s.mode = .serving) (hi : s.pins.txInhibit = false)
    (hp : s.ident.pending = true) : serve s = enterIdent s := by
  simp [serve, hm, hi, hp]

/-- A serving point of a SERVING station with no ID pending considers the queue. -/
theorem serve_queue (s : State) (hm : s.mode = .serving) (hi : s.pins.txInhibit = false)
    (hp : s.ident.pending = false) : serve s = serveEntries s.queue s := by
  simp [serve, hm, hi, hp]

/-! ### The station bus -/

/-- The part hears a frame: it follows one whose address byte it accepts, acknowledging that byte, and
listens to any other; a frame of its own is open no more. -/
theorem hear_bus (b : Option Byte) (s : State) :
    (hear b s).bus = { s.bus with
      engine := if b.any (accepts s.station) then .following else .listening
      attemptOpen := false
      hold := (b.filter (accepts s.station)).bind fun b => holdFor b s
      followed := (b.filter (accepts s.station)).map fun b => takeOn b s
      unfollowed := if b.any (accepts s.station) then none else b
      acked := if b.any (accepts s.station) then 1 else 0
      closed := false } := by
  unfold hear
  cases b with
  | none => simp
  | some b => by_cases h : accepts s.station b = true <;> simp [h, Option.filter]

/-- R147: a recovery with `left` + 1 pulses left sends as many as SBD needs to be let go, one at the least,
and changes only the two counts. -/
theorem clockPulses_succ (left : Nat) (b : Bus) :
    clockPulses (left + 1) b = { b with
      pulses := b.pulses + max 1 (min (left + 1) b.sbdPulses)
      sbdPulses := b.sbdPulses - (left + 1) } := by
  induction left generalizing b with
  | zero =>
    simp [clockPulses]
  | succ left ih =>
    unfold clockPulses
    simp only
    split
    · next h =>
      have h1 : max 1 (min (left + 1 + 1) b.sbdPulses) = 1 := by omega
      have h2 : b.sbdPulses - (left + 1 + 1) = b.sbdPulses - 1 := by omega
      rw [h1, h2]
    · next h =>
      have h1 : b.pulses + 1 + max 1 (min (left + 1) (b.sbdPulses - 1))
          = b.pulses + max 1 (min (left + 1 + 1) b.sbdPulses) := by omega
      have h2 : b.sbdPulses - 1 - (left + 1) = b.sbdPulses - (left + 1 + 1) := by omega
      rw [ih]
      simp only [h1, h2]

/-- R147: the recovery of a stuck bus frees the engine behind 1 to 9 clock pulses. -/
theorem recovered_bus {s : State} (h : s.bus.engine = .recovering) :
    (recovered s).bus = { s.bus with
      engine := .free, sbcLow := false
      pulses := max 1 (min 9 s.bus.sbdPulses), sbdPulses := s.bus.sbdPulses - 9 } := by
  simp [recovered, h, clockPulses_succ]

/-- Two masters that send the same bytes both win. -/
theorem lossAt_self (sent : List Byte) : lossAt sent sent = none := by
  induction sent with
  | nil => rfl
  | cons b rest ih => simp [lossAt, ih]

/-- The part loses at a byte up to which the two frames agree, and at which the other's is lower. -/
theorem lossAt_eq_some {sent other : List Byte} {k : Nat} (h : lossAt sent other = some k) :
    sent.take k = other.take k
      ∧ ∃ mine theirs, sent[k]? = some mine ∧ other[k]? = some theirs ∧ theirs.toNat < mine.toNat := by
  induction sent generalizing other k with
  | nil => simp [lossAt] at h
  | cons mine sent ih =>
    cases other with
    | nil => simp [lossAt] at h
    | cons theirs other =>
      unfold lossAt at h
      split at h
      · next e =>
        obtain ⟨j, hj, rfl⟩ := Option.map_eq_some_iff.1 h
        obtain ⟨ht, x⟩ := ih hj
        exact ⟨by simp [e, ht], by simpa using x⟩
      · split at h
        · next hlt =>
          cases h
          exact ⟨rfl, mine, theirs, rfl, rfl, hlt⟩
        · cases h

/-! ### The clock -/

/-- A millisecond's fields: the stamp rises, every running timer comes down, all else stays. -/
theorem passMs_eq (s : State) :
    passMs s = { s with
      stamp := s.stamp + 1
      floor := { s.floor with
        startWait := countDown s.floor.startWait, hang := countDown s.floor.hang
        rejoin := countDown s.floor.rejoin }
      duty := { s.duty with timer := s.duty.timer - 1 }
      playout := { s.playout with timer := countDown s.playout.timer }
      ident := { s.ident with
        periodic := countDown s.ident.periodic, closing := countDown s.ident.closing
        grace := countDown s.ident.grace
        sender := s.ident.sender.map fun x => { x with left := x.left - 1 } }
      tone := { s.tone with
        timer := countDown s.tone.timer, age := if s.tone.gate then s.tone.age + 1 else 0 }
      keying := { s.keying with
        lead := countDown s.keying.lead, poll := countDown s.keying.poll }
      bus := { s.bus with hold := countDown s.bus.hold } } := by
  cases s
  rfl

/-- Every command the order unit owes takes an order. -/
@[simp] theorem orderTake_orderCommand (kind : Byte) : orderTake (orderCommand kind) = true := by
  unfold orderCommand
  split <;> rfl

/-- The command that takes a waiting message is its own row. -/
theorem inboundCommand_cases (m : PanelMessage) :
    inboundCommand m ∈ [Instr.take, .give, .halt, .resume] := by
  cases m <;> simp [inboundCommand]

/-- A list cut or filled to `n` bytes shows its own bytes below `n`, and 0 behind them. -/
theorem padTo_getD (n : Nat) (l : List Byte) (i : Nat) :
    (padTo n l).getD i 0 = if i < n then l.getD i 0 else 0 := by
  simp only [padTo, List.getD_eq_getElem?_getD, List.getElem?_take]
  split
  · rw [List.getElem?_append]
    split
    · rfl
    · next h => simp [List.getElem?_replicate, List.getElem?_eq_none (Nat.not_lt.1 h)]; split <;> rfl
  · rfl

@[simp] theorem padTo_length (n : Nat) (l : List Byte) : (padTo n l).length = n := by simp [padTo]

/-- A frame is taken on under its address byte. -/
@[simp] theorem takeOn_address (b : Byte) (s : State) : (takeOn b s).address = b := rfl

/-- With no frame being followed none is followed under any address byte. -/
theorem follows_none {s : State} (h : s.bus.followed = none) (b : Byte) : follows s b = false := by
  simp [follows, h]

/-! ### The tone generator -/

/-- Every burst begins at zero phase. -/
@[simp] theorem burstSample_zero (pitch : Nat) : burstSample pitch 0 = 0 := by
  simp [burstSample, sineSample, sineHeight, quarterSine]

/-- The sine wave never rises above its peak of 16,384. -/
theorem sineHeight_le (phase : Nat) : sineHeight phase ≤ 16384 := by
  have key : ∀ j : Fin 40, ∀ b : Bool,
      (if j.val % 20 = 0 then quarterSine.getD (if j.val ≤ 20 then j.val else 40 - j.val) 0
        else quarterSine.getD (if j.val ≤ 20 then j.val else 40 - j.val) 0 + b.toNat) ≤ 16384 := by
    decide
  have h := key ⟨phase % 40, Nat.mod_lt _ (by decide)⟩ (Config.toneRoundAway phase)
  have e : phase % 40 % 20 = phase % 20 := Nat.mod_mod_of_dvd _ (by decide)
  simpa [sineHeight, e] using h

/-! ### Whole acts -/

/-- Where SETTING was not entered in the act, no setup is complete at the end of it. -/
theorem finishSetup_unentered {before s : State} (h : enteredSetting before s = false) :
    finishSetup before s = s := by
  simp [finishSetup, finishSetups, emptySetup, h]

/-- An act that leaves the floor's state and its holder alone completes no setup. -/
theorem finishSetup_kept {before s : State} (hs : s.floor.state = before.floor.state)
    (hh : s.floor.holder = before.floor.holder) : finishSetup before s = s :=
  finishSetup_unentered (by simp [enteredSetting, hs, hh])

/-- An act that did nothing completes no setup. -/
@[simp] theorem finishSetup_self (s : State) : finishSetup s s = s := finishSetup_kept rfl rfl

/-- An act that ends in another floor state than SETTING completes no setup. -/
theorem finishSetup_notSetting {before s : State} (h : s.floor.state ≠ .setting) :
    finishSetup before s = s :=
  finishSetup_unentered (by simp [enteredSetting, h])

/-- A setup with items to place, or one that waits, is not complete in the act that enters SETTING. -/
theorem finishSetup_waits {before s : State} (h : maySetUp s = false ∨ nothingToPlace s = false) :
    finishSetup before s = s := by
  rcases h with h | h <;> simp [finishSetup, finishSetups, emptySetup, h]

/-- An empty setup entered in the act is complete in it, once where the floor does not enter SETTING
again. -/
theorem finishSetup_once {before s : State} (h : emptySetup before s = true)
    (hs : (setUp s).floor.state ≠ .setting) : finishSetup before s = setUp s := by
  have again : ∀ n, finishSetups before n (setUp s) = setUp s := by
    intro n
    cases n <;> simp [finishSetups, emptySetup, enteredSetting, hs]
  simp [finishSetup, finishSetups, h, again]

/-- R48: no item of the setup list differs. -/
theorem nothingToPlace_iff {s : State} {g : Grant} (hg : s.floor.grant = some g) :
    nothingToPlace s = true
      ↔ (s.station.ampPresent = true → g.ampUsed = false → s.bus.believed.amp = some .standby)
        ∧ s.bus.believed.port = some g.port ∧ s.bus.believed.freq = some g.freq
        ∧ s.bus.believed.mode = some g.mode ∧ s.bus.believed.drive = some g.power
        ∧ (g.ampUsed = true → s.bus.believed.amp = some .operate) := by
  simp [nothingToPlace, hg, setupMessages, itemIf, and_assoc]

/-- R48, R70: a setup is empty at the end of an act that entered its SETTING exactly where the station stands
at the grant's setting. -/
theorem emptySetup_iff {before s : State} {g : Grant} (hg : s.floor.grant = some g) :
    emptySetup before s = true
      ↔ enteredSetting before s = true ∧ s.floor.setupPlaced = false ∧ AtSetting s g := by
  simp only [emptySetup, enteredSetting, maySetUp, AtSetting, Bool.and_eq_true, beq_iff_eq,
    nothingToPlace_iff hg, Bool.not_eq_true']
  tauto

/-- The head's entry leaves the front of the queue. -/
theorem removeEntry_head {e : Entry} {rest : List Entry} {s : State} (h : s.queue = e :: rest) :
    (removeEntry e.seat s).queue = rest := by
  simp [removeEntry, entriesBefore, entriesBehind, h]

/-- R45, R46: a serving of the queue that ends in SETTING has taken the new holder's entry out of it. -/
theorem serveEntries_setting {l : List Entry} {s : State} (hq : s.queue = l)
    (h : (serveEntries l s).floor.state = .setting) : (serveEntries l s).queue.length < l.length := by
  induction l generalizing s with
  | nil => simp [serveEntries] at h
  | cons e rest ih =>
    unfold serveEntries at h ⊢
    split at h
    · next r hr =>
      have hq' : (endEntry .refusedAtGrant (.refusal r) e s).queue = rest := by
        simp only [endEntry]
        exact removeEntry_head (by simpa using hq)
      exact Nat.lt_succ_of_lt (ih hq' h)
    · simp at h
    · next g hr =>
      simp [makeHolder, removeEntry_head hq]

/-- A serving point that ends in SETTING has taken an entry out of the queue. -/
theorem serve_setting {s : State} (h : (serve s).floor.state = .setting) :
    (serve s).queue.length < s.queue.length := by
  unfold serve at h ⊢
  split at h
  · simp at h
  · next h1 =>
    split at h
    · simp [enterIdent] at h
    · next h2 => simp only [h1, h2, if_false, Bool.false_eq_true]; exact serveEntries_setting rfl h

/-- A turn's end that gives the floor to a next holder has taken its entry out of the queue. -/
theorem endTurn_setting {c : EndCause} {d : EndDetail} {s : State}
    (h : (endTurn c d s).floor.state = .setting) : (endTurn c d s).queue.length < s.queue.length := by
  unfold endTurn enterIdle at h ⊢
  simpa using serve_setting h

/-- A TUNE's key request after which the floor stands in SETTING has ended the turn (R136) and taken the next
entry out of the queue. -/
theorem keyRequest_setting {s : State} (ha : s.floor.state = .onAir) (ht : grantIsTune s = true)
    (h : (keyRequest s).floor.state = .setting) : (keyRequest s).queue.length < s.queue.length := by
  unfold keyRequest at h ⊢
  split at h
  · next hk =>
    simp only [hk, if_true] at h ⊢
    split at h
    · next hf =>
      have he : takeAmpFault (assertPtt s)
          = endTurn .equipment (.equipment .ampFault) (ampOutOfService (unkey (assertPtt s))) := by
        simp [takeAmpFault, equipmentReport, ha]
      rw [he] at h ⊢
      simpa [hf] using endTurn_setting h
    · split at h
      · have hg : grantIsTune (assertPtt s) = true := by simpa [grantIsTune] using ht
        simp [enterKeyed, ha, grantIsTune, startTuneTone] at h hg
        simp [hg, ha] at h
      · simp [ha] at h
  · simp [ha] at h

/-- A completed setup that leaves the floor in SETTING has ended its turn (R136) and taken the next entry out
of the queue. -/
theorem setupComplete_setting {s : State} (h : (setupComplete s).floor.state = .setting) :
    (setupComplete s).queue.length < s.queue.length := by
  unfold setupComplete at h ⊢
  split at h
  · next ht =>
    simp only [ht, if_true, enterOnAir] at h ⊢
    simpa using keyRequest_setting (by simp) (by simpa [grantIsTune] using ht) h
  · simp [enterGranted] at h

/-- An empty setup that is complete with the floor in SETTING again has ended its turn and taken the next
entry out of the queue. -/
theorem setUp_setting {before s : State} (he : emptySetup before s = true)
    (h : (setUp s).floor.state = .setting) : (setUp s).queue.length < s.queue.length := by
  simp only [emptySetup, Bool.and_eq_true, nothingToPlace] at he
  obtain ⟨⟨-, hm⟩, hn⟩ := he
  cases hg : s.floor.grant with
  | none => simp [hg] at hn
  | some g =>
    simp only [hg, Option.any_some] at hn
    simp only [setUp, hg, hm, hn, if_true] at h ⊢
    simpa using setupComplete_setting h

/-- R70: no setup that the act entered with an empty list is left at the end of it. -/
theorem finishSetup_done (before s : State) : emptySetup before (finishSetup before s) = false := by
  have step : ∀ n t, t.queue.length < n → emptySetup before (finishSetups before n t) = false := by
    intro n
    induction n with
    | zero => intro t h; exact absurd h (Nat.not_lt_zero _)
    | succ n ih =>
      intro t h
      unfold finishSetups
      split
      · next he =>
        by_cases hs : (setUp t).floor.state = .setting
        · have := setUp_setting he hs
          exact ih _ (by omega)
        · have hd : emptySetup before (setUp t) = false := by simp [emptySetup, enteredSetting, hs]
          cases n <;> simp [finishSetups, hd]
      · next he => simpa using he
  exact step _ s (Nat.lt_succ_self _)

/-- Completing setups a second time does nothing. -/
theorem finishSetup_idem (before s : State) :
    finishSetup before (finishSetup before s) = finishSetup before s := by
  conv_lhs => rw [finishSetup]
  simp [finishSetups, finishSetup_done]

/-- What setting up keeps, the completion of setups keeps: a property that `setUp` keeps holds behind it. -/
theorem finishSetup_induct {P : State → Prop} {before s : State} (hs : P s)
    (keep : ∀ t, P t → P (setUp t)) : P (finishSetup before s) := by
  unfold finishSetup
  generalize s.queue.length + 1 = n
  induction n generalizing s with
  | zero => exact hs
  | succ n ih =>
    unfold finishSetups
    split
    · exact ih (keep s hs)
    · exact hs

/-- A running part carries an act out, completes an empty setup that it entered and closes it. -/
theorem act_running {f : State → State} {s : State} (h : Running s) :
    act f s = closeAct s (finishSetup s (f s)) := by
  simp [act, h]

/-- An act that leaves the floor's state and its holder alone is only closed. -/
theorem act_floor_kept {f : State → State} {s : State} (h : Running s)
    (hs : (f s).floor.state = s.floor.state) (hh : (f s).floor.holder = s.floor.holder) :
    act f s = closeAct s (f s) := by
  rw [act_running h, finishSetup_kept hs hh]

/-- While RESET_N is low an act does nothing. -/
theorem act_resetLow {f : State → State} {s : State} (h : s.pins.resetLow = true) :
    act f s = s := by
  simp [act, h]

/-- With no report due, the composer writes none. -/
theorem composeReports_of_none {s : State} (h : ∀ seat : SeatNo, reportDue s seat = false) :
    composeReports s = s := by
  unfold composeReports
  generalize List.finRange 12 = l
  induction l with
  | nil => rfl
  | cons x rest ih =>
    have hx : composeReport x s = s := by simp [composeReport, h x]
    simpa [hx] using ih

/-- In a settled state the close of an act that did nothing does nothing. -/
theorem closeAct_self {s : State} (h : Settled s) : closeAct s s = s := by
  have h1 : settleClosing s s = s := by
    unfold settleClosing
    by_cases hc : closingRuns s = true
    · simp [hc, h.board]
    · have hn : s.ident.closing = none := by
        cases hx : s.ident.closing with
        | none => rfl
        | some v => exact absurd (h.closing (by simp [hx])) hc
      have he : { s.ident with closing := none } = s.ident := by
        cases hi : s.ident
        simp_all
      simp only [hc, Bool.false_eq_true, if_false, he]
      rfl
  have h2 : settlePoll s = s := by
    unfold settlePoll
    have := h.poll
    by_cases hp : pollRuns s = true <;> simp_all
  have h3 : settleLines s = s := by
    unfold settleLines
    rw [← h.source, ← h.key]
    rfl
  unfold closeAct
  rw [h1, h2, h3]
  have h4 : settleBoard s s = s := by simp [settleBoard, h.board]
  rw [h4]
  exact composeReports_of_none h.reports

/-- A command that takes an order of one kind answers a next state. -/
theorem execOrder_running {kind : Nat} {carryOut : SeatNo → State → State × Reply} {s : State}
    {seat : SeatNo} {rest : List SeatNo} (h : OrderReady kind seat rest s) :
    execOrder kind carryOut s = .next (closeAct s (finishSetup s
      (let done := carryOut seat (renewPresence seat (s.withHandovers rest))
       placeAnswer seat ⟨orderTag s seat, orderKind s seat, done.2.result, done.2.data⟩
         done.1))) := by
  have hk : ((orderKind s seat).toNat == kind) = true := by simp [h.kind]
  simp [execOrder, act_running h.running, takeOrder, h.front, hk]

end Sys2Proof.Machine
end

