-- ==== Sys2Proof/WellFormed.lean ====
section
/-! DEFINITION. Which operands a command's own row admits. Seats, members and cells are bounded by
their types; what is left is checked here. `exec` does not rest on it: an ill-formed command is
still given a meaning, by the same rules of the port and the bus. -/

namespace Sys2Proof

/-- R159: bit 7 clear (a write), bits 6 to 2 clear, and a width other than 3. -/
def writeCommandOk (command : Byte) : Bool :=
  command &&& 0xFC#8 == 0#8 && command &&& 0x03#8 != 0x03#8

/-- R174: an address byte carries 0 in bit 7. -/
def addressByteOk (b : Byte) : Bool := b &&& 0x80#8 == 0#8

/-- R143: a query's reply has at most 32 data bytes. R145: the other master sends at least its address
byte and at most the 35 bytes of a frame. -/
def AttemptEnd.wellFormed : AttemptEnd → Bool
  | .acknowledged reply _ => decide (reply.length ≤ 32)
  | .noAcknowledge => true
  | .lost [] => false
  | .lost (b :: rest) => addressByteOk b && decide (rest.length ≤ 34)

/-- R143: a command frame has the direction command and as many data bytes as its length says. A
length above 32 is left unacknowledged, and no data follows (R148). -/
def CommandFrame.wellFormed (f : CommandFrame) : Bool :=
  addressByteOk f.address && !f.address.getLsbD 0
    && if f.length.toNat ≤ 32 then f.data.length == f.length.toNat else f.data == []

/-- What is heard of another master's frame. -/
def Heard.wellFormed : Heard → Bool
  | .opening => true
  | .address b => addressByteOk b
  | .command f => f.wellFormed

/-- R150: the byte left unacknowledged is one of the reply but its check byte. -/
def ReplyAsked.wellFormed (asked : ReplyAsked) : Bool :=
  match asked.refused with
  | some i => decide (asked.length.toNat ≤ 32) && decide (i < asked.length.toNat)
  | none => true

/-- The operands the command's row admits. -/
def Instr.wellFormed : Instr → Bool
  -- R160: a data write into the RAM region, 0000h to 7FF7h (bit 15 is ignored, R159).
  | .hostWrite command address data =>
    writeCommandOk command && decide (address.toNat % 0x8000 < 0x7FF8) && data != []
  -- R163: a register position with no behaviour of its own, or CONTROL without bit 0.
  | .registerWrite position value =>
    decide (position.val = 4) && value &&& 0x01#8 == 0#8 || decide (5 ≤ position.val)
  | .busAttemptEnd ended => ended.wellFormed
  | .foreignOpening heard => heard.wellFormed
  | .stateQuery asked => asked.wellFormed
  | _ => true

end Sys2Proof
end

