-- ==== Sys2Proof/Tests/Slice0.lean ====
section
/-! SUPPORT. Tests: the refusals of WellFormed; single steps whose results are those of the manual's worked
cases; and, for each statement with hypotheses, a state and operands that meet them, clause by clause. -/

namespace Sys2Proof.Tests

open Sys2Proof.Machine

-- The tests are checked one after another, so that few of them wait on the kernel at one time.
set_option Elab.async false

/-! ### WellFormed refuses -/

/-- R159: bit 7 set is a read; bits 6 to 2 must be clear; width code 3 is no width. -/
theorem test_read_byte_is_no_write : (Instr.hostWrite 0x80 0x0000 [1]).wellFormed = false := by decide
theorem test_bad_command_bits : (Instr.hostWrite 0x04 0x0000 [1]).wellFormed = false := by decide
theorem test_bad_width : (Instr.hostWrite 0x03 0x0000 [1]).wellFormed = false := by decide
theorem test_write_into_registers : (Instr.hostWrite 0x00 0x7FF8 [1]).wellFormed = false := by decide
theorem test_write_bit_15_ignored : (Instr.hostWrite 0x00 0xFFF8 [1]).wellFormed = false := by decide
theorem test_empty_write : (Instr.hostWrite 0x00 0x0000 []).wellFormed = false := by decide
theorem test_last_ram_byte : (Instr.hostWrite 0x02 0xFFF7 [1]).wellFormed = true := by decide
theorem test_summary_is_no_register_write : (Instr.registerWrite 0 1).wellFormed = false := by decide
theorem test_mask_is_no_register_write : (Instr.registerWrite 3 1).wellFormed = false := by decide
theorem test_restart_is_no_register_write : (Instr.registerWrite 4 1).wellFormed = false := by decide
theorem test_control_without_restart : (Instr.registerWrite 4 2).wellFormed = true := by decide
theorem test_long_reply :
    (Instr.busAttemptEnd (.acknowledged (List.replicate 33 0) 0)).wellFormed = false := by decide
theorem test_lost_to_bit_7 : (Instr.busAttemptEnd (.lost [0x80])).wellFormed = false := by decide
theorem test_lost_to_nothing : (Instr.busAttemptEnd (.lost [])).wellFormed = false := by decide
theorem test_lost_to_36_bytes :
    (Instr.busAttemptEnd (.lost (List.replicate 36 2))).wellFormed = false := by decide
theorem test_opening_with_bit_7 : (Instr.foreignOpening (.address 0x80)).wellFormed = false := by decide
theorem test_query_is_no_command_frame :
    (Instr.foreignOpening (.command ⟨3, 1, [0x10], 0xEC⟩)).wellFormed = false := by decide
theorem test_frame_of_another_length :
    (Instr.foreignOpening (.command ⟨2, 2, [0x10], 0xEC⟩)).wellFormed = false := by decide
theorem test_refused_check_byte : (Instr.stateQuery ⟨5, some 5⟩).wellFormed = false := by decide

/-- The table gives no row any bits. -/
theorem test_no_word_decodes : decodeTableWord 8 0 = none := by decide

/-! ### The station of the worked cases (2.12, 3.11) -/

/-- The code of every member here. -/
def code : List Byte := [1, 2, 3, 4, 5, 6, 7, 8]

/-- An ACTIVE member. -/
def someMember (grade ceiling allowance used : Nat) (priority : Bool) (seat : Option SeatNo) : Member :=
  { state := .active, grade := grade, callsign := [0x51, 0x58, 0x35], code := code, misses := 0,
    priority := priority, ceiling := ceiling, allowance := allowance, used := used, attached := seat }

/-- An ATTACHED seat with nothing pending. -/
def attachedSeat (m : MemberNo) : Seat := { Seat.vacant with attachment := some ⟨m, 530000⟩ }

/-- Member 17 is QX1MV, 9 is QX5TR, 4 is QX2LD with the priority right, 0 the trustee. The four segments are
those of 2.12; member 22 is attached to no seat. The believed setting and Q those of 3.11. -/
def club : State :=
  { State.reset with
    mode := .serving
    stamp := 500000
    members := ((((State.reset.members.set 17 (some (someMember 3 1500 60 2412345 false (some 3)))).set 9
      (some (someMember 2 400 30 0 false (some 6)))).set 4
      (some (someMember 2 1000 60 0 true (some 1)))).set 0
      (some (someMember 4 1500 60 0 false (some 0)))).set 22 (some (someMember 3 1500 60 0 false none))
    seats := (((State.reset.seats.set 3 (attachedSeat 17)).set 6 (attachedSeat 9)).set 1
      (attachedSeat 4)).set 0 (attachedSeat 0)
    plan := (((State.reset.plan.set 2 (some ⟨14000000, 14070000, 2, 0x01, 1000, 2, true⟩)).set 5
      (some ⟨14070000, 14150000, 2, 0x11, 1000, 2, true⟩)).set 6
      (some ⟨14150000, 14225000, 3, 0x06, 1000, 2, true⟩)).set 7
      (some ⟨14225000, 14350000, 2, 0x16, 400, 2, false⟩)
    station := { StationRecord.default with
      callsign := [0x51, 0x58, 0x33, 0x41, 0x42], cst := 1000, turnLimit := 2, ampPresent := true }
    duty := ⟨20000, 0, 0, 1000⟩
    bus := { Bus.initial with
      believed := ⟨some 2, some 14226000, some .data, some 100, some .standby⟩ } }

/-- Seat 3's request and its grant. -/
def voice : Request := ⟨14223800, .usb, 0⟩
def voiceGrant : Grant := ⟨14223800, .usb, 400, true, 2, 180, .keyLimit⟩
def voiceFigures : Figures := ⟨6, 2, 400, 400, true, 1188⟩

/-- The request fields of CHECK and REQUEST. -/
def requestBody (q : Request) (flag : Byte) : List Byte :=
  le32 q.freq ++ [byteOf q.mode.code] ++ le16 q.preq ++ [flag]

/-- An order of a kind, with tag 7, stands in a seat's cell and alone on the hand-over list. -/
def withOrder (seat : SeatNo) (kind : Nat) (body : List Byte) (s : State) : State :=
  let cell := CellRef.order seat
  { s with
    ram := Memory.write cell.handoverAddress 1
      (Memory.writeBlock cell.base ([byteOf kind, 0, 7, 0] ++ body) s.ram)
    handovers := [seat] }

/-- A seat holds the floor with a grant. -/
def held (seat : SeatNo) (m : MemberNo) (st : FloorState) (g : Grant) (s : State) : State :=
  { s with
    floor := { s.floor with state := st, holder := some ⟨seat, m⟩, grant := some g, turnCount := 1 } }

/-- What a test looks at in the state a command leaves. -/
def after (c : Instr) (s : State) {α : Type} (look : State → α) : Option α :=
  match exec c s with
  | .next t => some (look t)
  | _ => none

/-! ### The grant computation on the worked cases of 2.12 -/

def inputs17 (q : Nat) : GrantInputs := { grantInputs club 17 with q := q }

/-- A voice grant across a segment edge. -/
theorem test_grant_across_an_edge :
    computeGrant (inputs17 318000) voice = .grant voiceFigures (some 280) voiceGrant := by decide +kernel

/-- The same request as the chain warms: 33 s, then short with H 6. -/
theorem test_grant_in_a_warm_chain :
    computeGrant (inputs17 355000) voice
        = .grant voiceFigures (some 33) { voiceGrant with duration := 33, limit := .dutyHeadroom }
      ∧ computeGrant (inputs17 359000) voice = .short voiceFigures 6 := by decide +kernel

/-- Grade before mode, and a barefoot grant of 100 W to member 9. -/
theorem test_grant_grade_before_mode :
    computeGrant (grantInputs club 9) ⟨14224000, .data, 0⟩ = .refusal .noPrivilege
      ∧ computeGrant (grantInputs club 9) ⟨14226000, .data, 0⟩
          = .grant ⟨7, 2, 400, 100, false, 1800⟩ none
              ⟨14226000, .data, 100, false, 2, 180, .keyLimit⟩ := by decide +kernel

/-- The edges of the plan. -/
theorem test_grant_at_the_edges :
    computeGrant (inputs17 0) ⟨14000649, .cw, 0⟩ = .refusal .outOfPlan
      ∧ (admission (inputs17 0) ⟨14000650, .cw, 0⟩).toOption.isSome = true
      ∧ (admission (inputs17 0) ⟨14346499, .usb, 0⟩).toOption.isSome = true
      ∧ computeGrant (inputs17 0) ⟨14346500, .usb, 0⟩ = .refusal .outOfPlan
      ∧ (admission (inputs17 0) ⟨14069900, .cw, 0⟩).toOption.map Figures.slot = some 2 := by
  decide +kernel

/-- A spent allowance: A_rem of 9 is refused, one of 11 is the limiting term. -/
theorem test_grant_spent_allowance :
    computeGrant { inputs17 318000 with member := someMember 3 1500 60 3591500 false none } voice
        = .refusal .allowanceSpent
      ∧ computeGrant { inputs17 318000 with member := someMember 3 1500 60 3589999 false none } voice
        = .grant { voiceFigures with aRem := 11 } (some 280)
            { voiceGrant with duration := 11, limit := .allowance } := by decide +kernel

/-- A tune-up, with slot 7 rewritten to permit TUNE. -/
def tuneClub : State :=
  { club with plan := club.plan.set 7 (some ⟨14225000, 14350000, 2, 0x36, 400, 2, false⟩) }
def tuneUp : Request := ⟨14300000, .tune, 0⟩
def tuneGrant : Grant := ⟨14300000, .tune, 20, false, 2, 10, .tuneLimit⟩
theorem test_grant_tune_up :
    computeGrant (grantInputs club 17) tuneUp = .refusal .modeBarred
      ∧ computeGrant (grantInputs tuneClub 17) tuneUp
          = .grant ⟨7, 2, 400, 20, false, 1188⟩ none tuneGrant := by decide +kernel

/-! ### Single steps of the worked sequences -/

/-- 1.7: seat 3 attaches as member 17 at stamp 500,000: deadline 530,000, remaining allowance 1,188 s. -/
def beforeAttach : State :=
  withOrder 3 1 (byteOf 17 :: code)
    { club with
      members := club.members.set 17 (some (someMember 3 1500 60 2412345 false none))
      seats := club.seats.set 3 Seat.vacant }
theorem test_attach_of_member_17 :
    after .attach beforeAttach (fun t => (t.seats[(3 : SeatNo)].attachment, cellBytes t (.report 3) 4 12))
      = some (some ⟨17, 530000⟩, le16 7 ++ [1, 0] ++ [17, 3, 0] ++ le16 1500 ++ [0xA4, 4, 0]) := by
  decide +kernel

/-- 1.7: the fourth wrong code suspends member 17, whose seat 3 is vacated. -/
def wrongCode (misses : Nat) : State :=
  withOrder 8 1 (byteOf 17 :: [9, 2, 3, 4, 5, 6, 7, 8])
    { club with
      members := club.members.set 17
        (some { someMember 3 1500 60 2412345 false (some 3) with misses := misses }) }
theorem test_fourth_wrong_code :
    after .attach (wrongCode 3)
        (fun t => ((memberOf t 17).state, (memberOf t 17).misses, t.seats[(3 : SeatNo)].attachment))
      = some (.suspended, 0, none) := by decide +kernel

/-- 3.11, first row: seat 3's REQUEST is granted at once. -/
def asking : State := withOrder 3 11 (requestBody voice 0) club
theorem test_request_is_granted :
    after .request asking (fun t => (t.floor.state, t.floor.grant, t.queue, t.floor.turnCount))
      = some (.setting, some voiceGrant, [], 1) := by decide +kernel

/-- 3.11: the setup for it: port 2 is believed, so SET_FREQ, SET_DRIVE and OPERATE are sent. -/
def setting : State := held 3 17 .setting voiceGrant club
theorem test_setup_items :
    after .setupPlace setting (fun t => t.bus.floorWork.map Txn.message)
      = some [.setFreq 14223800 .usb, .setDrive 400, .operate] := by decide +kernel

/-- R49, R70: with the station believed at the grant's setting SETTING is left within the act of the REQUEST,
for GRANTED, or for a tune-up for ON_AIR with the key request; a standing amplifier fault ends that tune-up
(R136). -/
def believing (g : Grant) (amp : AmpState) (s : State) : State :=
  { s with bus := { s.bus with
      believed := ⟨some g.port, some g.freq, some g.mode, some g.power, some amp⟩ } }
def askingTune (amp : AmpState) (fault present : Bool) : State :=
  withOrder 3 11 (requestBody tuneUp 0) (believing tuneGrant amp
    { tuneClub with
      pins := { club.pins with ampFault := fault }
      station := { club.station with ampPresent := present } })
theorem test_setup_with_nothing_to_place :
    after .request (believing voiceGrant .operate asking)
        (fun t => (t.floor.state, t.floor.startWait, t.queue)) = some (.granted, some 10000, [])
      ∧ after .request (askingTune .standby true true)
          (fun t => (t.floor.state, t.keying.state, t.ident.window)) = some (.onAir, .leading, true)
      ∧ after .request (askingTune .operate true true)
          (fun t => (t.floor.state, t.floor.setupPlaced)) = some (.setting, false)
      ∧ after .request (askingTune .operate true false)
          (fun t => (t.floor.state, t.floor.holder, t.keying.state, t.keying.ampInService))
        = some (.idle, none, .unkeyed, false) := by decide +kernel

/-- R116: a REQUEST that leaves IDLE and whose turn ends in the same act restarts the closing timer, 30 s. -/
theorem test_closing_timer_restarts_at_full_length :
    after .request { askingTune .operate true false with
        ident := { club.ident with window := true, closing := some 5 } }
        (fun t => (t.floor.state, t.ident.closing)) = some (.idle, some 30000) := by decide +kernel

/-- R64: into IDENT a STANDBY is placed for an amplifier believed OPERATE. -/
theorem test_identification_places_a_standby :
    after .closingExpiry { believing voiceGrant .operate club with
        ident := { club.ident with window := true, closing := some 0 } }
        (fun t => (t.floor.state, t.bus.floorWork.map Txn.message)) = some (.ident, [.standby]) := by
  decide +kernel

/-- 3.11: seat 1's priority entry goes before seat 6's normal one, at position 1. -/
def entry6 : Entry := ⟨6, 9, ⟨14226000, .data, 0⟩, false⟩
def entry1 : Entry := ⟨1, 4, ⟨14030000, .cw, 200⟩, true⟩
def joining (flag : Byte) : State :=
  withOrder 1 11 (requestBody entry1.req flag)
    { held 3 17 .granted voiceGrant club with queue := [entry6] }
theorem test_priority_entry_goes_first :
    after .request (joining 1) (fun t => (t.queue, cellBytes t (.report 1) 8 2))
      = some ([entry1, entry6], [1, 0]) := by decide +kernel

/-- 3.12: at Q 358,750 the head still rests; at 358,500 it is granted 10 s. -/
def entry3 : Entry := ⟨3, 17, voice, false⟩
def resting (q : Nat) : State :=
  { club with
    floor := { club.floor with state := .resting }
    queue := [entry3, entry1]
    duty := ⟨q, 0, 0, 0⟩ }
theorem test_resting_head_is_granted :
    after .dutyIntervalExpiry (resting 359000) (fun t => (t.duty.q, t.floor.state))
        = some (358750, .resting)
      ∧ after .dutyIntervalExpiry (resting 358750)
          (fun t => (t.duty.q, t.floor.state, t.floor.grant.map Grant.duration, t.queue))
        = some (358500, .setting, some 10, [entry1]) := by decide +kernel

/-- 4.9: at Q 359,870 a second at 400 W brings a raw sum of 360,020 and ends the turn DUTY. -/
def onAir : State :=
  { held 3 17 .onAir voiceGrant club with
    keying := { club.keying with state := .keyed }
    source := .frames
    ident := { club.ident with window := true } }
theorem test_duty_end :
    after .dutyIntervalExpiry { onAir with duty := ⟨359870, 1000, 400000, 0⟩ }
        (fun t => (t.duty.q, t.floor.state, t.keying.state))
      = some (360000, .idle, .unkeyed) := by decide +kernel

/-- 5.8: frame 100 behind the playout point 101 is late; frame 104 ahead of it is taken. -/
def withAudio (seat : SeatNo) (cell : AudioCellNo) (kind count : Byte) (seq : Nat) (s : State) : State :=
  { s with ram := Memory.writeBlock (CellRef.audio seat cell).base ([kind, count] ++ le16 seq) s.ram }
def streaming (st : FloorState) (np : Nat) (held' : List Nat) (s : State) : State :=
  { held 3 17 st voiceGrant s with
    playout := { s.playout with
      np := some (BitVec.ofNat 16 np)
      frames := held'.map fun n => ⟨BitVec.ofNat 16 n, .voice []⟩ } }
def figures (t : State) : List Nat × Option (BitVec 16) × Counters :=
  (t.playout.frames.map (fun f => f.seq.toNat), t.playout.np, t.seats[(3 : SeatNo)].counters)
theorem test_late_and_taken_frames :
    after (.audioCellTake 3 0) (withAudio 3 0 1 160 100 (streaming .granted 101 [101] club)) figures
        = some ([101], some 101, { Counters.zero with late := 1 })
      ∧ after (.audioCellTake 3 0) (withAudio 3 0 1 160 104 (streaming .onAir 101 [101, 102, 103] club))
          figures
        = some ([101, 102, 103, 104], some 101, { Counters.zero with taken := 1 }) := by decide +kernel

/-- 5.8: the fourth early frame, 9003, resyncs the stream and stalls the turn. -/
def keyedStream (np : Nat) (held' : List Nat) : State :=
  { streaming .onAir np held' onAir with
    playout := { (streaming .onAir np held' onAir).playout with timer := some 0 }
    keying := { onAir.keying with state := .keyed } }
def beforeResync : State :=
  withAudio 3 0 1 160 9003
    { keyedStream 111 [] with playout := { (keyedStream 111 []).playout with earlyRun := 3, u := 2 } }
theorem test_resync_stalls :
    after (.audioCellTake 3 0) beforeResync
        (fun t => (t.playout.np, t.playout.u, t.playout.earlyRun, t.floor.state, t.keying.state))
      = some (some 9003, 2, 0, .stalled, .unkeyed) := by decide +kernel

/-- 6.9: the silent step for 512 brings u to 10: STARVE, the window restarts, the rejoin timer runs 1500 ms. -/
def starving : State :=
  { keyedStream 512 [] with
    playout := { (keyedStream 512 []).playout with u := 9 }
    watch := ⟨Criteria.empty, true, 32, 1⟩ }
theorem test_starvation_stalls :
    after .playoutStep starving
        (fun t => (t.playout.np, t.playout.u, t.watch, t.floor.state, t.floor.rejoin))
      = some (some 513, 10, ⟨⟨true, false, false⟩, true, 0, 0⟩, .stalled, some 1500) := by
  decide +kernel

/-- R108: at a starve limit of 1 the first empty step warns and starves. -/
theorem test_starve_limit_of_one :
    after .playoutStep { starving with
        playout := { starving.playout with u := 0 }, watch := ⟨Criteria.empty, false, 0, 0⟩
        station := { starving.station with starveLimit := 1 } }
        (fun t => (t.seats[(3 : SeatNo)].warned, t.floor.state, t.watch.criteria.starve))
      = some (true, .stalled, true) := by decide +kernel

/-- 7.9: the pattern of QX3AB at 20 wpm is 63 dots, 3,780 ms, 37 of them open; at 25 wpm 3,024 ms. -/
theorem test_morse_of_the_callsign :
    (newSender club.station false false).length = 3780
      ∧ (newSender { club.station with idSpeed := 25 } false false).length = 3024
      ∧ patternDots ((newSender club.station false false).elements.filter Element.down) = 37 := by
  decide +kernel

/-- 9.1: bytes of sum 1F3h have the check byte 0Dh. -/
theorem test_check_byte : checkByteOf [0xFF, 0xF4] = 0x0D := by decide

/-- 9.7: a frame to 10h loses against a panel frame to 01h: the part follows, with one loss. -/
def sending (m : Message) (o : Owner) (attempts : Nat) (s : State) : State :=
  { s with
    bus := { s.bus with
      engine := .sending, attemptOpen := true, inFlight := some ⟨m, o, 0x10, attempts, 0⟩ } }
theorem test_lost_arbitration :
    after (.busAttemptEnd (.lost [0x02])) (sending (.setFreq 14030000 .cw) .setup 0 setting)
        (fun t => (t.bus.engine, t.bus.inFlight.map Txn.losses))
      = some (.following, some 1) := by decide +kernel

/-- R147: SBD held for 0, 5 and 12 pulses: one pulse at least, and nine at most. -/
theorem test_recovery_clocks_until_the_data_line_is_let_go :
    ([0, 5, 12].map fun n => after .busRecovery
        { club with bus := { club.bus with engine := .recovering, sbdPulses := n } }
        (fun t => (t.bus.engine, t.bus.pulses, t.bus.sbdPulses)))
      = [some (.free, 1, 0), some (.free, 5, 0), some (.free, 9, 3)] := by decide +kernel

/-- R145: an address byte of 30h is higher in value than 20h and cannot win. -/
theorem test_higher_byte_does_not_win :
    after (.busAttemptEnd (.lost [0x30])) (sending (.setFreq 14030000 .cw) .setup 0 setting)
        (fun t => (t.bus.engine, t.bus.inFlight.map Txn.losses))
      = some (.sending, some 0) := by decide +kernel

/-- R148: the panel's TAKE at the part's address is taken, its four bytes acknowledged; at the general
address its check byte is acknowledged too and it is discarded. -/
def takeFrame : CommandFrame := ⟨0x02, 1, [0x10], 0xED⟩
def takeToAll : CommandFrame := ⟨0x00, 1, [0x10], 0xEF⟩
theorem test_take_is_taken_at_the_own_address :
    after .take setting (fun t => (t.floor.state, t.bus.acked, t.bus.inbound))
        = some (.panelHeld, 4, none)
      ∧ after (.foreignOpening (.command takeToAll)) setting
          (fun t => (t.floor.state, t.bus.acked, t.bus.inbound)) = some (.setting, 4, none)
      ∧ panelFrame .take setting = takeFrame ∧ keptMessage setting takeFrame = some .take := by decide +kernel

/-- R150: the reply is that of the moment the address byte was acknowledged, here in SETTING. R148, R181: a
frame that has closed is followed no more. -/
theorem test_reply_is_formed_at_the_address_byte :
    after (.foreignOpening (.address 0x03)) setting (fun t => t.bus.followed)
        = some (some ⟨0x03, [0x14, byteOf FloorState.setting.code, 17, 0, 0]⟩)
      ∧ after (.stateQuery ⟨2, none⟩)
          { club with bus := { club.bus with
              engine := .following, followed := some ⟨0x03, [0x14, 0x55, 17, 0, 0]⟩ } }
          (fun t => (t.bus.reply, t.bus.followed)) = some ([0x14, 0x55, 0x92], none) := by decide +kernel
theorem test_closed_frame_is_not_followed :
    after (.foreignOpening (.command takeToAll)) setting (fun t => (t.bus.followed, t.bus.closed))
      = some (none, true) := by decide +kernel

/-- R148, R181: an address byte left unacknowledged is not taken on when the own address becomes it; a frame
that opens anew is. A frame taken up at an old address, with the buffer occupied, is held under that address. -/
def moved (s : State) : State := { s with station := { s.station with ownAddress := 2 } }
def takeAtTwo : CommandFrame := ⟨0x04, 1, [0x10], 0xEB⟩
def passing : State := moved (hear (some 0x04) setting)
theorem test_passed_frame_is_not_taken_later :
    after (.foreignOpening (.command takeAtTwo)) passing
        (fun t => (t.bus.engine, t.bus.acked, t.bus.inbound)) = some (.listening, 0, none)
      ∧ after (.foreignOpening (.command takeAtTwo)) (hear none passing)
        (fun t => (t.bus.engine, t.bus.acked, t.bus.inbound)) = some (.following, 4, some .take) := by
  decide +kernel
theorem test_taken_up_frame_is_held_under_its_address :
    after (.foreignOpening (.command takeFrame))
        (moved { setting with bus := { setting.bus with
          engine := .following, followed := some ⟨0x02, []⟩, inbound := some .give } })
        (fun t => (t.bus.hold, t.bus.followed, t.bus.inbound))
      = some (some 10, some ⟨0x02, []⟩, some .give) := by decide +kernel

/-- R145, R150, R152: a sixteenth loss to a query at the part's address ends the turn SETUP_FAILED before the
reply is formed, which shows IDLE with no holder. -/
theorem test_reply_shows_the_floor_after_the_loss :
    after (.busAttemptEnd (.lost [0x03]))
        { sending (.setFreq 14030000 .cw) .setup 0 setting with
          bus := { (sending (.setFreq 14030000 .cw) .setup 0 setting).bus with
            inFlight := (sending (.setFreq 14030000 .cw) .setup 0 setting).bus.inFlight.map
              fun x => { x with losses := 15 } } }
        (fun t => (t.bus.engine, t.bus.followed, t.bus.inFlight))
      = some (.following, some ⟨0x03, [0x14, 0, 0xFF, 0, 0]⟩, none) := by decide +kernel

/-- R13: an order taken first renews the deadline, and the expiry does not occur. -/
theorem test_renewed_deadline_does_not_expire :
    after (.presenceExpiry 3) club (fun t => t.seats[(3 : SeatNo)].attachment.isSome) = some true
      ∧ after (.presenceExpiry 3) { club with stamp := 530000 }
          (fun t => t.seats[(3 : SeatNo)].attachment.isSome) = some false := by decide +kernel

/-- R70: STALLED, ON_AIR and STALLED again in one act (R106) shows the same board and rewrites it. -/
def stalledAtOne : State :=
  withAudio 3 0 1 160 9003
    { streaming .stalled 111 [] club with
      playout := { (streaming .stalled 111 [] club).playout with earlyRun := 3 }
      station := { club.station with threshold := 1, lead := 0 }
      ident := { club.ident with window := true } }
theorem test_stalled_twice_rewrites_the_board :
    floorBoard stalledAtOne
        = floorBoard (setFloorState .stalled (setFloorState .onAir stalledAtOne))
      ∧ (settleBoard stalledAtOne
          (setFloorState .stalled (setFloorState .onAir stalledAtOne))).page.updateCount = 1 := by
  decide +kernel

/-- R126: at a pitch of 1000 Hz eight samples are a turn: the peak at the third, 0 again at the fifth. -/
theorem test_tone_burst :
    (burstSample 1000 2, burstSample 1000 4, burstSample 1000 6) = (16384, 0, -16384) := by
  decide +kernel

/-- 11.3: the worked write with clamps: five fields are changed. -/
def clampedWrite : StationRecord :=
  { club.station with keyLimit := 20, minGrant := 45, rejoin := 2350, pitch := 650, cb := 250 }
theorem test_station_write_clamps :
    clampedWrite.clampCount = 5
      ∧ [clampedWrite.clamped.keyLimit, clampedWrite.clamped.minGrant, clampedWrite.clamped.rejoin,
          clampedWrite.clamped.pitch, clampedWrite.clamped.cb] = [30, 30, 2300, 600, 200] := by decide

/-! ### States that meet the hypotheses

For each statement with hypotheses, one theorem: clause by clause, in the statement's order, a state and
operands that meet them, at the ends of a range where a clause has one. -/

/-! #### How the laws are met -/

theorem ready {kind : Nat} {seat : SeatNo} {rest : List SeatNo} {s : State}
    (h : s.pins.resetLow = false ∧ s.handovers = seat :: rest ∧ (orderKind s seat).toNat = kind) :
    OrderReady kind seat rest s := ⟨h.1, h.2.1, h.2.2⟩

theorem floorLaw_of {s : State}
    (h : s.floor.holder.isSome = s.floor.state.hasHolder ∧ s.floor.grant.isSome = s.floor.holder.isSome
      ∧ (∀ x ∈ s.floor.holder, attachedMember s x.seat = some x.member)
      ∧ (s.floor.holder.isNone → s.floor.turnCount = 0) ∧ (s.queue.map Entry.seat).Nodup
      ∧ (∀ e ∈ s.queue, attachedMember s e.seat = some e.member)
      ∧ ∀ x ∈ s.floor.holder, ∀ e ∈ s.queue, e.seat ≠ x.seat) : FloorLaw s :=
  ⟨h.1, h.2.1, h.2.2.1, fun e => h.2.2.2.1 (by rw [e]; rfl), h.2.2.2.2.1, h.2.2.2.2.2.1,
    h.2.2.2.2.2.2⟩

theorem seatLaw_of {s : State}
    (h : (∀ seat : SeatNo, ∀ m ∈ attachedMember s seat,
        (s.members[m].any fun r => r.attached == some seat && r.state == .active) = true)
      ∧ ∀ m : MemberNo, ∀ r ∈ s.members[m], ∀ seat ∈ r.attached, attachedMember s seat = some m) :
    SeatLaw s := by
  refine ⟨fun seat m e => ?_, fun m r seat e a => h.2 m r e seat a⟩
  have h1 := h.1 seat m e
  match e' : s.members[m] with
  | none => rw [e'] at h1; cases h1
  | some r =>
    rw [e'] at h1
    simp only [Option.any_some, Bool.and_eq_true, beq_iff_eq] at h1
    exact ⟨r, rfl, h1.1, h1.2⟩

theorem identLaw_of {s : State}
    (h : (s.ident.pending = true → s.ident.window = true)
      ∧ (s.ident.overdue = true → s.ident.pending = true)
      ∧ (s.ident.periodic.isSome = true → s.ident.window = true)
      ∧ (s.ident.closing.isSome = true → s.ident.window = true)
      ∧ (s.ident.grace.isSome = true → s.ident.pending = true)
      ∧ (s.ident.sender.isSome = true → s.keying.state = .keyed)
      ∧ (s.floor.state = .shut → s.queue = []) ∧ (s.floor.state = .shut → s.ident.window = false)) :
    IdentLaw s :=
  ⟨h.1, h.2.1, h.2.2.1, h.2.2.2.1, h.2.2.2.2.1, h.2.2.2.2.2.1, h.2.2.2.2.2.2.1, h.2.2.2.2.2.2.2⟩

theorem settled_of {s : State}
    (h : (s.ident.closing.isSome = true → closingRuns s = true)
      ∧ s.keying.poll.isSome = pollRuns s ∧ s.source = selectSource s
      ∧ s.keying.requestedKey = selectKey s ∧ s.page.boardDue = false
      ∧ ∀ seat : SeatNo, reportDue s seat = false) : Settled s :=
  ⟨h.1, h.2.1, h.2.2.1, h.2.2.2.1, h.2.2.2.2.1, h.2.2.2.2.2⟩

theorem noCell {a : Nat}
    (h : (∀ n : BusCellNo, ¬ ((CellRef.bus n).base ≤ a ∧ a < (CellRef.bus n).base + 256))
      ∧ (∀ n : SeatNo, ¬ ((CellRef.order n).base ≤ a ∧ a < (CellRef.order n).base + 128))
      ∧ (∀ n : SeatNo, ¬ ((CellRef.report n).base ≤ a ∧ a < (CellRef.report n).base + 256))
      ∧ ∀ (n : SeatNo) (k : AudioCellNo),
          ¬ ((CellRef.audio n k).base ≤ a ∧ a < (CellRef.audio n k).base + 384)) (cell : CellRef) :
    ¬ (cell.base ≤ a ∧ a < cell.base + cell.size) := by
  cases cell with
  | bus n => exact h.1 n
  | order n => exact h.2.1 n
  | report n => exact h.2.2.1 n
  | audio n k => exact h.2.2.2 n k

/-! #### The step, the registers and the exchange memory -/

def lowReset : State := { club with pins := { club.pins with resetLow := true } }
def inPhase (p : PortPhase) : State := { club with port := { club.port with phase := p } }

theorem test_met_EmptyQueueLetsTheClockAct :
    (lowReset.pending = [] ∧ lowReset.pins.resetLow = true)
      ∧ (club.pending = [] ∧ Running club ∧ due club = [])
      ∧ (onAir.pending = [] ∧ Running onAir ∧ due onAir = [] ∧ onAir.keying.state ≠ .unkeyed)
      ∧ due { club with duty := ⟨0, 0, 0, 0⟩ } ≠ [] := by decide +kernel

theorem test_met_PowerOnAndRestart : PortTakes club ∧ (0x01 : Byte).getLsbD 0 = true := by decide

theorem test_met_ResetLineHoldsThePart :
    lowReset.pins.resetLow = true ∧ lineCommand .attach = false ∧ lineCommand .halt = false := by decide

theorem test_met_RegisterWritesReachTheirBits :
    PortTakes club ∧ (0xFE : Byte).getLsbD 0 = false ∧ (0x40 : Byte).getLsbD 6 = true
      ∧ 5 ≤ (5 : Fin 8).val
      ∧ (IsWrite 0x00 ∧ (0x7FFF : BitVec 16).toNat % 0x8000 = 0x7FF8 + (7 : Fin 8).val) := by decide

theorem test_met_PortIgnoresUntilTheClose :
    PortTakes club ∧ commandOk 0x04 = false ∧ commandOk 0x03 = false
      ∧ (readCommand 0x80 = true ∧ 0 + 1 < [(0 : Byte), 0].length)
      ∧ ((inPhase .ignoring).port.phase = .ignoring ∧ portCommand .restart = true
        ∧ Running (inPhase .ignoring))
      ∧ ((inPhase .restarted).port.phase = .restarted ∧ Running (inPhase .restarted)
        ∧ readCommand 0x00 = false) := by decide

/-- Bit 15 of the address is ignored; the last byte below the hand-over byte, and the first of the cell. -/
theorem test_met_HostWriteStoresItsBurst :
    PortTakes club ∧ Settled club ∧ IsWrite 0x02 ∧ partHeld club (.order 3) = false
      ∧ (0xA87E : BitVec 16).toNat % 0x8000 = (CellRef.order 3).base + 126
      ∧ 126 + [(7 : Byte)].length < (CellRef.order 3).size
      ∧ (0x2800 : BitVec 16).toNat % 0x8000 = (CellRef.order 3).base + 0
      ∧ 0 + (List.replicate 127 (7 : Byte)).length < (CellRef.order 3).size :=
  ⟨by decide, settled_of (by decide +kernel), by decide +kernel⟩

/-- The last address before the registers, the device page, a part-held report cell, and a hand-over byte
given another value than 01h; with bit 14 of SUMMARY set and clear. -/
theorem test_met_RefusedWriteIsLatched :
    (PortTakes club ∧ Settled club ∧ IsWrite 0x00)
      ∧ ((0x7FF7 : BitVec 16).toNat % 0x8000 < 0x7FF8 ∧ ∀ cell : CellRef,
          ¬ (cell.base ≤ (0x7FF7 : BitVec 16).toNat % 0x8000
            ∧ (0x7FF7 : BitVec 16).toNat % 0x8000 < cell.base + cell.size))
      ∧ ((CellRef.report 3).base ≤ 0x2880 ∧ 0x2880 < (CellRef.report 3).base + (CellRef.report 3).size
          ∧ partHeld club (.report 3) = true)
      ∧ ((CellRef.order 3).base ≤ 0x287F ∧ 0x287F < (CellRef.order 3).base + (CellRef.order 3).size
          ∧ 0x287F = (CellRef.order 3).handoverAddress ∧ (0 : Byte) ≠ 1)
      ∧ club.port.summary.getLsbD 14 = false
      ∧ ({ club.port with summary := 0x4000 } : Port).summary.getLsbD 14 = true :=
  ⟨⟨by decide, settled_of (by decide +kernel), by decide⟩,
    ⟨by decide, noCell (by decide +kernel)⟩, by decide +kernel⟩

/-- Seat 3's report cell is the host's, with nothing waiting, or with a notice waiting. -/
def hostReport (notices : List Notice) : State :=
  { club with
    ram := Memory.write (CellRef.report 3).handoverAddress 0 club.ram
    seats := club.seats.set 3 { club.seats[(3 : SeatNo)] with notices := notices } }

theorem test_met_CellsAreHandedOver :
    (handedCell (.busCellHandover 3) = some (.bus 3) ∧ IsWrite 0x00
        ∧ (0x0FFF : BitVec 16).toNat % 0x8000 = (CellRef.bus 3).handoverAddress)
      ∧ (PortTakes club ∧ Settled club ∧ partHeld club (.order 3) = false)
      ∧ (PortTakes asking ∧ Settled asking ∧ partHeld asking (.order 3) = true)
      ∧ (Settled (hostReport []) ∧ partHeld (hostReport []) (.report 3) = false
          ∧ (hostReport []).seats[(3 : SeatNo)].answer = none
          ∧ (hostReport []).seats[(3 : SeatNo)].notices = [])
      ∧ (Settled (hostReport [⟨.queue 1, 0⟩])
          ∧ partHeld (hostReport [⟨.queue 1, 0⟩]) (.report 3) = false
          ∧ (hostReport [⟨.queue 1, 0⟩]).seats[(3 : SeatNo)].notices ≠ []) :=
  ⟨by decide +kernel, ⟨by decide, settled_of (by decide +kernel), by decide +kernel⟩,
    ⟨by decide, settled_of (by decide +kernel), by decide +kernel⟩,
    ⟨settled_of (by decide +kernel), by decide +kernel⟩,
    ⟨settled_of (by decide +kernel), by decide +kernel⟩⟩

/-- A bus cell's fields: a query of 32 bytes to 63, and a query of the general address, which is refused. -/
def withBusCell (fields : List Byte) : State :=
  { club with ram := Memory.writeBlock (CellRef.bus 0).base fields club.ram }
theorem test_met_BusCellIsJudgedAtItsHandOver :
    (PortTakes (withBusCell [1, 63, 32]) ∧ Settled (withBusCell [1, 63, 32])
        ∧ partHeld (withBusCell [1, 63, 32]) (.bus 0) = false
        ∧ (⟨1, 63, 32⟩ : BusFields) = busFields (withBusCell [1, 63, 32]) 0)
      ∧ (Settled (withBusCell [1, 0, 0])
          ∧ (⟨1, 0, 0⟩ : BusFields) = busFields (withBusCell [1, 0, 0]) 0) :=
  ⟨⟨by decide, settled_of (by decide +kernel), by decide +kernel⟩,
    ⟨settled_of (by decide +kernel), by decide +kernel⟩⟩

/-! #### The audio path -/

/-- A frame of sequence number `seq` in seat 3's cell 0, with the floor GRANTED and np 101. -/
def granted (seq : Nat) : State := withAudio 3 0 1 160 seq (streaming .granted 101 [101] club)

def firstFrame : State := withAudio 3 0 1 160 500 (held 3 17 .granted voiceGrant club)

/-- The hypotheses of the placed frame: late at 32768, early at 32767 and at 16, a duplicate at 0, inserted
at 15. -/
theorem test_met_AudioFrameIsPlacedByItsDistance :
    (PortTakes (granted 101) ∧ partHeld (granted 101) (.audio 3 0) = false
        ∧ streamFrame 6 (audioHead (granted 101) (.audio 3 0)) (granted 101) = false)
      ∧ (∀ seq ∈ [101 + 32768, 101 + 32767, 101 + 16, 101 + 15, 101],
          PortTakes (granted seq) ∧ partHeld (granted seq) (.audio 3 0) = false
            ∧ (⟨1, 160, BitVec.ofNat 16 seq⟩ : AudioFrame) = audioHead (granted seq) (.audio 3 0)
            ∧ streamFrame 3 ⟨1, 160, BitVec.ofNat 16 seq⟩ (granted seq) = true
            ∧ (granted seq).playout.np = some 101
            ∧ seq - 101 = (BitVec.ofNat 16 seq - 101).toNat
            ∧ (granted seq).watch.disorder + 1 ≠ (granted seq).station.disorderLimit
            ∧ (granted seq).playout.frames.length + 1 < (granted seq).station.threshold
            ∧ (granted seq).playout.earlyRun < 3)
      ∧ (streamFrame 3 (audioHead firstFrame (.audio 3 0)) firstFrame = true
        ∧ PortTakes firstFrame ∧ partHeld firstFrame (.audio 3 0) = false
        ∧ firstFrame.playout.np = none
        ∧ firstFrame.playout.frames.length + 1 < firstFrame.station.threshold) := by decide +kernel

/-- Two frames held and a third to come, in GRANTED; the first of all with a threshold of 1, in STALLED; and a
fourth early frame. -/
def third : State := withAudio 3 0 1 160 102 (streaming .granted 101 [101, 103] club)
def firstAgain : State :=
  { withAudio 3 0 1 160 500 (held 3 17 .stalled voiceGrant club) with
    station := { club.station with threshold := 1 } }
def fourthEarly (s : State) : State :=
  { s with playout := { s.playout with earlyRun := 3 } }
/-- No lead delay: a threshold of 1 with the first frame of all, and with the frame of np itself; a fourth early
frame in STALLED; and the frame that brings the disorder count to its limit, late, early and a duplicate, in
STALLED and on the air. -/
def noLead (s : State) : State := { s with station := { s.station with lead := 0, threshold := 1 } }
def ofPoint : State := withAudio 3 0 1 160 101 (noLead (streaming .stalled 101 [] club))
def fourthStalled (seq : Nat) : State :=
  withAudio 3 0 1 160 seq (fourthEarly (streaming .stalled 101 [] club))
def disorderly (rejoin seq : Nat) (s : State) : State :=
  withAudio 3 0 1 160 seq
    { s with
      watch := { s.watch with disorder := 7 }
      station := { s.station with rejoin := rejoin } }
theorem test_met_ThresholdAndResyncActOnTheFloor :
    (PortTakes third ∧ partHeld third (.audio 3 0) = false
        ∧ streamFrame 3 (audioHead third (.audio 3 0)) third = true ∧ third.floor.state = .granted
        ∧ third.floor.holder = some ⟨3, 17⟩ ∧ third.playout.np = some 101
        ∧ ((audioHead third (.audio 3 0)).seq - 101).toNat < 16
        ∧ third.playout.holds (audioHead third (.audio 3 0)).seq = false
        ∧ third.station.threshold ≤ third.playout.frames.length + 1 ∧ third.mode = .serving
        ∧ third.pins.txInhibit = false ∧ third.pins.ampFault = false
        ∧ third.keying.state = .unkeyed ∧ third.station.lead ≠ 0)
      ∧ (PortTakes firstAgain ∧ streamFrame 3 (audioHead firstAgain (.audio 3 0)) firstAgain = true
        ∧ firstAgain.floor.state = .stalled ∧ firstAgain.playout.np = none
        ∧ firstAgain.station.threshold ≤ firstAgain.playout.frames.length + 1
        ∧ firstAgain.keying.state = .unkeyed)
      ∧ (streamFrame 3 (audioHead (noLead firstAgain) (.audio 3 0)) (noLead firstAgain) = true
        ∧ (noLead firstAgain).playout.np = none ∧ (noLead firstAgain).station.lead = 0
        ∧ (noLead firstAgain).playout.trimRun < 249)
      ∧ (streamFrame 3 (audioHead ofPoint (.audio 3 0)) ofPoint = true
        ∧ ofPoint.playout.np = some 101 ∧ (audioHead ofPoint (.audio 3 0)).seq = 101
        ∧ ofPoint.playout.holds 101 = false
        ∧ ofPoint.station.threshold ≤ ofPoint.playout.frames.length + 1)
      ∧ (∀ seq ∈ [101 + 16, 101 + 32767], PortTakes (fourthEarly (granted seq))
        ∧ partHeld (fourthEarly (granted seq)) (.audio 3 0) = false
        ∧ streamFrame 3 (audioHead (fourthEarly (granted seq)) (.audio 3 0)) (fourthEarly (granted seq))
            = true
        ∧ (fourthEarly (granted seq)).playout.np = some 101
        ∧ 16 ≤ ((audioHead (granted seq) (.audio 3 0)).seq - 101).toNat
        ∧ ((audioHead (granted seq) (.audio 3 0)).seq - 101).toNat < 32768
        ∧ 3 ≤ (fourthEarly (granted seq)).playout.earlyRun
        ∧ (fourthEarly (granted seq)).floor.state = .granted
        ∧ 1 < (fourthEarly (granted seq)).station.threshold)
      ∧ (∀ seq ∈ [101 + 16, 101 + 32767],
        streamFrame 3 (audioHead (fourthStalled seq) (.audio 3 0)) (fourthStalled seq) = true
        ∧ (fourthStalled seq).playout.np = some 101 ∧ 3 ≤ (fourthStalled seq).playout.earlyRun
        ∧ (fourthStalled seq).floor.state = .stalled ∧ 1 < (fourthStalled seq).station.threshold
        ∧ (fourthStalled seq).station.criteria.resync = true)
      ∧ (PortTakes beforeResync ∧ streamFrame 3 (audioHead beforeResync (.audio 3 0)) beforeResync = true
        ∧ watching beforeResync = true ∧ beforeResync.station.criteria.resync = true
        ∧ beforeResync.station.rejoin ≠ 0)
      ∧ (∀ x ∈ [(101 + 32768, 32768), (101 + 32767, 32767), (101 + 16, 16), (101, 0)],
        let s := disorderly 1500 x.1 (streaming .stalled 101 [101] club)
        let t := disorderly 1500 x.1 (keyedStream 101 [101])
        (streamFrame 3 (audioHead s (.audio 3 0)) s = true ∧ s.playout.np = some 101
            ∧ x.2 = ((audioHead s (.audio 3 0)).seq - 101).toNat
            ∧ (32768 ≤ x.2 ∨ 16 ≤ x.2 ∧ s.playout.earlyRun < 3
              ∨ x.2 < 16 ∧ s.playout.holds (audioHead s (.audio 3 0)).seq = true)
            ∧ s.station.criteria.disorder = true ∧ s.station.disorderLimit ≤ 50
            ∧ s.watch.disorder + 1 = s.station.disorderLimit ∧ s.floor.state = .stalled)
          ∧ (streamFrame 3 (audioHead t (.audio 3 0)) t = true ∧ watching t = true
            ∧ t.station.rejoin ≠ 0))
      ∧ (watching (disorderly 0 101 (keyedStream 101 [101])) = true
        ∧ (disorderly 0 101 (keyedStream 101 [101])).station.rejoin = 0
        ∧ FloorLaw (disorderly 0 101 (keyedStream 101 [101]))) :=
  ⟨by decide +kernel, by decide +kernel, by decide +kernel, by decide +kernel, by decide +kernel,
    by decide +kernel, by decide +kernel, by decide +kernel,
    ⟨by decide +kernel, by decide, floorLaw_of (by decide +kernel)⟩⟩

/-- The step that brings u to half the starve limit; and a starve limit of 1, at which the warning and the
starvation meet. -/
def weak : State :=
  { keyedStream 512 [] with playout := { (keyedStream 512 []).playout with u := 4 } }
def limitOne (rejoin : Nat) : State :=
  { keyedStream 512 [] with station := { club.station with starveLimit := 1, rejoin := rejoin } }
theorem test_met_PlayoutStepPlaysOrStarves :
    (Running (keyedStream 500 [500, 502]) ∧ stepsMade (keyedStream 500 [500, 502]) = true
        ∧ (keyedStream 500 [500, 502]).playout.np = some 500
        ∧ (keyedStream 500 [500, 502]).playout.timer.isSome = true
        ∧ (keyedStream 500 [500, 502]).playout.trimRun < 249
        ∧ (keyedStream 500 [500, 502]).playout.frames.find? (fun x => x.seq == 500)
            = some ⟨500, .voice []⟩)
      ∧ (stepsMade (keyedStream 501 [502]) = true ∧ (keyedStream 501 [502]).playout.holds 501 = false
        ∧ overlayInProgress (keyedStream 501 [502]) = false
        ∧ (keyedStream 501 [502]).playout.u + 1 ≠ (keyedStream 501 [502]).station.starveLimit
        ∧ (keyedStream 501 [502]).floor.holder = some ⟨3, 17⟩)
      ∧ (Running starving ∧ FloorLaw starving ∧ watching starving = true
        ∧ starving.playout.np = some 512 ∧ starving.playout.timer.isSome = true
        ∧ starving.playout.holds 512 = false ∧ starving.floor.holder = some ⟨3, 17⟩
        ∧ starving.station.criteria.starve = true
        ∧ starving.playout.u + 1 = starving.station.starveLimit ∧ starving.station.rejoin ≠ 0)
      ∧ (FloorLaw weak ∧ watching weak = true ∧ weak.playout.holds 512 = false
        ∧ weak.playout.u + 1 = max 1 (weak.station.starveLimit / 2)
        ∧ weak.playout.u + 1 ≠ weak.station.starveLimit ∧ weak.watch.warned = false)
      ∧ (FloorLaw { starving with station := { starving.station with rejoin := 0 } })
      ∧ (FloorLaw (limitOne 1500) ∧ FloorLaw (limitOne 0))
      ∧ (∀ rejoin ∈ [1500, 0], watching (limitOne rejoin) = true
        ∧ (limitOne rejoin).station.criteria.starve = true
        ∧ (limitOne rejoin).playout.u + 1 = max 1 ((limitOne rejoin).station.starveLimit / 2)
        ∧ (limitOne rejoin).playout.u + 1 = (limitOne rejoin).station.starveLimit
        ∧ (limitOne rejoin).watch.warned = false ∧ (limitOne rejoin).station.rejoin = rejoin) :=
  ⟨by decide +kernel, by decide +kernel,
    ⟨by decide, floorLaw_of (by decide +kernel), by decide +kernel⟩,
    ⟨floorLaw_of (by decide +kernel), by decide +kernel⟩, floorLaw_of (by decide +kernel),
    ⟨floorLaw_of (by decide +kernel), floorLaw_of (by decide +kernel)⟩, by decide +kernel⟩

/-- Seven frames held and the 250th step; 49 steps of the window; a CW step with a transition to come; a
tune-up's phase. -/
def deepStream : State :=
  { keyedStream 500 [500, 501, 502, 503, 504, 505, 506] with
    playout := { (keyedStream 500 [500, 501, 502, 503, 504, 505, 506]).playout with trimRun := 249 } }
def cwAir : State :=
  { onAir with
    floor := { onAir.floor with grant := some { voiceGrant with mode := .cw } }
    playout := { onAir.playout with step := .keying [⟨0, true⟩, ⟨5, false⟩] } }
theorem test_met_MomentsOfTheStream :
    (Running deepStream ∧ stepsMade deepStream = true ∧ deepStream.playout.np = some 500
        ∧ 249 ≤ deepStream.playout.trimRun
        ∧ deepStream.station.threshold + deepStream.station.trimMargin ≤ deepStream.playout.depth
        ∧ deepStream.floor.holder = some ⟨3, 17⟩)
      ∧ (watching { onAir with watch := ⟨Criteria.empty, false, 49, 3⟩ } = true)
      ∧ (cwAir.keying.state = .keyed ∧ cwAir.playout.step = .keying [⟨0, true⟩, ⟨5, false⟩]
        ∧ stepsMade cwAir = true ∧ grantIsCw cwAir = true ∧ overlayInProgress cwAir = false)
      ∧ ({ gate := true, timer := some 0, pitch := 700, age := 250 } : Tone).timer.isSome = true := by decide +kernel

/-- IDENT, asking and then LEADING; a tune-up LEADING; a stream LEADING. -/
def identState : State :=
  { club with
    floor := { club.floor with state := .ident }
    ident := { club.ident with window := true, pending := true, lastMode := some .usb } }
def leading (s : State) : State :=
  { s with keying := { s.keying with state := .leading, lead := some 0 } }
theorem test_met_KeyingUpTakesTheLeadDelay :
    (Running identState ∧ identState.floor.state = .ident ∧ identState.floor.identAsked = false
        ∧ floorOutstanding identState = false ∧ identState.mode = .serving
        ∧ identState.pins.txInhibit = false ∧ identState.pins.ampFault = false
        ∧ identState.keying.state = .unkeyed ∧ identState.station.lead ≠ 0)
      ∧ ((leading identState).keying.state = .leading ∧ (leading identState).floor.state = .ident)
      ∧ ((leading (held 3 17 .onAir tuneGrant club)).keying.state = .leading
        ∧ (leading (held 3 17 .onAir tuneGrant club)).floor.state = .onAir
        ∧ grantIsTune (leading (held 3 17 .onAir tuneGrant club)) = true
        ∧ (leading (held 3 17 .onAir tuneGrant club)).ident.sender = none)
      ∧ ((leading (streaming .onAir 101 [101] club)).keying.state = .leading
        ∧ (leading (streaming .onAir 101 [101] club)).floor.state = .onAir
        ∧ grantIsTune (leading (streaming .onAir 101 [101] club)) = false
        ∧ (leading (streaming .onAir 101 [101] club)).ident.overdue = false
        ∧ (leading (streaming .onAir 101 [101] club)).playout.np = some 101
        ∧ (leading (streaming .onAir 101 [101] club)).playout.trimRun = 0
        ∧ (leading (streaming .onAir 101 [101] club)).playout.frames.find? (fun x => x.seq == 101)
            = some ⟨101, .voice []⟩) := by decide +kernel

/-! #### Orders on members and seats -/

/-- Seat 3, a member's, and seat 0, the trustee's, with an order; the same while CONFIGURING. -/
def configuring (s : State) : State := { s with mode := .configuring }
def fromMember (kind : Nat) (body : List Byte) : State := withOrder 3 kind body club
def fromTrustee (kind : Nat) (body : List Byte) : State := withOrder 0 kind body club

theorem test_met_OrdersAreTurnedAway :
    ((Instr.memberWrite, 5) ∈ [(Instr.memberWrite, 5), (.memberRemove, 6)]
        ∧ OrderReady 5 3 [] (fromMember 5 []) ∧ (fromMember 5 []).mode = .serving
        ∧ attachedMember (fromMember 5 []) 3 ≠ some 0)
      ∧ (OrderReady 0 3 [] (fromMember 0 []) ∧ OrderReady 19 3 [] (fromMember 19 []) ∧ 18 < 19)
      ∧ (orderTake .attach = true ∧ Settled club ∧ club.handovers = [])
      ∧ (orderTake .attach = true ∧ Settled (fromMember 2 [])
          ∧ orderCommand (orderKind (fromMember 2 []) 3) ≠ .attach) :=
  ⟨⟨by decide, ready (by decide +kernel), by decide +kernel⟩,
    ⟨ready (by decide +kernel), ready (by decide +kernel), by decide⟩,
    ⟨rfl, settled_of (by decide +kernel), rfl⟩,
    ⟨rfl, settled_of (by decide +kernel), by decide +kernel⟩⟩

/-- An ATTACH from seat 8: a free member; numbers 48 and 47; a suspended one; one attached elsewhere; and wrong
codes at the third miss and the fourth. -/
def attachFrom8 (m : Nat) : State := withOrder 8 1 (byteOf m :: code) club
def suspended17 : State :=
  { attachFrom8 17 with
    members := club.members.set 17 (some { someMember 3 1500 60 0 false none with state := .suspended }) }
theorem test_met_AttachChecksAndTakesTheSeat :
    (OrderReady 1 8 [] (attachFrom8 22) ∧ attachedMember (attachFrom8 22) 8 = none
        ∧ memberNo (bodyByte (attachFrom8 22) 8 4) = some 22
        ∧ (attachFrom8 22).members[(22 : MemberNo)] = some (someMember 3 1500 60 0 false none)
        ∧ cellBytes (attachFrom8 22) (.order 8) 5 8 = code)
      ∧ (OrderReady 1 3 [] (fromMember 1 []) ∧ (attachedMember (fromMember 1 []) 3).isSome = true)
      ∧ (OrderReady 1 8 [] (attachFrom8 48) ∧ memberNo (bodyByte (attachFrom8 48) 8 4) = none)
      ∧ (OrderReady 1 8 [] (attachFrom8 47) ∧ memberNo (bodyByte (attachFrom8 47) 8 4) = some 47
        ∧ (attachFrom8 47).members[(47 : MemberNo)] = none)
      ∧ (OrderReady 1 8 [] suspended17 ∧ attachedMember suspended17 8 = none
        ∧ (memberOf suspended17 17).state = .suspended)
      ∧ (OrderReady 1 8 [] (attachFrom8 17)
        ∧ (attachFrom8 17).members[(17 : MemberNo)] = some (someMember 3 1500 60 2412345 false (some 3)))
      ∧ (OrderReady 1 8 [] (wrongCode 2) ∧ cellBytes (wrongCode 2) (.order 8) 5 8 ≠ code
        ∧ (memberOf (wrongCode 2) 17).misses < 3)
      ∧ (OrderReady 1 8 [] (wrongCode 3) ∧ SeatLaw (wrongCode 3) ∧ FloorLaw (wrongCode 3)
        ∧ 3 ≤ (memberOf (wrongCode 3) 17).misses) :=
  ⟨⟨ready (by decide +kernel), by decide +kernel⟩, ⟨ready (by decide +kernel), by decide +kernel⟩,
    ⟨ready (by decide +kernel), by decide +kernel⟩, ⟨ready (by decide +kernel), by decide +kernel⟩,
    ⟨ready (by decide +kernel), by decide +kernel⟩, ⟨ready (by decide +kernel), by decide +kernel⟩,
    ⟨ready (by decide +kernel), by decide +kernel⟩,
    ⟨ready (by decide +kernel), seatLaw_of (by decide +kernel), floorLaw_of (by decide +kernel),
      by decide +kernel⟩⟩

theorem test_met_SeatIsDetached :
    (FloorLaw (fromMember 2 []) ∧ OrderReady 2 3 [] (fromMember 2 []) ∧ Running (fromMember 2 [])
        ∧ attachedMember (fromMember 2 []) 3 = some 17)
      ∧ (FloorLaw (withOrder 8 2 [] onAir) ∧ OrderReady 2 8 [] (withOrder 8 2 [] onAir)
        ∧ attachedMember (withOrder 8 2 [] onAir) 8 = none)
      ∧ (FloorLaw { club with stamp := 530000 } ∧ Running { club with stamp := 530000 }
        ∧ ({ club with stamp := 530000 } : State).seats[(3 : SeatNo)].attachment
            = some ⟨17, ({ club with stamp := 530000 } : State).stamp⟩)
      ∧ (Settled club ∧ FloorLaw club
        ∧ ∀ a ∈ club.seats[(3 : SeatNo)].attachment, a.deadline ≠ club.stamp) :=
  ⟨⟨floorLaw_of (by decide +kernel), ready (by decide +kernel), by decide +kernel⟩,
    ⟨floorLaw_of (by decide +kernel), ready (by decide +kernel), by decide +kernel⟩,
    ⟨floorLaw_of (by decide +kernel), by decide +kernel⟩,
    ⟨settled_of (by decide +kernel), floorLaw_of (by decide +kernel), by decide +kernel⟩⟩

theorem test_met_PresenceKeepsASeatAttached :
    (OrderReady 3 3 [] (fromMember 3 []) ∧ (attachedMember (fromMember 3 []) 3).isSome = true)
      ∧ (OrderReady 3 8 [] (withOrder 8 3 [] club) ∧ attachedMember (withOrder 8 3 [] club) 8 = none) :=
  ⟨⟨ready (by decide +kernel), by decide +kernel⟩, ⟨ready (by decide +kernel), by decide +kernel⟩⟩

/-- A new code for member 48, for another's, for an absent one, of zeros, and for the own member. -/
theorem test_met_ChangeCodeStoresACode :
    (OrderReady 4 3 [] (fromMember 4 [48]) ∧ memberNo (bodyByte (fromMember 4 [48]) 3 4) = none)
      ∧ (OrderReady 4 3 [] (fromMember 4 (9 :: code))
        ∧ memberNo (bodyByte (fromMember 4 (9 :: code)) 3 4) = some 9
        ∧ attachedMember (fromMember 4 (9 :: code)) 3 ≠ some 9
        ∧ hasAuthority (fromMember 4 (9 :: code)) 3 = false)
      ∧ (OrderReady 4 0 [] (fromTrustee 4 (47 :: code)) ∧ hasAuthority (fromTrustee 4 (47 :: code)) 0 = true
        ∧ (fromTrustee 4 (47 :: code)).members[(47 : MemberNo)] = none)
      ∧ (OrderReady 4 3 [] (fromMember 4 [17]) ∧ attachedMember (fromMember 4 [17]) 3 = some 17
        ∧ (fromMember 4 [17]).members[(17 : MemberNo)].isSome = true
        ∧ ∀ b ∈ cellBytes (fromMember 4 [17]) (.order 3) 5 8, b = 0)
      ∧ (OrderReady 4 3 [] (fromMember 4 (17 :: code))
        ∧ ∃ b ∈ cellBytes (fromMember 4 (17 :: code)) (.order 3) 5 8, b ≠ 0) :=
  ⟨⟨ready (by decide +kernel), by decide +kernel⟩, ⟨ready (by decide +kernel), by decide +kernel⟩,
    ⟨ready (by decide +kernel), by decide +kernel⟩, ⟨ready (by decide +kernel), by decide +kernel⟩,
    ⟨ready (by decide +kernel), by decide +kernel⟩⟩

/-- MEMBER_WRITE of a suspension with ceiling 1501 and allowance 1441 and the code kept; of a new member 47, with
a code and without. -/
def memberBody (m : Nat) (state : Byte) (ceiling allowance : Nat) (c : List Byte) : List Byte :=
  [byteOf m, state, 4, 1] ++ le16 ceiling ++ le16 allowance ++ [3] ++ padTo 10 [0x51, 0x58, 0x35] ++ c
def suspending : State := fromTrustee 5 (memberBody 17 2 1501 1441 (List.replicate 8 0))
def newMember : State := fromTrustee 5 (memberBody 47 1 0 1440 code)
def noCode : State := fromTrustee 5 (memberBody 47 1 0 1440 (List.replicate 8 0))
theorem test_met_MemberRecordsAreWrittenAndRemoved :
    (SeatLaw suspending ∧ FloorLaw suspending ∧ hasAuthority suspending 0 = true
        ∧ memberNo (bodyByte suspending 0 4) = some 17 ∧ OrderReady 5 0 [] suspending
        ∧ parseMember suspending 0 = some
            ⟨.suspended, 4, true, 1501, 1441, [0x51, 0x58, 0x35], List.replicate 8 0⟩
        ∧ suspending.members[(17 : MemberNo)].isSome = true
        ∧ (memberOf suspending 17).attached = some 3)
      ∧ (SeatLaw newMember ∧ OrderReady 5 0 [] newMember
        ∧ parseMember newMember 0 = some ⟨.active, 4, true, 0, 1440, [0x51, 0x58, 0x35], code⟩
        ∧ zeroCode code = false)
      ∧ (OrderReady 6 0 [] (fromTrustee 6 [17]) ∧ SeatLaw (fromTrustee 6 [17])
        ∧ FloorLaw (fromTrustee 6 [17]) ∧ (memberOf (fromTrustee 6 [17]) 17).attached = some 3
        ∧ memberNo (bodyByte (fromTrustee 6 [17]) 0 4) = some 17
        ∧ (fromTrustee 6 [17]).members[(17 : MemberNo)].isSome = true)
      ∧ (OrderReady 6 0 [] (fromTrustee 6 [47]) ∧ SeatLaw (fromTrustee 6 [47])
        ∧ (fromTrustee 6 [47]).members[(47 : MemberNo)] = none)
      ∧ (OrderReady 6 0 [] (fromTrustee 6 [0]) ∧ SeatLaw (fromTrustee 6 [0])
        ∧ (fromTrustee 6 [0]).members[(0 : MemberNo)].isSome = true ∧ (fromTrustee 6 [0]).mode = .serving)
      ∧ (OrderReady 5 0 [] (fromTrustee 5 [48]) ∧ OrderReady 6 0 [] (fromTrustee 6 [48])
        ∧ hasAuthority (fromTrustee 5 [48]) 0 = true ∧ 47 < (bodyByte (fromTrustee 5 [48]) 0 4).toNat
        ∧ 47 < (bodyByte (fromTrustee 6 [48]) 0 4).toNat)
      ∧ (OrderReady 5 0 [] (fromTrustee 5 [17]) ∧ SeatLaw (fromTrustee 5 [17])
        ∧ memberNo (bodyByte (fromTrustee 5 [17]) 0 4) = some 17
        ∧ parseMember (fromTrustee 5 [17]) 0 = none)
      ∧ (OrderReady 5 0 [] noCode ∧ SeatLaw noCode ∧ memberNo (bodyByte noCode 0 4) = some 47
        ∧ parseMember noCode 0
            = some ⟨.active, 4, true, 0, 1440, [0x51, 0x58, 0x35], List.replicate 8 0⟩
        ∧ zeroCode (List.replicate 8 0) = true ∧ noCode.members[(47 : MemberNo)] = none) :=
  ⟨⟨seatLaw_of (by decide +kernel), floorLaw_of (by decide +kernel), by decide +kernel,
      by decide +kernel, ready (by decide +kernel),
      by decide +kernel⟩,
    ⟨seatLaw_of (by decide +kernel), ready (by decide +kernel), by decide +kernel⟩,
    ⟨ready (by decide +kernel), seatLaw_of (by decide +kernel), floorLaw_of (by decide +kernel),
      by decide +kernel⟩,
    ⟨ready (by decide +kernel), seatLaw_of (by decide +kernel), by decide +kernel⟩,
    ⟨ready (by decide +kernel), seatLaw_of (by decide +kernel), by decide +kernel⟩,
    ⟨ready (by decide +kernel), ready (by decide +kernel), by decide +kernel⟩,
    ⟨ready (by decide +kernel), seatLaw_of (by decide +kernel), by decide +kernel⟩,
    ⟨ready (by decide +kernel), seatLaw_of (by decide +kernel), by decide +kernel⟩⟩

theorem test_met_DayRollStartsANewDay :
    (OrderReady 7 0 [] (fromTrustee 7 []) ∧ hasAuthority (fromTrustee 7 []) 0 = true)
      ∧ (OrderReady 7 3 [] (fromMember 7 []) ∧ hasAuthority (fromMember 7 []) 3 = false) :=
  ⟨⟨ready (by decide +kernel), by decide +kernel⟩, ⟨ready (by decide +kernel), by decide +kernel⟩⟩

/-! #### Orders on the band plan and the station -/

/-- BAND_WRITE of a slot: 32, and 31 in a busy floor, with bad fields, over slot 7, and beside it with a
ceiling of 1501. -/
def bandBody (slot : Nat) (grade : Byte) (low high ceiling : Nat) : List Byte :=
  [byteOf slot, grade, 0x3F, 8, 1] ++ le32 low ++ le32 high ++ le16 ceiling
def bandOrder (slot : Nat) (grade : Byte) (low high : Nat) : State :=
  fromTrustee 8 (bandBody slot grade low high 1501)
theorem test_met_BandWriteFillsASlot :
    (OrderReady 8 0 [] (bandOrder 32 4 14350000 14350001)
        ∧ hasAuthority (bandOrder 32 4 14350000 14350001) 0 = true
        ∧ slotNo (bodyByte (bandOrder 32 4 14350000 14350001) 0 4) = none)
      ∧ (OrderReady 8 0 [] (bandOrder 31 4 14350000 14350001)
        ∧ slotNo (bodyByte (bandOrder 31 4 14350000 14350001) 0 4) = some 31
        ∧ parseBand (bandOrder 31 4 14350000 14350001) 0 = ⟨4, 0x3F, 8, 1, 14350000, 14350001, 1501⟩
        ∧ (bandOrder 31 4 14350000 14350001).floor.state = .idle)
      ∧ (OrderReady 8 0 [] (bandOrder 31 5 14350000 14350001)
        ∧ ¬ (parseBand (bandOrder 31 5 14350000 14350001) 0).minGrade ≤ 4)
      ∧ (OrderReady 8 0 [] (bandOrder 31 1 14349999 14350001)
        ∧ ∃ j : SlotNo, j ≠ 31 ∧ ((bandOrder 31 1 14349999 14350001).plan[j].any fun g =>
            decide (g.low < 14350001) && decide (14349999 < g.high)) = true)
      ∧ OrderReady 8 0 [] (withOrder 0 8 (bandBody 31 1 14350000 14350001 0) onAir) :=
  ⟨⟨ready (by decide +kernel), by decide +kernel⟩, ⟨ready (by decide +kernel), by decide +kernel⟩,
    ⟨ready (by decide +kernel), by decide +kernel⟩,
    ⟨ready (by decide +kernel), 7, by decide +kernel⟩, ready (by decide +kernel)⟩

/-- BAND_REMOVE without authority, of slot 32, in a busy floor, of the empty slot 31, of slot 7, and of the
last segment. -/
def oneSegment : State :=
  withOrder 0 9 [7] { club with plan := State.reset.plan.set 7 (some ⟨14225000, 14350000, 2, 22, 400, 2, false⟩) }
theorem test_met_BandRemoveEmptiesASlot :
    (OrderReady 9 3 [] (fromMember 9 [7]) ∧ hasAuthority (fromMember 9 [7]) 3 = false)
      ∧ (OrderReady 9 0 [] (fromTrustee 9 [32]) ∧ hasAuthority (fromTrustee 9 [32]) 0 = true
        ∧ slotNo (bodyByte (fromTrustee 9 [32]) 0 4) = none)
      ∧ (OrderReady 9 0 [] (fromTrustee 9 [31]) ∧ slotNo (bodyByte (fromTrustee 9 [31]) 0 4) = some 31
        ∧ (fromTrustee 9 [31]).plan[(31 : SlotNo)] = none)
      ∧ (OrderReady 9 0 [] (withOrder 0 9 [7] onAir) ∧ hasAuthority (withOrder 0 9 [7] onAir) 0 = true)
      ∧ (OrderReady 9 0 [] oneSegment ∧ hasAuthority oneSegment 0 = true
        ∧ slotNo (bodyByte oneSegment 0 4) = some 7 ∧ oneSegment.plan[(7 : SlotNo)] ≠ none
        ∧ ∀ j : SlotNo, j ≠ 7 → oneSegment.plan[j] = none) :=
  ⟨⟨ready (by decide +kernel), by decide +kernel⟩, ⟨ready (by decide +kernel), by decide +kernel⟩,
    ⟨ready (by decide +kernel), by decide +kernel⟩, ⟨ready (by decide +kernel), by decide +kernel⟩,
    ⟨ready (by decide +kernel), by decide +kernel⟩⟩

/-- CHECK from a VACANT seat, with no frequency, out of the plan, short of headroom and with a grant. -/
def checking (q : Request) (heat : Nat) : State :=
  withOrder 3 10 (requestBody q 0) { club with duty := ⟨heat, 0, 0, 1000⟩ }
theorem test_met_CheckReadsTheTables :
    (OrderReady 10 8 [] (withOrder 8 10 [] club) ∧ attachedMember (withOrder 8 10 [] club) 8 = none)
      ∧ (OrderReady 10 3 [] (checking ⟨0, .usb, 0⟩ 0) ∧ attachedMember (checking ⟨0, .usb, 0⟩ 0) 3 = some 17
        ∧ parseRequest (checking ⟨0, .usb, 0⟩ 0) 3 = none)
      ∧ (OrderReady 10 3 [] (checking ⟨1, .usb, 0⟩ 0)
        ∧ parseRequest (checking ⟨1, .usb, 0⟩ 0) 3 = some ⟨1, .usb, 0⟩
        ∧ computeGrant (grantInputs (checking ⟨1, .usb, 0⟩ 0) 17) ⟨1, .usb, 0⟩ = .refusal .outOfPlan)
      ∧ (OrderReady 10 3 [] (checking voice 359000) ∧ parseRequest (checking voice 359000) 3 = some voice
        ∧ computeGrant (grantInputs (checking voice 359000) 17) voice = .short voiceFigures 6)
      ∧ (OrderReady 10 3 [] (checking voice 318000)
        ∧ computeGrant (grantInputs (checking voice 318000) 17) voice
          = .grant voiceFigures (some 280) voiceGrant) :=
  ⟨⟨ready (by decide +kernel), by decide +kernel⟩, ⟨ready (by decide +kernel), by decide +kernel⟩,
    ⟨ready (by decide +kernel), by decide +kernel⟩, ⟨ready (by decide +kernel), by decide +kernel⟩,
    ⟨ready (by decide +kernel), by decide +kernel⟩⟩

/-- A grant with the amplifier and a Preq, and a tune-up. -/
theorem test_met_GrantStaysWithinItsLimits :
    computeGrant (inputs17 359000) ⟨14223800, .usb, 200⟩
        = .grant { voiceFigures with power := 200 } none { voiceGrant with power := 200 }
      ∧ (inputs17 359000).q ≤ (inputs17 359000).station.qmax
      ∧ computeGrant (grantInputs tuneClub 17) tuneUp
          = .grant ⟨7, 2, 400, 20, false, 1188⟩ none tuneGrant := by decide +kernel

def faulted (s : State) : State := { s with pins := { s.pins with ampFault := true } }
theorem test_met_AmpRestoreReturnsTheAmplifier :
    (OrderReady 15 3 [] (fromMember 15 []) ∧ hasAuthority (fromMember 15 []) 3 = false)
      ∧ (OrderReady 15 0 [] (faulted (fromTrustee 15 [])) ∧ hasAuthority (faulted (fromTrustee 15 [])) 0 = true
        ∧ (faulted (fromTrustee 15 [])).pins.ampFault = true)
      ∧ (OrderReady 15 0 [] (fromTrustee 15 []) ∧ (fromTrustee 15 []).pins.ampFault = false) :=
  ⟨⟨ready (by decide +kernel), by decide +kernel⟩, ⟨ready (by decide +kernel), by decide +kernel⟩,
    ⟨ready (by decide +kernel), by decide +kernel⟩⟩

/-- STATION_WRITE in a busy floor, with no callsign, and the worked write of 11.3. -/
def stationOrder : State := fromTrustee 16 (stationImage clampedWrite)
theorem test_met_StationWriteReplacesTheRecord :
    (OrderReady 16 0 [] (withOrder 0 16 [] onAir) ∧ hasAuthority (withOrder 0 16 [] onAir) 0 = true
        ∧ (withOrder 0 16 [] onAir).mode = .serving ∧ stationFree (withOrder 0 16 [] onAir) = false)
      ∧ (OrderReady 16 0 [] (fromTrustee 16 []) ∧ stationFree (fromTrustee 16 []) = true
        ∧ parseStation (fromTrustee 16 []) 0 = none)
      ∧ (OrderReady 16 0 [] stationOrder ∧ stationFree stationOrder = true
        ∧ parseStation stationOrder 0 = some clampedWrite)
      ∧ (OrderReady 16 0 [] (configuring stationOrder) ∧ hasAuthority (configuring stationOrder) 0 = true
        ∧ (configuring stationOrder).mode = .configuring) :=
  ⟨⟨ready (by decide +kernel), by decide +kernel⟩, ⟨ready (by decide +kernel), by decide +kernel⟩,
    ⟨ready (by decide +kernel), by decide +kernel⟩, ⟨ready (by decide +kernel), by decide +kernel⟩⟩

theorem test_met_ServiceBeginsAndEnds :
    (OrderReady 17 0 [] (configuring (fromTrustee 17 [])) ∧ (configuring (fromTrustee 17 [])).mode = .configuring
        ∧ hasAuthority (configuring (fromTrustee 17 [])) 0 = true
        ∧ (configuring (fromTrustee 17 [])).members[(0 : MemberNo)].isSome = true
        ∧ (configuring (fromTrustee 17 [])).station.callsign ≠ []
        ∧ ∃ i : SlotNo, (configuring (fromTrustee 17 [])).plan[i].isSome = true)
      ∧ (OrderReady 17 0 [] (fromTrustee 17 []) ∧ hasAuthority (fromTrustee 17 []) 0 = true
        ∧ (fromTrustee 17 []).mode = .serving)
      ∧ (OrderReady 17 0 [] (withOrder 0 17 [] State.reset)
        ∧ hasAuthority (withOrder 0 17 [] State.reset) 0 = true
        ∧ (withOrder 0 17 [] State.reset).mode = .configuring
        ∧ (withOrder 0 17 [] State.reset).members[(0 : MemberNo)] = none)
      ∧ (OrderReady 18 0 [] (configuring (fromTrustee 18 []))
        ∧ (configuring (fromTrustee 18 [])).mode = .configuring)
      ∧ (OrderReady 18 0 [] (withOrder 0 18 [] onAir) ∧ (withOrder 0 18 [] onAir).mode = .serving
        ∧ stationFree (withOrder 0 18 [] onAir) = false)
      ∧ (OrderReady 18 0 [] (fromTrustee 18 []) ∧ stationFree (fromTrustee 18 []) = true
        ∧ (fromTrustee 18 []).ident.window = false ∧ IdentLaw (fromTrustee 18 [])
        ∧ FloorLaw (fromTrustee 18 [])
        ∧ attachedMember (fromTrustee 18 []) 3 = some 17 ∧ (3 : SeatNo) ≠ 0) :=
  ⟨⟨ready (by decide +kernel), by decide +kernel, by decide +kernel, by decide +kernel,
      by decide +kernel, 7, by decide +kernel⟩,
    ⟨ready (by decide +kernel), by decide +kernel⟩, ⟨ready (by decide +kernel), by decide +kernel⟩,
    ⟨ready (by decide +kernel), by decide +kernel⟩, ⟨ready (by decide +kernel), by decide +kernel⟩,
    ⟨ready (by decide +kernel), by decide +kernel, by decide +kernel, identLaw_of (by decide +kernel),
      floorLaw_of (by decide +kernel), by decide +kernel⟩⟩

/-! #### Floor orders -/

/-- A REQUEST into a queue: behind a resting head that is short, granted or refused, and in IDLE under
TX_INHIBIT, each with and without the priority flag; CONFIGURING, from a VACANT seat, in SHUT, with flag 2, with a flag and no right,
twice, and out of the plan. -/
def inState (st : FloorState) (s : State) : State := { s with floor := { s.floor with state := st } }
def elsewhere (q : Request) (flag : Byte) : State :=
  withOrder 3 11 (requestBody q flag) (held 6 9 .granted { voiceGrant with mode := .data } club)
def besideHead (flag : Byte) (head : Request) (q : Nat) : State :=
  withOrder 1 11 (requestBody entry1.req flag)
    { resting q with queue := [{ entry3 with req := head }, entry6] }
def joiningInhibited (flag : Byte) : State :=
  withOrder 1 11 (requestBody entry1.req flag)
    { club with pins := { club.pins with txInhibit := true }, queue := [entry6] }
def alreadyIn : State := { elsewhere voice 0 with queue := [entry3] }
theorem test_met_RequestJoinsOrIsRefused :
    (∀ flag ∈ [(0 : Byte), 1], OrderReady 11 1 [] (joining flag))
      ∧ (∀ flag ∈ [(0 : Byte), 1], (joining flag).mode = .serving
        ∧ attachedMember (joining flag) 1 = some 4 ∧ (joining flag).floor.state = .granted
        ∧ parseRequest (joining flag) 1 = some ⟨14030000, .cw, 200⟩
        ∧ bodyByte (joining flag) 1 11 = flag ∧ (memberOf (joining flag) 4).priority = true
        ∧ queued (joining flag) 1 = false ∧ holderSeat (joining flag) ≠ some 1
        ∧ (admission (grantInputs (joining flag) 4) ⟨14030000, .cw, 200⟩).toOption
            = some ⟨2, 2, 1000, 200, true, 3600⟩)
      ∧ (∀ flag ∈ [(0 : Byte), 1], OrderReady 11 1 [] (joiningInhibited flag))
      ∧ (∀ flag ∈ [(0 : Byte), 1], (joiningInhibited flag).floor.state = .idle
        ∧ (joiningInhibited flag).pins.txInhibit = true ∧ queued (joiningInhibited flag) 1 = false)
      ∧ (∀ flag ∈ [(0 : Byte), 1], OrderReady 11 1 [] (besideHead flag voice 359000))
      ∧ (∀ flag ∈ [(0 : Byte), 1],
        (besideHead flag voice 359000).pins.txInhibit = false
        ∧ (besideHead flag voice 359000).ident.pending = false
        ∧ (besideHead flag voice 359000).floor.state = .resting
        ∧ (besideHead flag voice 359000).floor.holder = none
        ∧ (besideHead flag voice 359000).queue = entry3 :: [entry6]
        ∧ parseRequest (besideHead flag voice 359000) 1 = some ⟨14030000, .cw, 200⟩
        ∧ bodyByte (besideHead flag voice 359000) 1 11 = flag
        ∧ queued (besideHead flag voice 359000) 1 = false
        ∧ (admission (grantInputs (besideHead flag voice 359000) 4) ⟨14030000, .cw, 200⟩).toOption
            = some ⟨2, 2, 1000, 200, true, 3600⟩
        ∧ computeGrant (grantInputs (besideHead flag voice 359000) 17) voice = .short voiceFigures 6
        ∧ computeGrant (grantInputs (besideHead flag voice 318000) 17) voice
            = .grant voiceFigures (some 280) voiceGrant
        ∧ ¬ TuneFaults (besideHead flag voice 318000) voiceGrant
        ∧ computeGrant (grantInputs (besideHead flag ⟨1, .usb, 0⟩ 0) 17) ⟨1, .usb, 0⟩
            = .refusal .outOfPlan)
      ∧ FloorLaw (besideHead 1 ⟨1, .usb, 0⟩ 0)
      ∧ (OrderReady 11 3 [] (configuring asking) ∧ (configuring asking).mode = .configuring)
      ∧ (OrderReady 11 8 [] (withOrder 8 11 [] club) ∧ attachedMember (withOrder 8 11 [] club) 8 = none)
      ∧ (OrderReady 11 3 [] (inState .shut asking) ∧ attachedMember (inState .shut asking) 3 = some 17
        ∧ (inState .shut asking).floor.state = .shut)
      ∧ (OrderReady 11 3 [] (elsewhere voice 2) ∧ (elsewhere voice 2).floor.state ≠ .shut
        ∧ 1 < (bodyByte (elsewhere voice 2) 3 11).toNat)
      ∧ (OrderReady 11 3 [] (elsewhere voice 1) ∧ parseRequest (elsewhere voice 1) 3 = some voice
        ∧ bodyByte (elsewhere voice 1) 3 11 = 1 ∧ (memberOf (elsewhere voice 1) 17).priority = false)
      ∧ (OrderReady 11 3 [] alreadyIn ∧ parseRequest alreadyIn 3 = some voice
        ∧ bodyByte alreadyIn 3 11 = 0 ∧ queued alreadyIn 3 = true)
      ∧ (OrderReady 11 3 [] (elsewhere ⟨1, .usb, 0⟩ 0)
        ∧ parseRequest (elsewhere ⟨1, .usb, 0⟩ 0) 3 = some ⟨1, .usb, 0⟩
        ∧ bodyByte (elsewhere ⟨1, .usb, 0⟩ 0) 3 11 = 0 ∧ queued (elsewhere ⟨1, .usb, 0⟩ 0) 3 = false
        ∧ holderSeat (elsewhere ⟨1, .usb, 0⟩ 0) ≠ some 3
        ∧ admission (grantInputs (elsewhere ⟨1, .usb, 0⟩ 0) 17) ⟨1, .usb, 0⟩ = .error .outOfPlan) :=
  ⟨by intro flag h; simp only [List.mem_cons, List.not_mem_nil, or_false] at h
      rcases h with rfl | rfl <;> exact ready (by decide +kernel),
    by decide +kernel,
    by intro flag h; simp only [List.mem_cons, List.not_mem_nil, or_false] at h
       rcases h with rfl | rfl <;> exact ready (by decide +kernel),
    by decide +kernel,
    by intro flag h; simp only [List.mem_cons, List.not_mem_nil, or_false] at h
       rcases h with rfl | rfl <;> exact ready (by decide +kernel),
    by decide +kernel, floorLaw_of (by decide +kernel), ⟨ready (by decide +kernel), by decide +kernel⟩,
    ⟨ready (by decide +kernel), by decide +kernel⟩, ⟨ready (by decide +kernel), by decide +kernel⟩,
    ⟨ready (by decide +kernel), by decide +kernel⟩, ⟨ready (by decide +kernel), by decide +kernel⟩,
    ⟨ready (by decide +kernel), by decide +kernel⟩, ⟨ready (by decide +kernel), by decide +kernel, by decide +kernel,
      by decide +kernel, by decide +kernel, rfl⟩⟩

def hot (q : Nat) (s : State) : State := { s with duty := ⟨q, 0, 0, 1000⟩ }
/-- Seat 1's request, with the priority right, at 1000 W and at 200 W, and the grant of the latter. -/
def fast : Request := ⟨14030000, .cw, 0⟩
def grant1 : Grant := ⟨14030000, .cw, 200, true, 2, 180, .keyLimit⟩
def askingFirst (q : Request) : State := withOrder 1 11 (requestBody q 1) club
theorem test_met_RequestIsServedFromIdle :
    (OrderReady 11 3 [] asking ∧ asking.mode = .serving ∧ asking.pins.txInhibit = false
        ∧ asking.ident.pending = false ∧ attachedMember asking 3 = some 17 ∧ asking.floor.state = .idle
        ∧ asking.floor.holder = none ∧ asking.queue = [] ∧ parseRequest asking 3 = some voice
        ∧ bodyByte asking 3 11 = 0
        ∧ computeGrant (grantInputs asking 17) voice = .grant voiceFigures (some 2266) voiceGrant
        ∧ ¬ TuneFaults asking voiceGrant ∧ ¬ AtSetting asking voiceGrant)
      ∧ (OrderReady 11 3 [] (believing voiceGrant .operate asking)
        ∧ computeGrant (grantInputs (believing voiceGrant .operate asking) 17) voice
            = .grant voiceFigures (some 2266) voiceGrant
        ∧ AtSetting (believing voiceGrant .operate asking) voiceGrant ∧ voiceGrant.mode ≠ .tune)
      ∧ (OrderReady 11 3 [] (askingTune .standby true true)
        ∧ parseRequest (askingTune .standby true true) 3 = some tuneUp
        ∧ computeGrant (grantInputs (askingTune .standby true true) 17) tuneUp
            = .grant ⟨7, 2, 400, 20, false, 1188⟩ none tuneGrant
        ∧ AtSetting (askingTune .standby true true) tuneGrant
        ∧ ¬ TuneFaults (askingTune .standby true true) tuneGrant
        ∧ (askingTune .standby true true).keying.state = .unkeyed
        ∧ (askingTune .standby true true).station.lead ≠ 0)
      ∧ (OrderReady 11 3 [] (askingTune .operate true false)
        ∧ parseRequest (askingTune .operate true false) 3 = some tuneUp
        ∧ computeGrant (grantInputs (askingTune .operate true false) 17) tuneUp
            = .grant ⟨7, 2, 400, 20, false, 1188⟩ none tuneGrant
        ∧ TuneFaults (askingTune .operate true false) tuneGrant
        ∧ (askingTune .operate true false).keying.state = .unkeyed)
      ∧ (OrderReady 11 3 [] (hot 359000 asking)
        ∧ computeGrant (grantInputs (hot 359000 asking) 17) voice = .short voiceFigures 6)
      ∧ (OrderReady 11 1 [] (askingFirst entry1.req)
        ∧ attachedMember (askingFirst entry1.req) 1 = some 4
        ∧ parseRequest (askingFirst entry1.req) 1 = some entry1.req
        ∧ bodyByte (askingFirst entry1.req) 1 11 = 1
        ∧ (memberOf (askingFirst entry1.req) 4).priority = true
        ∧ computeGrant (grantInputs (askingFirst entry1.req) 4) entry1.req
            = .grant ⟨2, 2, 1000, 200, true, 3600⟩ none grant1
        ∧ ¬ TuneFaults (askingFirst entry1.req) grant1)
      ∧ (OrderReady 11 1 [] (hot 359000 (askingFirst fast))
        ∧ parseRequest (hot 359000 (askingFirst fast)) 1 = some fast
        ∧ computeGrant (grantInputs (hot 359000 (askingFirst fast)) 4) fast
            = .short ⟨2, 2, 1000, 1000, true, 3600⟩ 1) :=
  ⟨⟨ready (by decide +kernel), by decide +kernel⟩, ⟨ready (by decide +kernel), by decide +kernel⟩,
    ⟨ready (by decide +kernel), by decide +kernel⟩, ⟨ready (by decide +kernel), by decide +kernel⟩,
    ⟨ready (by decide +kernel), by decide +kernel⟩, ⟨ready (by decide +kernel), by decide +kernel⟩,
    ⟨ready (by decide +kernel), by decide +kernel⟩⟩

/-- A re-key with the same fields, with other fields, and out of the plan; with seats waiting below the turn
limit; a tune-up again; a tune-up, again and anew, with a fault standing; short of headroom, alone and with
seats waiting; and at the turn limit. A priority re-key that joins in front, where it is short, and behind a
priority entry, which is granted, below the turn limit and at it. -/
def rekey (q : Request) : State :=
  withOrder 3 11 (requestBody q 0)
    { held 3 17 .hang voiceGrant club with queue := [entry1, entry6] }
def tuneAgain : State :=
  withOrder 3 11 (requestBody tuneUp 0) (held 3 17 .hang tuneGrant tuneClub)
def tuneFaulted (old : Grant) : State := { askingTune .operate true false with
  floor := (held 3 17 .hang old club).floor }
def atLimit (q : Request) : State :=
  { rekey q with floor := { (rekey q).floor with turnCount := 2 } }
def first6 : Entry := { entry6 with priority := true }
def first1 : Entry := { entry1 with req := fast }
def grant6 : Grant := ⟨14226000, .data, 100, false, 2, 180, .keyLimit⟩
def rekeyFirst (count : Nat) (q : List Entry) : State :=
  let s := held 1 4 .hang grant1 club
  withOrder 1 11 (requestBody fast 1)
    (hot 359000 { s with floor := { s.floor with turnCount := count }, queue := q })
theorem joinsBehind_of {e : Entry} {q : List Entry} {i : Nat}
    (h : i ≤ q.length ∧ (e.priority = false → i = q.length)
      ∧ (e.priority = true → (∀ x ∈ q.drop i, x.priority = false)
        ∧ (i = 0 ∨ (q.take i).getLast?.any Entry.priority = true))) : JoinsBehind e q i :=
  ⟨h.1, h.2.1, h.2.2⟩
theorem test_met_RekeyTakesANewGrant :
    (OrderReady 11 3 [] (rekey voice) ∧ (rekey voice).mode = .serving ∧ (rekey voice).floor.state = .hang
        ∧ (rekey voice).floor.holder = some ⟨3, 17⟩ ∧ (rekey voice).floor.grant = some voiceGrant
        ∧ attachedMember (rekey voice) 3 = some 17 ∧ queued (rekey voice) 3 = false
        ∧ parseRequest (rekey voice) 3 = some voice ∧ bodyByte (rekey voice) 3 11 = 0
        ∧ (rekey voice).floor.turnCount < (rekey voice).station.turnLimit
        ∧ computeGrant (grantInputs (rekey voice) 17) voice
            = .grant voiceFigures (some 2266) voiceGrant ∧ voiceGrant.mode ≠ .tune
        ∧ ¬ TuneFaults (rekey voice) voiceGrant)
      ∧ (OrderReady 11 3 [] (rekey ⟨14223800, .usb, 50⟩)
        ∧ computeGrant (grantInputs (rekey ⟨14223800, .usb, 50⟩) 17) ⟨14223800, .usb, 50⟩
            = .grant { voiceFigures with power := 50, ampUsed := false } none
                { voiceGrant with power := 50, ampUsed := false }
        ∧ ¬ TuneFaults (rekey ⟨14223800, .usb, 50⟩) { voiceGrant with power := 50, ampUsed := false })
      ∧ (OrderReady 11 3 [] (rekey ⟨1, .usb, 0⟩)
        ∧ computeGrant (grantInputs (rekey ⟨1, .usb, 0⟩) 17) ⟨1, .usb, 0⟩ = .refusal .outOfPlan)
      ∧ (OrderReady 11 3 [] tuneAgain ∧ tuneAgain.mode = .serving ∧ tuneAgain.floor.state = .hang
        ∧ tuneAgain.floor.holder = some ⟨3, 17⟩ ∧ tuneAgain.floor.grant = some tuneGrant
        ∧ attachedMember tuneAgain 3 = some 17 ∧ queued tuneAgain 3 = false
        ∧ parseRequest tuneAgain 3 = some tuneUp ∧ bodyByte tuneAgain 3 11 = 0 ∧ tuneAgain.queue = []
        ∧ computeGrant (grantInputs tuneAgain 17) tuneUp = .grant ⟨7, 2, 400, 20, false, 1188⟩ none tuneGrant
        ∧ tuneAgain.pins.txInhibit = false ∧ tuneAgain.pins.ampFault = false
        ∧ tuneAgain.keying.state = .unkeyed ∧ tuneAgain.station.lead ≠ 0)
      ∧ (OrderReady 11 3 [] (tuneFaulted tuneGrant) ∧ OrderReady 11 3 [] (tuneFaulted voiceGrant))
      ∧ (∀ old ∈ [tuneGrant, voiceGrant],
        (tuneFaulted old).mode = .serving ∧ (tuneFaulted old).floor.state = .hang
        ∧ (tuneFaulted old).floor.holder = some ⟨3, 17⟩ ∧ (tuneFaulted old).floor.grant = some old
        ∧ attachedMember (tuneFaulted old) 3 = some 17 ∧ queued (tuneFaulted old) 3 = false
        ∧ parseRequest (tuneFaulted old) 3 = some tuneUp ∧ bodyByte (tuneFaulted old) 3 11 = 0
        ∧ computeGrant (grantInputs (tuneFaulted old) 17) tuneUp
            = .grant ⟨7, 2, 400, 20, false, 1188⟩ none tuneGrant
        ∧ AtSetting (tuneFaulted old) tuneGrant ∧ (tuneFaulted old).pins.ampFault = true
        ∧ (tuneFaulted old).bus.believed.amp = some .operate
        ∧ (tuneFaulted old).pins.txInhibit = false ∧ (tuneFaulted old).keying.state = .unkeyed)
      ∧ (OrderReady 11 3 [] (hot 359000 (rekey voice))
        ∧ computeGrant (grantInputs (hot 359000 (rekey voice)) 17) voice = .short voiceFigures 6
        ∧ (hot 359000 (rekey voice)).queue = entry1 :: [entry6]
        ∧ (hot 359000 (rekey voice)).pins.txInhibit = false
        ∧ (hot 359000 (rekey voice)).ident.pending = false
        ∧ computeGrant (grantInputs (hot 359000 (rekey voice)) 4) entry1.req
            = .grant ⟨2, 2, 1000, 200, true, 3600⟩ none grant1 ∧ grant1.mode ≠ .tune)
      ∧ (OrderReady 11 3 [] { hot 359000 (rekey voice) with queue := [] }
        ∧ computeGrant (grantInputs { hot 359000 (rekey voice) with queue := [] } 17) voice
            = .short voiceFigures 6)
      ∧ (OrderReady 11 3 [] (atLimit voice) ∧ (atLimit voice).queue = entry1 :: [entry6]
        ∧ (atLimit voice).station.turnLimit ≤ (atLimit voice).floor.turnCount
        ∧ computeGrant (grantInputs (atLimit voice) 4) entry1.req
            = .grant ⟨2, 2, 1000, 200, true, 3600⟩ none grant1
        ∧ (admission (grantInputs (atLimit voice) 17) voice).toOption = some voiceFigures)
      ∧ (OrderReady 11 3 [] (atLimit ⟨1, .usb, 0⟩)
        ∧ parseRequest (atLimit ⟨1, .usb, 0⟩) 3 = some ⟨1, .usb, 0⟩
        ∧ admission (grantInputs (atLimit ⟨1, .usb, 0⟩) 17) ⟨1, .usb, 0⟩ = .error .outOfPlan)
      ∧ (JoinsBehind entry3 [entry1, entry6] 2 ∧ JoinsBehind first1 [entry3, entry6] 0
        ∧ JoinsBehind first1 [first6, entry3] 1)
      ∧ (∀ q ∈ [[entry3, entry6], [first6, entry3]], ∀ count ∈ [1, 2],
        OrderReady 11 1 [] (rekeyFirst count q))
      ∧ (∀ q ∈ [[entry3, entry6], [first6, entry3]], ∀ count ∈ [1, 2],
        (rekeyFirst count q).mode = .serving ∧ (rekeyFirst count q).floor.state = .hang
          ∧ (rekeyFirst count q).floor.holder = some ⟨1, 4⟩
          ∧ (rekeyFirst count q).floor.grant = some grant1 ∧ (rekeyFirst count q).queue = q
          ∧ attachedMember (rekeyFirst count q) 1 = some 4 ∧ queued (rekeyFirst count q) 1 = false
          ∧ parseRequest (rekeyFirst count q) 1 = some fast ∧ bodyByte (rekeyFirst count q) 1 11 = 1
          ∧ (memberOf (rekeyFirst count q) 4).priority = true
          ∧ first1 = ⟨1, 4, fast, bodyByte (rekeyFirst count q) 1 11 == 1⟩
          ∧ (rekeyFirst count q).pins.txInhibit = false ∧ (rekeyFirst count q).ident.pending = false
          ∧ (rekeyFirst 1 q).floor.turnCount < (rekeyFirst 1 q).station.turnLimit
          ∧ (rekeyFirst 2 q).station.turnLimit ≤ (rekeyFirst 2 q).floor.turnCount
          ∧ computeGrant (grantInputs (rekeyFirst count q) 4) fast
              = .short ⟨2, 2, 1000, 1000, true, 3600⟩ 1
          ∧ computeGrant (grantInputs (rekeyFirst count q) 9) first6.req
              = .grant ⟨7, 2, 400, 100, false, 1800⟩ none grant6 ∧ grant6.mode ≠ .tune)
      ∧ (OrderReady 11 3 [] (hot 359000 (atLimit voice))
        ∧ computeGrant (grantInputs (hot 359000 { atLimit voice with queue := [{ entry1 with req := fast }] })
            4) fast = .short ⟨2, 2, 1000, 1000, true, 3600⟩ 1) :=
  ⟨⟨ready (by decide +kernel), by decide +kernel⟩, ⟨ready (by decide +kernel), by decide +kernel⟩,
    ⟨ready (by decide +kernel), by decide +kernel⟩, ⟨ready (by decide +kernel), by decide +kernel⟩,
    ⟨ready (by decide +kernel), ready (by decide +kernel)⟩, by decide +kernel,
    ⟨ready (by decide +kernel), by decide +kernel⟩, ⟨ready (by decide +kernel), by decide +kernel⟩,
    ⟨ready (by decide +kernel), by decide +kernel⟩, ⟨ready (by decide +kernel), by decide +kernel, rfl⟩,
    ⟨joinsBehind_of (by decide), joinsBehind_of (by decide), joinsBehind_of (by decide)⟩,
    by intro q h count h'; simp only [List.mem_cons, List.not_mem_nil, or_false] at h h'
       rcases h with rfl | rfl <;> rcases h' with rfl | rfl <;> exact ready (by decide +kernel),
    by decide +kernel, ⟨ready (by decide +kernel), by decide +kernel⟩⟩

/-- WITHDRAW from no entry; from the middle of a queue; in IDLE under TX_INHIBIT and while CONFIGURING; from a
resting floor alone, with one behind, and behind a head that is short and one that is granted. -/
def waiting : State :=
  withOrder 6 12 [] { held 3 17 .granted voiceGrant club with queue := [entry1, entry6] }
def restingAlone : State := withOrder 3 12 [] { resting 358750 with queue := [entry3] }
def restingTwo : State := withOrder 3 12 [] (resting 358750)
def restingBehind (q : Nat) : State := withOrder 1 12 [] (resting q)
def idleEntry (inhibit : Bool) (mode : ServiceMode) : State :=
  withOrder 6 12 [] { club with
    pins := { club.pins with txInhibit := inhibit }, mode := mode, queue := [entry1, entry6] }
theorem test_met_WithdrawRemovesTheEntry :
    (OrderReady 12 3 [] (fromMember 12 []) ∧ FloorLaw (fromMember 12 [])
        ∧ queued (fromMember 12 []) 3 = false)
      ∧ (OrderReady 12 6 [] waiting ∧ FloorLaw waiting ∧ waiting.queue = [entry1] ++ entry6 :: []
        ∧ entry6.seat = 6 ∧ waiting.floor.state ≠ .idle ∧ waiting.floor.state ≠ .resting)
      ∧ (OrderReady 12 3 [] restingAlone ∧ FloorLaw restingAlone
        ∧ restingAlone.queue = [] ++ entry3 :: [] ∧ restingAlone.floor.state = .resting
        ∧ restingAlone.ident.pending = false)
      ∧ (OrderReady 12 3 [] restingTwo ∧ FloorLaw restingTwo
        ∧ restingTwo.queue = [] ++ entry3 :: entry1 :: [] ∧ restingTwo.mode = .serving
        ∧ restingTwo.pins.txInhibit = false
        ∧ computeGrant (grantInputs restingTwo 4) entry1.req
            = .grant ⟨2, 2, 1000, 200, true, 3600⟩ none grant1
        ∧ ¬ TuneFaults restingTwo grant1)
      ∧ (OrderReady 12 6 [] (idleEntry true .serving) ∧ FloorLaw (idleEntry true .serving)
        ∧ (idleEntry true .serving).queue = [entry1] ++ entry6 :: []
        ∧ (idleEntry true .serving).floor.state = .idle
        ∧ (idleEntry true .serving).pins.txInhibit = true
        ∧ (idleEntry true .serving).floor.state ≠ .resting)
      ∧ (OrderReady 12 6 [] (idleEntry false .configuring) ∧ FloorLaw (idleEntry false .configuring)
        ∧ (idleEntry false .configuring).mode = .configuring)
      ∧ (OrderReady 12 1 [] (restingBehind 359000) ∧ FloorLaw (restingBehind 359000)
        ∧ (restingBehind 359000).queue = [entry3] ++ entry1 :: []
        ∧ [entry3] ++ [] = entry3 :: ([] : List Entry)
        ∧ (restingBehind 359000).floor.state = .resting ∧ (restingBehind 359000).ident.pending = false
        ∧ (restingBehind 359000).mode = .serving ∧ (restingBehind 359000).pins.txInhibit = false
        ∧ computeGrant (grantInputs (restingBehind 359000) 17) voice = .short voiceFigures 6)
      ∧ (OrderReady 12 1 [] (restingBehind 318000) ∧ FloorLaw (restingBehind 318000)
        ∧ computeGrant (grantInputs (restingBehind 318000) 17) voice
            = .grant voiceFigures (some 280) voiceGrant
        ∧ ¬ TuneFaults (restingBehind 318000) voiceGrant) :=
  ⟨⟨ready (by decide +kernel), floorLaw_of (by decide +kernel), by decide +kernel⟩,
    ⟨ready (by decide +kernel), floorLaw_of (by decide +kernel), by decide +kernel⟩,
    ⟨ready (by decide +kernel), floorLaw_of (by decide +kernel), by decide +kernel⟩,
    ⟨ready (by decide +kernel), floorLaw_of (by decide +kernel), by decide +kernel⟩,
    ⟨ready (by decide +kernel), floorLaw_of (by decide +kernel), by decide +kernel⟩,
    ⟨ready (by decide +kernel), floorLaw_of (by decide +kernel), by decide +kernel⟩,
    ⟨ready (by decide +kernel), floorLaw_of (by decide +kernel), by decide +kernel⟩,
    ⟨ready (by decide +kernel), floorLaw_of (by decide +kernel), by decide +kernel⟩⟩

/-- RELEASE from another's seat, from ON_AIR, with an ID pending (the amplifier believed STANDBY, and OPERATE),
and from HANG; a turn of more than 65,535 s. -/
def pendingId (s : State) : State :=
  { s with ident := { s.ident with window := true, pending := true, grace := some 60000 } }
def operating (s : State) : State :=
  { s with bus := { s.bus with believed := { s.bus.believed with amp := some .operate } } }
def releasing (s : State) : State :=
  withOrder 3 13 [] { s with floor := { s.floor with keyedMs := 65536000 } }
theorem test_met_ReleaseFollowsItsTable :
    (OrderReady 13 6 [] (withOrder 6 13 [] onAir) ∧ FloorLaw (withOrder 6 13 [] onAir)
        ∧ holderSeat (withOrder 6 13 [] onAir) ≠ some 6)
      ∧ (OrderReady 13 3 [] (releasing onAir) ∧ FloorLaw (releasing onAir)
        ∧ 65535 = min ((releasing onAir).floor.keyedMs / 1000) 65535
        ∧ (releasing onAir).floor.holder = some ⟨3, 17⟩ ∧ (releasing onAir).floor.state = .onAir
        ∧ (releasing onAir).ident.pending = false ∧ (releasing onAir).station.hangTime ≠ 0)
      ∧ (OrderReady 13 3 [] (releasing (pendingId onAir)) ∧ FloorLaw (releasing (pendingId onAir))
        ∧ (releasing (pendingId onAir)).floor.state = .onAir
        ∧ (releasing (pendingId onAir)).ident.pending = true)
      ∧ (OrderReady 13 3 [] (releasing (operating (pendingId onAir)))
        ∧ FloorLaw (releasing (operating (pendingId onAir)))
        ∧ NeedsStandby (releasing (operating (pendingId onAir)))
        ∧ ¬ NeedsStandby (releasing (pendingId onAir)))
      ∧ (OrderReady 13 3 [] (releasing setting) ∧ FloorLaw (releasing setting)
        ∧ (releasing setting).floor.state ≠ .onAir ∧ (releasing setting).floor.state ≠ .stalled) :=
  ⟨⟨ready (by decide +kernel), floorLaw_of (by decide +kernel), by decide +kernel⟩,
    ⟨ready (by decide +kernel), floorLaw_of (by decide +kernel), by decide +kernel⟩,
    ⟨ready (by decide +kernel), floorLaw_of (by decide +kernel), by decide +kernel⟩,
    ⟨ready (by decide +kernel), floorLaw_of (by decide +kernel), by decide +kernel⟩,
    ⟨ready (by decide +kernel), floorLaw_of (by decide +kernel), by decide +kernel⟩⟩

/-- FORCE_RELEASE with and without a holder, with and without its flag. -/
theorem test_met_ForceReleaseTakesTheFloor :
    (OrderReady 14 0 [] (fromTrustee 14 [0]) ∧ FloorLaw (fromTrustee 14 [0])
        ∧ hasAuthority (fromTrustee 14 [0]) 0 = true ∧ (fromTrustee 14 [0]).floor.holder = none
        ∧ bodyByte (fromTrustee 14 [0]) 0 4 = 0)
      ∧ (OrderReady 14 0 [] (withOrder 0 14 [0] onAir) ∧ FloorLaw (withOrder 0 14 [0] onAir)
        ∧ hasAuthority (withOrder 0 14 [0] onAir) 0 = true
        ∧ (withOrder 0 14 [0] onAir).floor.holder = some ⟨3, 17⟩)
      ∧ (OrderReady 14 0 [] (withOrder 0 14 [1] (resting 359000))
        ∧ FloorLaw (withOrder 0 14 [1] (resting 359000))
        ∧ hasAuthority (withOrder 0 14 [1] (resting 359000)) 0 = true
        ∧ bodyByte (withOrder 0 14 [1] (resting 359000)) 0 4 ≠ 0
        ∧ entry3 ∈ (withOrder 0 14 [1] (resting 359000)).queue
        ∧ (withOrder 0 14 [1] (resting 359000)).ident.pending = false) :=
  ⟨⟨ready (by decide +kernel), floorLaw_of (by decide +kernel), by decide +kernel⟩,
    ⟨ready (by decide +kernel), floorLaw_of (by decide +kernel), by decide +kernel⟩,
    ⟨ready (by decide +kernel), floorLaw_of (by decide +kernel), by decide +kernel⟩⟩

/-! #### The floor's events and the identification -/

/-- The setup of 3.11, and one with nothing to place. -/
def matched : State :=
  { setting with bus := { setting.bus with
      believed := ⟨some 2, some 14223800, some .usb, some 400, some .operate⟩ } }
def tuneMatched : State :=
  { held 3 17 .setting tuneGrant tuneClub with bus := { club.bus with
      believed := ⟨some 2, some 14300000, some .tune, some 20, some .standby⟩ } }
theorem test_met_SetupPlacesWhatDiffers :
    (Running setting ∧ setting.floor.grant = some voiceGrant ∧ setting.floor.state = .setting
        ∧ setting.floor.setupPlaced = false ∧ floorOutstanding setting = false
        ∧ passThroughOutstanding setting = false ∧ setting.station.ampPresent = true
        ∧ setting.bus.believed.port = some voiceGrant.port
        ∧ setting.bus.believed.freq ≠ some voiceGrant.freq)
      ∧ (Running matched ∧ matched.floor.grant = some voiceGrant ∧ matched.floor.setupPlaced = false
        ∧ matched.bus.believed = ⟨some voiceGrant.port, some voiceGrant.freq, some voiceGrant.mode,
            some voiceGrant.power, some .operate⟩ ∧ voiceGrant.mode ≠ .tune)
      ∧ (Running tuneMatched ∧ tuneMatched.floor.grant = some tuneGrant
        ∧ tuneMatched.floor.state = .setting ∧ tuneMatched.floor.setupPlaced = false
        ∧ floorOutstanding tuneMatched = false ∧ passThroughOutstanding tuneMatched = false
        ∧ setupMessages tuneMatched.station tuneMatched.bus.believed tuneGrant = []
        ∧ tuneGrant.mode = .tune ∧ tuneMatched.mode = .serving ∧ tuneMatched.pins.txInhibit = false
        ∧ tuneMatched.pins.ampFault = false ∧ tuneMatched.keying.state = .unkeyed
        ∧ tuneMatched.station.lead ≠ 0) := by decide +kernel

def timed (st : FloorState) : State :=
  { held 3 17 st voiceGrant club with
    floor := { (held 3 17 st voiceGrant club).floor with
      startWait := some 0, hang := some 0, rejoin := some 0 } }
theorem test_met_TimerExpiriesEndTheTurn :
    (FloorLaw (timed .granted) ∧ FloorLaw onAir ∧ FloorLaw (timed .hang) ∧ FloorLaw (timed .stalled))
      ∧ ∀ st ∈ [FloorState.granted, .hang, .stalled], Running (timed st)
        ∧ (timed st).floor.holder = some ⟨3, 17⟩ ∧ (timed st).floor.state = st
        ∧ (timed st).floor.startWait.isSome = true ∧ (timed st).floor.hang.isSome = true
        ∧ (timed st).floor.rejoin.isSome = true ∧ onAir.floor.grant = some voiceGrant :=
  ⟨⟨floorLaw_of (by decide +kernel), floorLaw_of (by decide +kernel), floorLaw_of (by decide +kernel),
    floorLaw_of (by decide +kernel)⟩, by decide +kernel⟩

/-- A callsign being sent in IDENT. -/
def sender (overlay : Bool) (elements : List Element) : Sender :=
  ⟨overlay, true, elements, 0, 60, 700, 3780⟩
def identSending (elements : List Element) : State :=
  { identState with
    ident := { identState.ident with sender := some (sender false elements) }
    keying := { club.keying with state := .keyed } }
theorem test_met_KeyedMillisecondIsCounted :
    Running onAir ∧ onAir.floor.holder = some ⟨3, 17⟩ ∧ onAir.floor.grant = some voiceGrant
      ∧ onAir.keying.state ≠ .unkeyed ∧ attachedMember onAir 3 = some 17 ∧ onAir.floor.state = .onAir
      ∧ onAir.floor.timeWarned = false ∧ 15 < voiceGrant.duration
      ∧ (Running (identSending []) ∧ (identSending []).keying.state ≠ .unkeyed
        ∧ (identSending []).floor.holder = none ∧ (identSending []).floor.grant = none
        ∧ (identSending []).bus.believed.drive = some 100
        ∧ 100 = min 100 (identSending []).station.cb) := by decide +kernel

/-- An excess in ON_AIR, a heat that stays, and a resting head that is granted. -/
def excess : State := { onAir with duty := ⟨359870, 1000, 400000, 0⟩ }
theorem test_met_DutyIntervalMovesTheHeat :
    (Running excess ∧ FloorLaw excess
        ∧ (360020 : Int) = (excess.duty.q : Int) + (excess.duty.energy / 1000 : Nat) - excess.station.cool
        ∧ (excess.station.qmax : Int) < 360020 ∧ excess.floor.state = .onAir)
      ∧ (Running club ∧ FloorLaw club ∧ ¬ (club.station.qmax : Int) < 19750)
      ∧ (FloorLaw (resting 358750) ∧ (resting 358750).queue = entry3 :: [entry1]
        ∧ (resting 358750).mode = .serving ∧ (resting 358750).pins.txInhibit = false
        ∧ computeGrant { grantInputs (resting 358750) 17 with q := 358500 } voice
            = .grant voiceFigures (some 10) { voiceGrant with duration := 10, limit := .dutyHeadroom }
        ∧ ¬ TuneFaults (resting 358750) { voiceGrant with duration := 10, limit := .dutyHeadroom }) :=
  ⟨⟨by decide, floorLaw_of (by decide +kernel), by decide +kernel⟩,
    ⟨by decide, floorLaw_of (by decide +kernel), by decide⟩,
    ⟨floorLaw_of (by decide +kernel), by decide +kernel⟩⟩

/-- An open window with its timers, in IDLE and in HANG; a pending ID whose grace runs out on the air. -/
def windowed (s : State) : State :=
  { s with ident := { s.ident with window := true, periodic := some 0, closing := some 0 } }
def hanging : State := timed .hang
def noGrace (s : State) : State := { s with station := { s.station with grace := 0 } }
/-- In IDLE with both timers running, settled, in a mode and with TX_INHIBIT as told, an ID pending or not. -/
def settledIdle (mode : ServiceMode) (inhibit pending : Bool) : State :=
  { windowed club with
    mode := mode
    pins := { club.pins with txInhibit := inhibit }
    ident := { (windowed club).ident with pending := pending } }
theorem test_met_IdentificationFallsDue :
    (FloorLaw (windowed club) ∧ FloorLaw (windowed hanging) ∧ FloorLaw (pendingId onAir))
      ∧ (Running (windowed club) ∧ (windowed club).ident.periodic.isSome = true
        ∧ (windowed club).ident.closing.isSome = true ∧ (windowed club).ident.pending = false
        ∧ (windowed club).station.grace ≠ 0 ∧ (windowed club).floor.state = .idle
        ∧ (windowed club).mode = .serving ∧ (windowed club).pins.txInhibit = false)
      ∧ ((windowed hanging).floor.state = .hang ∧ (windowed hanging).floor.holder = some ⟨3, 17⟩)
      ∧ ((pendingId onAir).ident.grace.isSome = true ∧ stepsMade (pendingId onAir) = true
        ∧ (pendingId onAir).ident.sender = none)
      ∧ ((noGrace (windowed club)).station.grace = 0 ∧ (noGrace (windowed onAir)).station.grace = 0
        ∧ (noGrace (windowed club)).ident.closing.isSome = true
        ∧ (noGrace (windowed onAir)).ident.periodic.isSome = true
        ∧ (noGrace (windowed onAir)).ident.pending = false
        ∧ (noGrace (windowed onAir)).floor.state = .onAir
        ∧ stepsMade (noGrace (windowed onAir)) = true)
      ∧ (FloorLaw (noGrace (windowed club)) ∧ FloorLaw (noGrace (windowed onAir)))
      ∧ (FloorLaw (operating (windowed club)) ∧ NeedsStandby (operating (windowed club))
        ∧ standbyOutstanding (operating (windowed club)) = false
        ∧ ¬ NeedsStandby (windowed club) ∧ NeedsStandby (operating (windowed hanging)))
      ∧ (Settled (settledIdle .serving true false) ∧ FloorLaw (settledIdle .serving true false)
        ∧ Settled (settledIdle .configuring false false)
        ∧ FloorLaw (settledIdle .configuring false false)
        ∧ Settled (noGrace (settledIdle .serving true false)))
      ∧ ((settledIdle .serving true false).ident.closing.isSome = true
        ∧ (settledIdle .serving true false).ident.pending = false
        ∧ (settledIdle .serving true false).pins.txInhibit = true
        ∧ (settledIdle .configuring false false).mode = .configuring
        ∧ (settledIdle .configuring false false).ident.closing.isSome = true)
      ∧ (Settled (settledIdle .serving true true) ∧ FloorLaw (settledIdle .serving true true)
        ∧ (settledIdle .serving true true).ident.pending = true
        ∧ (settledIdle .serving true true).ident.closing.isSome = true
        ∧ (settledIdle .serving true true).ident.periodic.isSome = true) :=
  ⟨⟨floorLaw_of (by decide +kernel), floorLaw_of (by decide +kernel), floorLaw_of (by decide +kernel)⟩,
    by decide +kernel, by decide +kernel, by decide +kernel, by decide +kernel,
    ⟨floorLaw_of (by decide +kernel), floorLaw_of (by decide +kernel)⟩,
    ⟨floorLaw_of (by decide +kernel), by decide +kernel⟩,
    ⟨settled_of (by decide +kernel), floorLaw_of (by decide +kernel), settled_of (by decide +kernel),
      floorLaw_of (by decide +kernel), settled_of (by decide +kernel)⟩,
    by decide +kernel, ⟨settled_of (by decide +kernel), floorLaw_of (by decide +kernel), by decide +kernel⟩⟩

/-- A sender with three elements, and with one, in IDENT, also with a tune-up queued that is on the air in the
same act; an overlay over a turn. -/
def identBeforeTune : State :=
  { identSending [⟨true, 1⟩] with
    plan := tuneClub.plan, queue := [{ entry3 with req := tuneUp }]
    bus := (believing tuneGrant .standby club).bus }
def overlaid : State :=
  { onAir with ident := { onAir.ident with
      pending := true, overdue := true, sender := some (sender true [⟨true, 1⟩]) } }
theorem test_met_IdentificationCompletes :
    (Running (identSending [⟨true, 1⟩]) ∧ (sender false [⟨true, 1⟩]).overlay = false
        ∧ (identSending [⟨true, 1⟩]).ident.sender = some (sender false [⟨true, 1⟩])
        ∧ (identSending [⟨true, 1⟩]).floor.state = .ident ∧ (identSending [⟨true, 1⟩]).queue = []
        ∧ (sender false [⟨true, 1⟩]).elements = [⟨true, 1⟩])
      ∧ after .idComplete identBeforeTune
          (fun t => (t.floor.state, grantIsTune t, t.keying.state, t.ident.periodic))
        = some (.onAir, true, .leading, some 600000)
      ∧ (Running overlaid ∧ overlaid.ident.sender = some (sender true [⟨true, 1⟩])
        ∧ (sender true [⟨true, 1⟩]).overlay = true)
      ∧ ((identSending [⟨false, 3⟩, ⟨true, 1⟩, ⟨false, 1⟩]).ident.sender
            = some (sender false [⟨false, 3⟩, ⟨true, 1⟩, ⟨false, 1⟩])
        ∧ (identSending [⟨false, 3⟩, ⟨true, 1⟩, ⟨false, 1⟩]).keying.state = .keyed) := by decide +kernel

/-! #### The lines, the poll, the bus and the panel -/

def amplified : State :=
  { onAir with
    bus := { onAir.bus with believed := { onAir.bus.believed with amp := some .operate } }
    keying := { onAir.keying with poll := some 0 } }
def inhibited (s : State) : State := { s with pins := { s.pins with txInhibit := true } }
def refused6 : Entry := { entry6 with req := ⟨1, .usb, 0⟩ }
def waitingIdle (heat : Nat) (q : List Entry) : State := inhibited (hot heat { club with queue := q })
theorem test_met_RadioLinesAreObeyed :
    (Running onAir ∧ FloorLaw onAir ∧ onAir.pins.txInhibit = false ∧ onAir.floor.holder = some ⟨3, 17⟩)
      ∧ (FloorLaw identState ∧ identState.floor.state = .ident)
      ∧ (FloorLaw (inhibited (pendingId club)) ∧ Running (inhibited (pendingId club))
        ∧ (inhibited (pendingId club)).pins.txInhibit = true
        ∧ (inhibited (pendingId club)).floor.state = .idle ∧ (inhibited (pendingId club)).mode = .serving
        ∧ (inhibited (pendingId club)).ident.pending = true)
      ∧ (FloorLaw amplified ∧ amplified.pins.ampFault = false ∧ amplified.keying.state ≠ .unkeyed
        ∧ amplified.bus.believed.amp = some .operate ∧ amplified.floor.state = .onAir)
      ∧ (Settled club ∧ club.keying.state = .unkeyed)
      ∧ (∀ q ∈ [[refused6], [refused6, entry3], [entry3]], ∀ heat ∈ [318000, 359000],
        FloorLaw (waitingIdle heat q))
      ∧ (∀ q ∈ [[refused6], [refused6, entry3], [entry3]], ∀ heat ∈ [318000, 359000],
        Running (waitingIdle heat q) ∧ (waitingIdle heat q).pins.txInhibit = true
          ∧ (waitingIdle heat q).floor.state = .idle ∧ (waitingIdle heat q).mode = .serving
          ∧ (waitingIdle heat q).ident.pending = false
          ∧ computeGrant (grantInputs (waitingIdle heat q) 9) ⟨1, .usb, 0⟩ = .refusal .outOfPlan
          ∧ computeGrant (grantInputs (waitingIdle heat q) 17) voice
              = if heat = 318000 then .grant voiceFigures (some 280) voiceGrant
                else .short voiceFigures 6)
      ∧ (∀ q ∈ [[refused6, entry3], [entry3]], ¬ TuneFaults (waitingIdle 318000 q) voiceGrant)
      ∧ (FloorLaw (configuring (waitingIdle 0 [entry3]))
        ∧ (configuring (waitingIdle 0 [entry3])).mode = .configuring
        ∧ (configuring (waitingIdle 0 [entry3])).floor.state = .idle) :=
  ⟨⟨by decide, floorLaw_of (by decide +kernel), by decide +kernel⟩,
    ⟨floorLaw_of (by decide +kernel), rfl⟩,
    ⟨floorLaw_of (by decide +kernel), by decide +kernel⟩,
    ⟨floorLaw_of (by decide +kernel), by decide +kernel⟩, ⟨settled_of (by decide +kernel), rfl⟩,
    by intro q h heat h'; simp only [List.mem_cons, List.not_mem_nil, or_false] at h h'
       rcases h with rfl | rfl | rfl <;> rcases h' with rfl | rfl <;> exact floorLaw_of (by decide +kernel),
    by decide +kernel, by decide +kernel, ⟨floorLaw_of (by decide +kernel), by decide +kernel⟩⟩

/-- A poll due; two failures behind and a third query in flight, answered with a fault, with an SWR of 31 and of
30, and refused at its fourth attempt. -/
def polling (failures attempts : Nat) : State :=
  let s := sending .status .poll attempts amplified
  { s with keying := { s.keying with failures := failures } }
def statusCheck (fault swr : Byte) : Byte := checkByteOf [addressByteOf 0x10 true, 3, 6, fault, swr]
theorem test_met_AmplifierIsPolled :
    (Running amplified ∧ FloorLaw amplified ∧ Settled amplified ∧ amplified.keying.poll.isSome = true
        ∧ pollOutstanding amplified = false)
      ∧ (FloorLaw (polling 2 3) ∧ 2 ≤ (polling 2 3).keying.failures ∧ (polling 2 3).floor.state = .onAir
        ∧ (polling 2 3).floor.holder = some ⟨3, 17⟩ ∧ (polling 2 3).bus.engine = .sending
        ∧ (polling 2 3).bus.inFlight = some ⟨.status, .poll, 0x10, 3, 0⟩
        ∧ 0x10 ≠ (polling 2 3).station.ownAddress)
      ∧ (checkByteOf [addressByteOf 0x10 true, 3, 6, 1, 30] = statusCheck 1 30
        ∧ (polling 2 3).station.swrLimit < (31 : Byte).toNat
        ∧ (30 : Byte).toNat ≤ (polling 2 3).station.swrLimit)
      ∧ (FloorLaw (polling 1 3) ∧ (polling 1 3).keying.failures < 2
        ∧ Settled (polling 1 3)
        ∧ (polling 1 3).bus.inFlight = some ⟨.status, .poll, 0x10, 3, 0⟩) :=
  ⟨⟨by decide, floorLaw_of (by decide +kernel), settled_of (by decide +kernel), by decide +kernel⟩,
    ⟨floorLaw_of (by decide +kernel), by decide +kernel⟩, by decide +kernel,
    ⟨floorLaw_of (by decide +kernel), by decide +kernel, settled_of (by decide +kernel),
      by decide +kernel⟩⟩

/-- Work in each section, alone; a cell's command to the radio, held in SETTING and free in IDLE. -/
def working (floorW : List Txn) (poll : Option Txn) (cells : List Txn) (s : State) : State :=
  { s with bus := { s.bus with floorWork := floorW, pollWork := poll, cellWork := cells } }
def cellTxn16 : Txn := newTxn (.cell 2) (.cell false 0x10 1 [1])
theorem test_met_WorkListIsTakenInOrder :
    (Running club ∧ club.bus.engine = .free ∧ club.bus.inFlight = none)
      ∧ ({ sending .standby .standby 1 club with
            bus := { (sending .standby .standby 1 club).bus with engine := .free } } : State).bus.inFlight
          = some ⟨.standby, .standby, 0x10, 1, 0⟩
      ∧ (working [newTxn .standby .standby] none [] club).bus.floorWork = newTxn .standby .standby :: []
      ∧ ((working [] (some (newTxn .poll .status)) [] club).bus.floorWork = []
        ∧ (working [] (some (newTxn .poll .status)) [] club).bus.pollWork = some (newTxn .poll .status))
      ∧ ((working [] none [cellTxn16] club).bus.cellWork = cellTxn16 :: []
        ∧ (working [] none [cellTxn16] club).floor.state.holdsCells = false)
      ∧ ((working [] none [cellTxn16] setting).floor.state.holdsCells = true
        ∧ reachesStation setting.station cellTxn16.message = true) := by decide +kernel

/-- The last setup item done; a wrong reply, and the part's own address; a third and a fourth refusal; the
fifteenth loss and the sixteenth, in the address byte and behind it; a cell's command to the general address. -/
def setupLast : State := sending (.setDrive 400) .setup 0 setting
def selectRefused (attempts : Nat) : State := sending (.select 2) .setup attempts setting
/-- Each setup item with its message, in flight with three refusals behind it, or with fifteen losses. -/
def itemMessages : List (SetupItem × Message) :=
  [(.ampStandby, .standby), (.antenna, .select 2), (.frequency, .setFreq 14223800 .usb), (.drive, .setDrive 400),
    (.ampOperate, .operate)]
def itemSent (m : Message) (attempts losses : Nat) : State :=
  let s := sending m .setup attempts setting
  { s with bus := { s.bus with inFlight := some ⟨m, .setup, 0x10, attempts, losses⟩ } }
def cellSent : State := sending (.cell false 0 1 [1]) (.cell 2) 0 club
def losing (losses : Nat) : Txn := ⟨.setDrive 400, .setup, 0x10, 0, losses⟩
theorem test_met_AttemptEndsByItsClass :
    (Running setupLast ∧ setupLast.bus.engine = .sending
        ∧ setupLast.bus.inFlight = some ⟨.setDrive 400, .setup, 0x10, 0, 0⟩
        ∧ (Message.setDrive 400).isQuery = false ∧ 0x10 ≠ setupLast.station.ownAddress
        ∧ setupLast.floor.state = .setting ∧ setupLast.floor.grant = some voiceGrant
        ∧ voiceGrant.mode ≠ .tune ∧ ∀ y ∈ setupLast.bus.floorWork, y.owner ≠ .setup)
      ∧ (Message.status.isQuery = true
        ∧ (⟨.status, .poll, 0x10, 0, 0⟩ : Txn).replyRight [6, 0] 0 = false
        ∧ (⟨.status, .poll, 0x01, 0, 0⟩ : Txn).address = club.station.ownAddress)
      ∧ ((selectRefused 2).bus.inFlight = some ⟨.select 2, .setup, 0x10, 2, 0⟩ ∧ 2 < 3)
      ∧ ((selectRefused 3).bus.inFlight = some ⟨.select 2, .setup, 0x10, 3, 0⟩
        ∧ (selectRefused 3).floor.state = .setting ∧ (selectRefused 3).floor.holder = some ⟨3, 17⟩
        ∧ FloorLaw (selectRefused 3))
      ∧ ((losing 14).sentBytes = [] ++ 0x20 :: [3, 2, 0x90, 1, 0x4A] ∧ (0x1F : Byte).toNat < (0x20 : Byte).toNat
        ∧ (losing 14).losses < 15 ∧ 15 ≤ (losing 15).losses
        ∧ (losing 15).sentBytes = [0x20] ++ 3 :: [2, 0x90, 1, 0x4A] ∧ (2 : Byte).toNat < (3 : Byte).toNat
        ∧ (3 : Byte).toNat < (4 : Byte).toNat)
      ∧ Settled setupLast
      ∧ (Running cellSent ∧ cellSent.bus.engine = .sending
        ∧ cellSent.bus.inFlight = some ⟨.cell false 0 1 [1], .cell 2, 0x10, 0, 0⟩)
      ∧ (∀ x ∈ itemMessages, IsItem x.2 x.1)
      ∧ (∀ x ∈ itemMessages, FloorLaw (itemSent x.2 3 0) ∧ FloorLaw (itemSent x.2 0 15))
      ∧ (∀ x ∈ itemMessages, (itemSent x.2 3 0).bus.engine = .sending
        ∧ (itemSent x.2 3 0).bus.inFlight = some ⟨x.2, .setup, 0x10, 3, 0⟩
        ∧ (itemSent x.2 0 15).bus.inFlight = some ⟨x.2, .setup, 0x10, 0, 15⟩
        ∧ (itemSent x.2 3 0).floor.state = .setting
        ∧ (itemSent x.2 3 0).floor.holder = some ⟨3, 17⟩
        ∧ (⟨x.2, .setup, 0x10, 0, 15⟩ : Txn).sentBytes.head? = some 0x20) :=
  ⟨by decide +kernel, by decide +kernel, by decide +kernel,
    ⟨by decide +kernel, by decide, by decide, floorLaw_of (by decide +kernel)⟩, by decide +kernel,
    settled_of (by decide +kernel), by decide +kernel,
    by simp [itemMessages, IsItem],
    by intro x h; simp only [itemMessages, List.mem_cons, List.not_mem_nil, or_false] at h
       rcases h with rfl | rfl | rfl | rfl | rfl <;>
         exact ⟨floorLaw_of (by decide +kernel), floorLaw_of (by decide +kernel)⟩,
    by decide +kernel⟩

/-- A bus heard; a taken frame and one of another length, one of 33 bytes, one to all and one to another; a
buffer occupied; one stuck with SBC low and a cell waiting; one that sticks under a setup item, and SBD held
for 0, 1, 2, 9 and 10 pulses; a hold running and none. -/
def engineIn (e : Engine) (s : State) : State := { s with bus := { s.bus with engine := e, sbcLow := true } }
def stuckBus : State := working [] none [cellTxn16] (engineIn .recovering club)
/-- A bus being recovered, whose SBD is held for so many clock pulses. -/
def clocking (n : Nat) : State :=
  { club with bus := { club.bus with engine := .recovering, sbdPulses := n } }
def occupied (m : PanelMessage) (hold : Option Nat) (s : State) : State :=
  { s with bus := { s.bus with engine := .following, inbound := some m, hold := hold } }
/-- An open frame taken on at address 2, while the own address is 1. -/
def oldAddress : State :=
  { club with bus := { club.bus with engine := .following, followed := some ⟨0x04, []⟩ } }
/-- An open frame at address 1, left unacknowledged before the own address became 1. -/
def passedBy : State :=
  { club with bus := { club.bus with engine := .listening, unfollowed := some 0x02 } }
theorem followed_iff (s : State) (b : Byte) :
    Followed s b ↔ follows s b = true
      ∨ (b = 0 ∨ b = addressByteOf s.station.ownAddress false) ∧ s.bus.unfollowed ≠ some b := by
  simp [Followed, follows, Option.any_eq_true]
theorem test_met_EngineFollowsTheBus :
    (Running (engineIn .listening club) ∧ (engineIn .listening club).bus.engine ≠ .recovering
        ∧ (engineIn .listening club).bus.attemptOpen = false
        ∧ (engineIn .listening club).bus.inbound = none)
      ∧ (takeFrame.address.getLsbD 0 = false ∧ takeFrame.address ≠ 0
        ∧ takeFrame.address = addressByteOf club.station.ownAddress false
        ∧ (PanelMessage.take, 0x10#8) ∈ [(PanelMessage.take, 0x10#8), (.give, 0x11#8)]
        ∧ takeFrame.length = 1 ∧ takeFrame.data = [0x10]
        ∧ takeFrame.address + takeFrame.length + 0x10 + takeFrame.check = 0)
      ∧ (∀ f ∈ [(⟨2, 32, List.replicate 32 0, 0xDE⟩ : CommandFrame), ⟨2, 1, [0x14], 0xE9⟩,
            ⟨2, 1, [0x10], 0⟩],
          f.address.getLsbD 0 = false ∧ f.length.toNat ≤ 32
            ∧ ¬ ∃ kind ∈ [0x10#8, 0x11#8, 0x12#8, 0x13#8],
                f.length = 1 ∧ f.data = [kind] ∧ f.address + f.length + kind + f.check = 0)
      ∧ (32 < (⟨2, 33, [], 0⟩ : CommandFrame).length.toNat)
      ∧ (takeToAll.address = 0 ∧ takeToAll.address.getLsbD 0 = false ∧ Followed club takeToAll.address
        ∧ Followed club takeFrame.address)
      ∧ (¬ Followed club 0x20 ∧ (0x20 : Byte).getLsbD 0 = false)
      ∧ (passedBy.bus.unfollowed = some 0x02 ∧ ¬ Followed passedBy 0x02 ∧ Followed passedBy 0)
      ∧ (Followed oldAddress 0x04 ∧ oldAddress.bus.inbound = none ∧ ¬ Followed club 0x04)
      ∧ (Followed (occupied .take none club) 0x02 ∧ (occupied .take none club).bus.inbound = some .take
        ∧ (occupied .take none club).bus.attemptOpen = false)
      ∧ ((occupied .take (some 10) club).bus.engine = .following
        ∧ (occupied .take (some 10) club).bus.hold.isSome = true)
      ∧ (Settled club ∧ club.bus.hold = none)
      ∧ (Running stuckBus ∧ stuckBus.bus.engine = .recovering ∧ stuckBus.bus.sbcLow = true
        ∧ stuckBus.bus.inFlight = none ∧ stuckBus.bus.floorWork = [] ∧ stuckBus.bus.pollWork = none
        ∧ stuckBus.bus.cellWork = cellTxn16 :: [] ∧ cellTxn16.owner = .cell 2
        ∧ cellHeld stuckBus cellTxn16.message = false)
      ∧ (FloorLaw (itemSent (.setDrive 400) 0 0) ∧ IsItem (.setDrive 400) .drive)
      ∧ ((itemSent (.setDrive 400) 0 0).bus.engine ≠ .recovering
        ∧ (itemSent (.setDrive 400) 0 0).bus.inFlight = some ⟨.setDrive 400, .setup, 0x10, 0, 0⟩
        ∧ (itemSent (.setDrive 400) 0 0).floor.state = .setting
        ∧ (itemSent (.setDrive 400) 0 0).floor.holder = some ⟨3, 17⟩)
      ∧ (∀ n ∈ [0, 1, 2, 9, 10], Running (clocking n) ∧ (clocking n).bus.engine = .recovering
        ∧ (clocking n).bus.sbdPulses = n) :=
  ⟨by decide +kernel, by decide +kernel, by decide +kernel, by decide +kernel,
    by simp only [followed_iff]; decide +kernel, by simp only [followed_iff]; decide +kernel,
    by simp only [followed_iff]; decide +kernel, by simp only [followed_iff]; decide +kernel,
    by simp only [followed_iff]; decide +kernel, by decide +kernel,
    ⟨settled_of (by decide +kernel), rfl⟩, by decide +kernel,
    ⟨floorLaw_of (by decide +kernel), 400, rfl⟩, by decide +kernel, by decide +kernel⟩

/-- TAKE and HALT, waiting and in a frame, with a holder, in LOCAL and in SHUT; HALT while TAKE waits. -/
theorem test_met_PanelTakesAndHalts :
    (Running onAir ∧ FloorLaw onAir ∧ Arrives .take onAir
        ∧ onAir.floor.state ≠ .panelHeld ∧ onAir.floor.state ≠ .shut
        ∧ onAir.floor.holder = some ⟨3, 17⟩ ∧ Arrives .halt onAir)
      ∧ (FloorLaw (occupied .take none (inState .panelHeld club))
        ∧ Arrives .take (occupied .take none (inState .panelHeld club)))
      ∧ (FloorLaw (occupied .halt (some 3) (inState .shut club))
        ∧ Arrives .halt (occupied .halt (some 3) (inState .shut club)))
      ∧ ((Instr.halt, PanelMessage.halt) ∈ [(Instr.take, PanelMessage.take), (.give, .give),
          (.halt, .halt), (.resume, .resume)]
        ∧ Running (occupied .take none club) ∧ (occupied .take none club).bus.inbound = some .take
        ∧ PanelMessage.take ≠ .halt ∧ (occupied .take none club).bus.engine ≠ .recovering
        ∧ (occupied .take none club).bus.attemptOpen = false
        ∧ (occupied .take none club).bus.hold = none
        ∧ (occupied .take none club).bus.unfollowed ≠ some (panelFrame .halt (occupied .take none club)).address) :=
  ⟨⟨by decide, floorLaw_of (by decide +kernel), .inr rfl, by decide, by decide, rfl, .inr rfl⟩,
    ⟨floorLaw_of (by decide +kernel), .inl rfl⟩, ⟨floorLaw_of (by decide +kernel), .inl rfl⟩,
    ⟨by simp, by decide, rfl, by decide, by decide, rfl, rfl, by decide⟩⟩

/-- GIVE in LOCAL and in IDLE; CONFIGURING and inhibited; with an ID pending; with a head that is granted,
short, and refused, with more behind. -/
def panelQueue (q : Request) (heat : Nat) : State :=
  hot heat { occupied .give none (inState .panelHeld club) with
    queue := [{ entry6 with req := ⟨1, .usb, 0⟩ }, { entry3 with req := q }] }
theorem test_met_PanelGivesAndResumes :
    (Running (occupied .give none club) ∧ FloorLaw (occupied .give none club)
        ∧ (Instr.give, PanelMessage.give, FloorState.panelHeld)
          ∈ [(Instr.give, PanelMessage.give, FloorState.panelHeld), (.resume, .resume, .shut)]
        ∧ Arrives .give (occupied .give none club)
        ∧ (occupied .give none club).floor.state ≠ .panelHeld)
      ∧ (Arrives .resume (inState .shut club)
        ∧ FloorLaw (inState .shut club) ∧ (inState .shut club).floor.state = .shut
        ∧ (inState .shut club).queue = [] ∧ (inState .shut club).ident.pending = false)
      ∧ ((configuring (panelQueue voice 0)).mode = .configuring
        ∧ (inhibited (panelQueue voice 0)).pins.txInhibit = true
        ∧ FloorLaw (inhibited (panelQueue voice 0)))
      ∧ ((pendingId (panelQueue voice 0)).mode = .serving
        ∧ (pendingId (panelQueue voice 0)).pins.txInhibit = false
        ∧ (pendingId (panelQueue voice 0)).ident.pending = true)
      ∧ (FloorLaw (panelQueue voice 318000) ∧ Arrives .give (panelQueue voice 318000)
        ∧ (panelQueue voice 318000).queue = [{ entry6 with req := ⟨1, .usb, 0⟩ }] ++ entry3 :: []
        ∧ computeGrant (grantInputs (panelQueue voice 318000) 9) ⟨1, .usb, 0⟩ = .refusal .outOfPlan
        ∧ computeGrant (grantInputs (panelQueue voice 318000) 17) voice
          = .grant voiceFigures (some 280) voiceGrant
        ∧ ¬ TuneFaults (panelQueue voice 318000) voiceGrant
        ∧ computeGrant (grantInputs (panelQueue voice 359000) 17) voice = .short voiceFigures 6
        ∧ computeGrant (grantInputs (panelQueue ⟨1, .usb, 0⟩ 0) 17) ⟨1, .usb, 0⟩
          = .refusal .outOfPlan) :=
  ⟨⟨by decide, floorLaw_of (by decide +kernel), by simp, .inl rfl, by decide +kernel⟩,
    ⟨.inr rfl, floorLaw_of (by decide +kernel), by decide +kernel⟩,
    ⟨by decide, by decide, floorLaw_of (by decide +kernel)⟩, by decide +kernel,
    ⟨floorLaw_of (by decide +kernel), .inl rfl, by decide +kernel⟩⟩

/-- Queries of 0, 5, 32 and 33 bytes; one taken on under another address, with the reply of its moment. -/
theorem test_met_StateQueryReportsTheFloor :
    (Running setting ∧ setting.bus.followed = none ∧ (32 : Byte).toNat ≤ 32 ∧ (0 : Byte).toNat ≤ 32)
      ∧ (4 < (5 : Byte).toNat ∧ 32 < (33 : Byte).toNat)
      ∧ (({ setting with bus := { setting.bus with engine := .following, followed := some ⟨0x05, [0x14, 1, 17, 0, 0]⟩ } } :
          State).bus.followed = some ⟨0x05, [0x14, 1, 17, 0, 0]⟩ ∧ (0x05 : Byte).getLsbD 0 = true)
      ∧ (setting.bus.engine ≠ .recovering ∧ setting.bus.attemptOpen = false) := by decide

/-! #### Frames and laws -/

theorem test_met_CommandsTouchOnlyTheirParts :
    (∃ t, exec .timeWarning onAir = .next t ∧ Part.heat ∉ touches .timeWarning)
      ∧ ∃ t, Running setting ∧ FloorLaw setting ∧ setting.page.boardDue = false
        ∧ restartCommand .txInhibitAsserted = false ∧ exec .txInhibitAsserted setting = .next t
        ∧ t.floor.state ≠ setting.floor.state
        ∧ setting.seats[(6 : SeatNo)].attachment.isSome = true
        ∧ t.seats[(6 : SeatNo)].attachment.isSome = true :=
  ⟨⟨_, rfl, by decide⟩, _, rfl, floorLaw_of (by decide +kernel), rfl, rfl, rfl, by decide +kernel,
    by decide +kernel, by decide +kernel⟩

theorem test_met_MemoryChangesOnlyWhereThePartWrites :
    ∃ t, restartCommand (.orderCellHandover 3) = false ∧ exec (.orderCellHandover 3) club = .next t
      ∧ ¬ partWrites 0x2800
      ∧ ∀ cell, handedCell (.orderCellHandover 3) = some cell → 0x2800 ≠ cell.handoverAddress := by
  refine ⟨_, rfl, rfl, ?_, ?_⟩
  · intro h
    simp only [partWrites, CellRef.base, CellRef.handoverAddress, CellRef.size, seatArea] at h
    omega
  · intro cell h
    cases h
    decide

/-- Every law at a state on the air, with a command in front. -/
def running : State := { onAir with pending := [.playoutStep] }
theorem test_met_EveryStepKeepsTheLaws :
    (∃ t, step running = .next t) ∧ Memory.wf running.ram = true ∧ KeyingLaw running ∧ FloorLaw running
      ∧ IdentLaw running ∧ PlayoutLaw running ∧ HeatLaw running ∧ SeatLaw running ∧ NoticeLaw running
      ∧ OrderLaw running ∧ BusLaw running ∧ Settled running :=
  ⟨⟨_, rfl⟩, by decide, ⟨fun _ => .inl rfl, fun _ => rfl, fun _ => rfl, fun _ => rfl⟩,
    floorLaw_of (by decide +kernel), identLaw_of (by decide +kernel),
    ⟨fun _ => rfl, fun np h => (by cases h), by decide, by decide, by decide⟩, ⟨by decide, by decide⟩,
    seatLaw_of (by decide +kernel), fun seat => by revert seat; decide +kernel,
    ⟨by decide, fun seat => by revert seat; decide +kernel, fun seat h => (by cases h)⟩,
    ⟨by decide, fun x h => (by cases h), fun x h => (List.not_mem_nil h).elim,
      fun x h => (List.not_mem_nil h).elim, fun x h => (by cases h), by decide, by decide, by decide, by decide, by decide,
      by decide, by decide, by decide⟩,
    settled_of (by decide +kernel)⟩

end Sys2Proof.Tests
end

/-! SUPPORT. What an order leaves behind that the floor takes no part in: the reports at the close of its
act (R167), its answer (R165), the renewal of its seat's deadline (R13), and the frame of the whole act. -/

namespace Sys2Proof.Machine

/-! ### One report (R167) -/

@[simp] theorem answerBytes_length (a : Option Answer) : (answerBytes a).length = 32 := by
  cases a <;> simp [answerBytes]

/-- R173: byte 1 of a report says whether it holds an answer. -/
theorem reportBytes_flag (now : BitVec 32) (r : Seat) :
    (reportBytes now r).getD 1 0 = flagByte r.answer.isSome := by
  rw [reportBytes, padTo_getD, if_pos (by decide)]
  rfl

/-- R173: the answer area is bytes 4 to 35 of a report. -/
theorem reportBytes_answer (now : BitVec 32) (r : Seat) (i : Nat) (h : i < 32) :
    (reportBytes now r).getD (4 + i) 0 = (answerBytes r.answer).getD i 0 := by
  rw [reportBytes, padTo_getD, if_pos (by omega), List.append_assoc,
    List.getD_append_right _ _ _ _ (by simp), List.getD_append _ _ _ _ (by simpa using h)]
  simp

/-- The memory behind a report: its bytes, then the hand-over of its cell and of an answered order's. -/
theorem writeReport_ram (seat : SeatNo) (s : State) :
    (writeReport seat s).ram =
      let m := Memory.write (CellRef.report seat).handoverAddress 0
        (Memory.writeBlock (CellRef.report seat).base (reportBytes s.stamp s.seats[seat]) s.ram)
      if s.seats[seat].answer.isSome then Memory.write (CellRef.order seat).handoverAddress 0 m
      else m := by
  simp only [writeReport]
  split <;> rfl

/-- R167: bytes 0 to 254 of the report cell are the report's. -/
theorem writeReport_cellByte (seat : SeatNo) (s : State) (i : Nat) (h : i < 255) :
    cellByte (writeReport seat s) (.report seat) i
      = (reportBytes s.stamp s.seats[seat]).getD i 0 := by
  have hr : (CellRef.report seat).base + i ≠ (CellRef.report seat).handoverAddress := by
    simp only [CellRef.handoverAddress, CellRef.size]; omega
  have ho : (CellRef.report seat).base + i ≠ (CellRef.order seat).handoverAddress := by
    simp only [CellRef.handoverAddress, CellRef.base, CellRef.size]; omega
  have hi : i < (reportBytes s.stamp s.seats[seat]).length := by simpa [reportBytes] using h
  have hm : Memory.read (Memory.write (CellRef.report seat).handoverAddress 0
      (Memory.writeBlock (CellRef.report seat).base (reportBytes s.stamp s.seats[seat]) s.ram))
        ((CellRef.report seat).base + i) = (reportBytes s.stamp s.seats[seat]).getD i 0 := by
    rw [Memory.read_write_other hr, Memory.read_writeBlock_inside hi, List.getD_eq_getElem _ _ hi]
  simp only [cellByte, writeReport_ram]
  split
  · rw [Memory.read_write_other ho, hm]
  · exact hm

/-- R167: a report's own cell goes to the host. -/
theorem partHeld_report_writeReport (seat : SeatNo) (s : State) :
    partHeld (writeReport seat s) (.report seat) = false := by
  have hne : (CellRef.report seat).handoverAddress ≠ (CellRef.order seat).handoverAddress :=
    fun e => by cases CellRef.handoverAddress_injective e
  simp only [partHeld, writeReport_ram]
  split
  · rw [Memory.read_write_other hne, Memory.read_write_same]; rfl
  · rw [Memory.read_write_same]; rfl

/-- R167: with its answer, an order's cell goes to the host. -/
theorem partHeld_order_writeReport {seat : SeatNo} {s : State}
    (h : s.seats[seat].answer.isSome = true) :
    partHeld (writeReport seat s) (.order seat) = false := by
  simp only [partHeld, writeReport_ram, h, if_true, Memory.read_write_same]
  rfl

/-- R167: the seats behind a report. -/
theorem writeReport_seats (seat x : SeatNo) (s : State) :
    (writeReport seat s).seats[x]
      = if x = seat then { s.seats[seat] with notices := [], answer := none } else s.seats[x] := by
  have hm : (writeReport seat s).seats
      = (modSeat seat (fun r => { r with notices := [], answer := none }) s).seats := by
    simp only [writeReport]
    split <;> simp [modSeat]
  rw [hm, modSeat_getElem]

/-- R167: of the registers a report writes SUMMARY alone. -/
theorem writeReport_port (seat : SeatNo) (s : State) :
    (writeReport seat s).port
      = { s.port with summary := s.port.summary ||| BitVec.ofNat 16 (2 ^ seat.val) } := by
  simp only [writeReport]
  split <;> simp [setSummary]

/-- R167: of SUMMARY a report sets its seat's bit alone. -/
theorem writeReport_summary (seat x : SeatNo) (s : State) :
    (writeReport seat s).port.summary.getLsbD x.val
      = (s.port.summary.getLsbD x.val || decide (seat = x)) := by
  have hx : x.val < 16 := by omega
  rw [writeReport_port, BitVec.getLsbD_or, BitVec.getLsbD_ofNat, Nat.testBit_two_pow]
  simp only [hx, decide_true, Bool.true_and, Fin.ext_iff]

/-! ### The reports of an act, seat by seat -/

/-- Two states agree on a seat: on its record, on its area of the exchange memory, on its SUMMARY bit, and
on the stamp, which its report carries. -/
structure SeatAgrees (x : SeatNo) (s t : State) : Prop where
  record  : t.seats[x] = s.seats[x]
  ram     : ∀ a, seatArea x ≤ a → a < seatArea x + 2048 → Memory.read t.ram a = Memory.read s.ram a
  summary : t.port.summary.getLsbD x.val = s.port.summary.getLsbD x.val
  stamp   : t.stamp = s.stamp

theorem SeatAgrees.refl (x : SeatNo) (s : State) : SeatAgrees x s s :=
  ⟨rfl, fun _ _ _ => rfl, rfl, rfl⟩

theorem SeatAgrees.trans {x : SeatNo} {s t u : State} (h : SeatAgrees x s t)
    (h' : SeatAgrees x t u) : SeatAgrees x s u :=
  ⟨h'.record.trans h.record, fun a l r => (h'.ram a l r).trans (h.ram a l r),
    h'.summary.trans h.summary, h'.stamp.trans h.stamp⟩

theorem SeatAgrees.partHeld_report {x : SeatNo} {s t : State} (h : SeatAgrees x s t) :
    partHeld t (.report x) = partHeld s (.report x) := by
  simp only [partHeld, CellRef.handoverAddress, CellRef.base, CellRef.size]
  rw [h.ram _ (by omega) (by omega)]

theorem SeatAgrees.partHeld_order {x : SeatNo} {s t : State} (h : SeatAgrees x s t) :
    partHeld t (.order x) = partHeld s (.order x) := by
  simp only [partHeld, CellRef.handoverAddress, CellRef.base, CellRef.size]
  rw [h.ram _ (by omega) (by omega)]

theorem SeatAgrees.cellByte_report {x : SeatNo} {s t : State} (h : SeatAgrees x s t) {i : Nat}
    (hi : i < 256) : cellByte t (.report x) i = cellByte s (.report x) i := by
  simp only [cellByte, CellRef.base]
  exact h.ram _ (by omega) (by omega)

/-- A seat's report touches no other seat. -/
theorem composeReport_agrees {x y : SeatNo} (h : y ≠ x) (s : State) :
    SeatAgrees x s (composeReport y s) := by
  unfold composeReport
  split
  · have hv : y.val ≠ x.val := fun e => h (Fin.ext e)
    refine ⟨by rw [writeReport_seats, if_neg (Ne.symm h)], fun a hl hr => ?_,
      by simp [writeReport_summary, h], by simp⟩
    have hreport : a ≠ (CellRef.report y).handoverAddress := by
      simp only [CellRef.handoverAddress, CellRef.base, CellRef.size, seatArea] at *; omega
    have horder : a ≠ (CellRef.order y).handoverAddress := by
      simp only [CellRef.handoverAddress, CellRef.base, CellRef.size, seatArea] at *; omega
    have hblock : a < (CellRef.report y).base
        ∨ (CellRef.report y).base + (reportBytes s.stamp s.seats[y]).length ≤ a := by
      simp only [CellRef.base, seatArea, reportBytes, padTo_length] at *; omega
    simp only [writeReport_ram]
    split
    · rw [Memory.read_write_other horder, Memory.read_write_other hreport,
        Memory.read_writeBlock_outside hblock]
    · rw [Memory.read_write_other hreport, Memory.read_writeBlock_outside hblock]
  · exact .refl x s

/-- The reports of other seats leave a seat as it was. -/
theorem foldl_composeReport_agrees {x : SeatNo} {l : List SeatNo} (h : x ∉ l) (s : State) :
    SeatAgrees x s (l.foldl (fun s seat => composeReport seat s) s) := by
  induction l generalizing s with
  | nil => exact .refl x s
  | cons y rest ih =>
    rw [List.mem_cons, not_or] at h
    obtain ⟨hy, hrest⟩ := h
    exact (composeReport_agrees (Ne.symm hy) s).trans (ih hrest _)

/-- R167: what the reports of an act leave at a seat is what the seat's own report leaves there, composed
in a state that agrees on the seat with the one before the reports. -/
theorem composeReports_agrees (x : SeatNo) (s : State) :
    ∃ u, SeatAgrees x s u ∧ SeatAgrees x (composeReport x u) (composeReports s) := by
  obtain ⟨before, behind, hl⟩ := List.append_of_mem (List.mem_finRange x)
  have hnd : (before ++ x :: behind).Nodup := hl ▸ List.nodup_finRange 12
  rw [List.nodup_middle, List.nodup_cons, List.mem_append, not_or] at hnd
  obtain ⟨⟨hbefore, hbehind⟩, -⟩ := hnd
  refine ⟨_, foldl_composeReport_agrees hbefore s, ?_⟩
  rw [composeReports, hl, List.foldl_append, List.foldl_cons]
  exact foldl_composeReport_agrees hbehind _

/-- R165, R167: an answer in waiting is answered by the reports of the act. -/
theorem composeReports_answered {s : State} {seat : SeatNo} {a : Answer}
    (ha : s.seats[seat].answer = some a) : Answered s (composeReports s) seat a := by
  obtain ⟨u, hu, ht⟩ := composeReports_agrees seat s
  have hua : u.seats[seat].answer = some a := hu.record ▸ ha
  unfold Answered
  split
  · next hp =>
    have hdue : reportDue u seat = true := by simp only [reportDue, hu.partHeld_report, hp, hua]; rfl
    rw [composeReport, if_pos hdue] at ht
    refine ⟨?_, ?_, ?_, ?_, ?_, ?_⟩
    · rw [ht.cellByte_report (by decide), writeReport_cellByte _ _ _ (by decide), reportBytes_flag, hua]
      rfl
    · apply List.ext_getElem (by simp [cellBytes])
      intro i hi hi'
      rw [answerBytes_length] at hi'
      have hb := ht.cellByte_report (i := 4 + i) (by omega)
      rw [writeReport_cellByte _ _ _ (by omega), reportBytes_answer _ _ _ hi', hua] at hb
      simp only [cellBytes, Memory.readBlock_getElem]
      rw [← List.getD_eq_getElem _ 0, ← hb, cellByte, Nat.add_assoc]
    · rw [ht.partHeld_report, partHeld_report_writeReport]
    · rw [ht.partHeld_order, partHeld_order_writeReport (by rw [hua]; rfl)]
    · rw [ht.record, writeReport_seats, if_pos rfl]
    · rw [ht.summary, writeReport_summary, decide_eq_true rfl, Bool.or_true]
  · next hp =>
    have hdue : reportDue u seat = false := by simp [reportDue, hu.partHeld_report, hp]
    rw [composeReport, if_neg (by simp [hdue])] at ht
    exact ⟨by rw [ht.record, hua], (hu.trans ht).partHeld_order⟩

/-- Of the state before it, an answer reads the memory alone. -/
theorem Answered.of_ram_eq {s s' t : State} {seat : SeatNo} {a : Answer} (h : Answered s' t seat a)
    (hr : s'.ram = s.ram) : Answered s t seat a := by
  simp only [Answered, partHeld, hr] at h ⊢
  exact h

/-! ### Frames -/

theorem Kept.trans {s t u : State} {p : Part} (h : Kept s t p) (h' : Kept t u p) : Kept s u p := by
  cases p
  case attachments => exact fun x => (h' x).trans (h x)
  case figures =>
    intro x
    obtain ⟨c, f, k, w⟩ := h x
    obtain ⟨c', f', k', w'⟩ := h' x
    exact ⟨c'.trans c, f'.trans f, k'.trans k, w'.trans w⟩
  case ident =>
    simp only [Kept] at h h' ⊢
    rw [← h, ← h']
  all_goals simp_all [Kept]

/-- A change of a seat's notices and answer alone changes no part. -/
theorem modSeat_kept {seat : SeatNo} {f : Seat → Seat}
    (hf : ∀ r, ∃ n a, f r = { r with notices := n, answer := a }) (s : State) (p : Part) :
    Kept s (modSeat seat f s) p := by
  obtain ⟨n, a, hr⟩ := hf s.seats[seat]
  cases p
  case attachments | figures =>
    intro x
    rw [modSeat_getElem, hr]
    split
    · next h => subst h; simp
    · simp
  all_goals simp [Kept]

/-- R165: an answer placed in waiting changes no part. -/
theorem placeAnswer_kept (seat : SeatNo) (a : Answer) (s : State) (p : Part) :
    Kept s (placeAnswer seat a s) p :=
  modSeat_kept (fun r => ⟨r.notices, some a, rfl⟩) s p

/-- R167: a report changes no part. -/
theorem composeReport_kept (seat : SeatNo) (s : State) (p : Part) :
    Kept s (composeReport seat s) p := by
  unfold composeReport
  split
  · cases p
    case attachments | figures =>
      intro x
      rw [writeReport_seats]
      split
      · next h => subst h; simp
      · simp
    case registers => simp [Kept, writeReport_port]
    all_goals simp [Kept]
  · cases p <;> simp [Kept]

/-- R167: the reports of an act change no part. -/
theorem composeReports_kept (s : State) (p : Part) : Kept s (composeReports s) p := by
  unfold composeReports
  generalize List.finRange 12 = l
  induction l generalizing s with
  | nil => cases p <;> simp [Kept]
  | cons x rest ih => exact (composeReport_kept x s p).trans (ih _)

theorem settleClosing_kept (before s : State) (p : Part) : Kept s (settleClosing before s) p := by
  cases p
  case ident =>
    simp only [Kept, settleClosing]
    (repeat' split) <;> simp
  all_goals simp [Kept]

theorem settlePoll_kept (s : State) (p : Part) : Kept s (settlePoll s) p := by
  unfold settlePoll withdrawPoll
  cases p <;> simp only [Kept] <;> (repeat' split) <;> simp

theorem settleLines_kept (s : State) (p : Part) : Kept s (settleLines s) p := by
  cases p <;> simp [Kept, settleLines]

theorem settleBoard_kept (before s : State) (p : Part) : Kept s (settleBoard before s) p := by
  cases p
  case registers =>
    simp only [Kept, settleBoard, rewriteBoard, setSummary]
    split <;> simp
  all_goals simp [Kept]

/-- The close of an act changes no part: what it may write is not among them. -/
theorem closeAct_kept (before s : State) (p : Part) : Kept s (closeAct before s) p :=
  ((((settleClosing_kept before s p).trans (settlePoll_kept _ p)).trans
    (settleLines_kept _ p)).trans (settleBoard_kept before _ p)).trans (composeReports_kept _ p)

/-! ### An order's act (R13, R165) -/

/-- R13, R165: the state in which an order is carried out: its entry is off the hand-over list and its
seat's deadline is renewed. -/
abbrev orderTaken (seat : SeatNo) (rest : List SeatNo) (s : State) : State :=
  renewPresence seat (s.withHandovers rest)

/-- R13: what the take makes of the attachments. -/
theorem orderTaken_attachment (seat x : SeatNo) (rest : List SeatNo) (s : State) :
    (orderTaken seat rest s).seats[x].attachment = renewedAt s seat x := by
  rw [orderTaken, renewPresence, modSeat_getElem, renewedAt]
  split
  · next h => subst h; rfl
  · rfl

/-- The take detaches nobody. -/
@[simp] theorem attachedMember_orderTaken (seat x : SeatNo) (rest : List SeatNo) (s : State) :
    attachedMember (orderTaken seat rest s) x = attachedMember s x := by
  rw [attachedMember, orderTaken_attachment, renewedAt]
  split
  · rw [Option.map_map]; rfl
  · rfl

/-- R3: the take leaves the seat's authority as it was. -/
@[simp] theorem hasAuthority_orderTaken (seat x : SeatNo) (rest : List SeatNo) (s : State) :
    hasAuthority (orderTaken seat rest s) x = hasAuthority s x := by
  simp [hasAuthority]

/-- The take changes the hand-over list and the attachments alone. -/
theorem orderTaken_kept (seat : SeatNo) (rest : List SeatNo) (s : State) {p : Part}
    (hh : p ≠ .handovers) (ha : p ≠ .attachments) : Kept s (orderTaken seat rest s) p := by
  cases p
  case handovers => exact absurd rfl hh
  case attachments => exact absurd rfl ha
  case figures =>
    intro x
    rw [orderTaken, renewPresence, modSeat_getElem]
    split
    · next h => subst h; simp
    · simp
  all_goals simp [Kept]

/-- The state behind an order's act that left the floor alone: the answer is placed in the state `d` that the
order left, and the act is closed. -/
abbrev orderClosed (s : State) (seat : SeatNo) (a : Answer) (d : State) : State :=
  closeAct s (placeAnswer seat a d)

/-- R165: an order that leaves the floor alone is answered, and its act only closed. -/
theorem execOrder_floor_kept {kind : Nat} {carryOut : SeatNo → State → State × Reply}
    {s d : State} {seat : SeatNo} {rest : List SeatNo} {reply : Reply}
    (h : OrderReady kind seat rest s) (hd : carryOut seat (orderTaken seat rest s) = (d, reply))
    (hf : d.floor = s.floor) :
    execOrder kind carryOut s
      = .next (orderClosed s seat (answerWith s seat reply.result reply.data) d) := by
  rw [execOrder_running h, hd, finishSetup_kept (by simp [hf]) (by simp [hf])]
  rfl

/-- Placing the answer and closing the act change no part. -/
theorem orderClosed_kept (s : State) (seat : SeatNo) (a : Answer) (d : State) (p : Part) :
    Kept d (orderClosed s seat a d) p :=
  (placeAnswer_kept seat a d p).trans (closeAct_kept s _ p)

/-- R165, R167: an order that leaves the exchange memory to the close of its act is answered. -/
theorem orderClosed_answered {s d : State} (seat : SeatNo) (a : Answer) (hr : d.ram = s.ram) :
    Answered s (orderClosed s seat a d) seat a := by
  have ha : (settleBoard s (settleLines (settlePoll (settleClosing s
      (placeAnswer seat a d))))).seats[seat].answer = some a := by
    simp [placeAnswer, modSeat]
  exact (composeReports_answered ha).of_ram_eq (by simpa using hr)

/-- R13: an order that leaves the attachments of its take has renewed the deadline. -/
theorem orderClosed_renewed {s d : State} {seat : SeatNo} {rest : List SeatNo} (a : Answer)
    (hs : d.seats = (orderTaken seat rest s).seats) : RenewedAtTake s (orderClosed s seat a d) seat :=
  fun x => by
    rw [orderClosed_kept s seat a d .attachments x, hs, orderTaken_attachment]

/-- R165: an order that changed nothing and answered a result code alone was refused. -/
theorem execOrder_refused {kind : Nat} {carryOut : SeatNo → State → State × Reply} {s : State}
    {seat : SeatNo} {rest : List SeatNo} {result : Result} (h : OrderReady kind seat rest s)
    (hd : carryOut seat (orderTaken seat rest s) = (orderTaken seat rest s, plain result)) :
    Gives (execOrder kind carryOut s) fun t => OrderRefused s t seat rest result :=
  ⟨_, execOrder_floor_kept h hd (by simp),
    { taken := by simp
      renewed := orderClosed_renewed _ rfl
      kept := fun p hh ha => (orderTaken_kept seat rest s hh ha).trans (orderClosed_kept ..)
      answer := orderClosed_answered seat _ (by simp) }⟩

/-- R3: with management authority the order is carried out. -/
theorem withAuthority_of_authority {carryOut : SeatNo → State → State × Reply} {seat : SeatNo}
    {s : State} (h : hasAuthority s seat = true) :
    withAuthority carryOut seat s = carryOut seat s := by
  simp [withAuthority, h]

/-- R3: without it the order is refused. -/
theorem withAuthority_refused {carryOut : SeatNo → State → State × Reply} {seat : SeatNo}
    {s : State} (h : hasAuthority s seat = false) :
    withAuthority carryOut seat s = (s, plain .notTrustee) := by
  simp [withAuthority, h]

/-! ### PRESENCE (R14) -/

theorem doPresence_attached {seat : SeatNo} {s : State} {a : Attachment}
    (h : s.seats[seat].attachment = some a) :
    doPresence seat s = (s, ⟨.done, le32 (a.deadline - s.stamp).toNat⟩) := by
  simp only [doPresence, h]

theorem doPresence_vacant {seat : SeatNo} {s : State} (h : s.seats[seat].attachment = none) :
    doPresence seat s = (s, plain .notAttached) := by
  simp only [doPresence, h]

/-- R13, R14: behind its own take a PRESENCE finds the whole renewal time to the deadline. -/
theorem doPresence_orderTaken {seat : SeatNo} {s : State} (rest : List SeatNo)
    (h : (attachedMember s seat).isSome = true) :
    doPresence seat (orderTaken seat rest s)
      = (orderTaken seat rest s,
          ⟨.done, le32 (BitVec.ofNat 32 (s.station.presence * 1000)).toNat⟩) := by
  rw [attachedMember, Option.isSome_map] at h
  obtain ⟨a, ha⟩ := Option.isSome_iff_exists.1 h
  have ht := orderTaken_attachment seat seat rest s
  rw [renewedAt, if_pos rfl, ha, Option.map_some] at ht
  rw [doPresence_attached ht]
  simp

/-- Settles O19: PRESENCE changes nothing behind its take, so that the frame of the act is that of the take
and of the close. -/
theorem presenceKeepsASeatAttached : Obligations.PresenceKeepsASeatAttached := by
  intro s seat rest h
  refine ⟨fun hm => ?_, fun hm => ?_⟩
  · exact ⟨_, execOrder_floor_kept h (doPresence_orderTaken rest hm) (by simp), by simp,
      orderClosed_renewed _ rfl,
      fun p hh ha => (orderTaken_kept seat rest s hh ha).trans (orderClosed_kept ..),
      orderClosed_answered seat _ (by simp)⟩
  · have hv : (orderTaken seat rest s).seats[seat].attachment = none := by
      rw [← attachedMember_orderTaken seat seat rest, attachedMember, Option.map_eq_none_iff] at hm
      exact hm
    exact execOrder_refused h (doPresence_vacant hv)

/-! ### The member image (R160, R176) -/

/-- R160: the memory shows a member's image at its place. -/
theorem memoryByte_member (s : State) (m : MemberNo) {i : Nat} (h : i < 32) :
    memoryByte s (0x0200 + 32 * m.val + i) = (memberImage s.members[m]).getD i 0 := by
  have hdiv : (0x0200 + 32 * m.val + i - 0x0200) / 32 = m.val := by omega
  have hmod : (0x0200 + 32 * m.val + i - 0x0200) % 32 = i := by omega
  rw [memoryByte, if_neg (by omega), if_pos (by omega), hdiv, hmod,
    List.getD_eq_getElem s.members.toList _ (by simp)]
  simp only [Vector.getElem_toList, Fin.getElem_fin]

/-- R176: an absent member's image shows 0 from byte 9 on. -/
theorem memberImage_none {i : Nat} (h : 9 ≤ i) : (memberImage none).getD i 0 = 0 := by
  rw [memberImage, padTo_getD, List.getD_eq_default _ _ (by simpa using h), ite_self]

/-- R176: bytes 20 to 23 of a present member's image are its used time in seconds. -/
theorem memberImage_used (r : Member) {j : Nat} (h : j < 4) :
    (memberImage (some r)).getD (20 + j) 0 = (le32 (r.used / 1000)).getD j 0 := by
  rw [memberImage, padTo_getD, if_pos (by omega),
    List.getD_append_right _ _ _ _ (by simp [le16])]
  simp [le16]

/-- R17, R176: a used time of 0 shows as 0. -/
theorem memoryByte_used_zero {t : State} {m : MemberNo} {o : Option Member}
    (h : t.members[m] = o.map fun r => { r with used := 0 }) (j : Fin 4) :
    memoryByte t (0x0200 + 32 * m.val + 20 + j.val) = 0 := by
  rw [Nat.add_assoc, memoryByte_member t m (by omega), h]
  cases o with
  | none => exact memberImage_none (by omega)
  | some r =>
    rw [Option.map_some, memberImage_used _ j.isLt]
    exact (by decide : ∀ j : Fin 4, (le32 (0 / 1000)).getD j.val 0 = 0) j

/-! ### DAY_ROLL (R17) -/

/-- R17: the member table behind a DAY_ROLL. -/
theorem doDayRoll_members (seat : SeatNo) (s : State) (m : MemberNo) :
    (doDayRoll seat s).1.members[m] = s.members[m].map fun r => { r with used := 0 } := by
  simp [doDayRoll]

/-- R17: a DAY_ROLL changes the members alone. -/
theorem doDayRoll_kept (seat : SeatNo) (s : State) {p : Part} (h : p ≠ .members) :
    Kept s (doDayRoll seat s).1 p := by
  cases p
  case members => exact absurd rfl h
  all_goals simp [Kept]

/-- Settles O22: the member image is a function of the members, so that it shows the used times of 0. -/
theorem dayRollStartsANewDay : Obligations.DayRollStartsANewDay := by
  intro s seat rest h
  refine ⟨fun ha => ?_, fun ha => ?_⟩
  · have hd : withAuthority doDayRoll seat (orderTaken seat rest s)
        = doDayRoll seat (orderTaken seat rest s) := withAuthority_of_authority (by simpa using ha)
    have hm (m : MemberNo) :
        (orderClosed s seat (answerWith s seat .done [])
          (doDayRoll seat (orderTaken seat rest s)).1).members[m]
            = s.members[m].map fun r => { r with used := 0 } := by
      simpa using doDayRoll_members seat (orderTaken seat rest s) m
    exact ⟨_, execOrder_floor_kept h hd (by simp), by simp, hm,
      fun m j => memoryByte_used_zero (hm m) j,
      orderClosed_renewed (rest := rest) _ (by simp),
      fun p hh hatt hmem => ((orderTaken_kept seat rest s hh hatt).trans
        (doDayRoll_kept seat _ hmem)).trans (orderClosed_kept ..),
      orderClosed_answered seat _ (by simp)⟩
  · exact execOrder_refused h (withAuthority_refused (by simpa using ha))

end Sys2Proof.Machine

/-! SUPPORT. BAND_REMOVE (R20): the band image, the grant computation over an empty plan, and what the order
does in each case of its checks. -/

namespace Sys2Proof.Machine

/-! ### The band image (R160, R176) -/

/-- R160: the memory shows a slot's image at its place. -/
theorem memoryByte_band (s : State) (i : SlotNo) {j : Nat} (h : j < 32) :
    memoryByte s (0x0800 + 32 * i.val + j) = (bandImage s.plan[i]).getD j 0 := by
  have hdiv : (0x0800 + 32 * i.val + j - 0x0800) / 32 = i.val := by omega
  have hmod : (0x0800 + 32 * i.val + j - 0x0800) % 32 = j := by omega
  rw [memoryByte, if_neg (by omega), if_neg (by omega), if_pos (by omega), hdiv, hmod,
    List.getD_eq_getElem s.plan.toList _ (by simp)]
  simp only [Vector.getElem_toList, Fin.getElem_fin]

/-- R20, R176: an empty slot's image entry reads as zero. -/
theorem memoryByte_band_empty {t : State} {i : SlotNo} (h : t.plan[i] = none) (j : Fin 32) :
    memoryByte t (0x0800 + 32 * i.val + j.val) = 0 := by
  rw [memoryByte_band t i j.isLt, h, bandImage, List.getD_replicate 0 j.isLt]

/-! ### The grant computation over an empty plan (R24, R25) -/

theorem presentSegments_empty {plan : Vector (Option Segment) 32}
    (h : ∀ j : SlotNo, plan[j] = none) : presentSegments plan = [] :=
  List.filterMap_eq_nil_iff.2 fun j _ => by rw [h j, Option.map_none]

/-- R25: with no present segment no run covers the span. -/
theorem spanRun_nil (grade : Nat) (mode : TxMode) (a b : Nat) :
    spanRun [] grade mode a b = .error .outOfPlan := rfl

/-- R24, R25: with no present segment stage 1 or stage 2 ends the computation, either with OUT_OF_PLAN. -/
theorem computeGrant_outOfPlan {t : State} (h : ∀ j : SlotNo, t.plan[j] = none) (m : MemberNo)
    (q : Request) : computeGrant (grantInputs t m) q = .refusal .outOfPlan := by
  have ha : admission (grantInputs t m) q = .error .outOfPlan := by
    unfold admission
    split
    · rfl
    · rw [grantInputs, presentSegments_empty h, spanRun_nil]
  rw [computeGrant, ha]

/-! ### BAND_REMOVE (R20) -/

/-- R19, R20: the floor states that admit a band edit. -/
theorem admitsBandEdit_iff (f : FloorState) :
    f.admitsBandEdit = true ↔ f = .idle ∨ f = .resting ∨ f = .panelHeld ∨ f = .shut := by
  cases f <;> simp [FloorState.admitsBandEdit]

/-- R20: a slot number above 31. -/
theorem doBandRemove_badSlot {seat : SeatNo} {s : State} (h : slotNo (bodyByte s seat 4) = none) :
    doBandRemove seat s = (s, plain .badField) := by
  simp only [doBandRemove, h]

/-- R20: a turn is in progress. -/
theorem doBandRemove_busy {seat : SeatNo} {s : State} {i : SlotNo}
    (h : slotNo (bodyByte s seat 4) = some i) (hf : s.floor.state.admitsBandEdit = false) :
    doBandRemove seat s = (s, plain .floorBusy) := by
  simp only [doBandRemove, h, hf, Bool.not_false, if_true]

/-- R20: the slot is empty already. -/
theorem doBandRemove_empty {seat : SeatNo} {s : State} {i : SlotNo}
    (h : slotNo (bodyByte s seat 4) = some i) (hf : s.floor.state.admitsBandEdit = true)
    (hp : s.plan[i] = none) : doBandRemove seat s = (s, plain .badField) := by
  simp only [doBandRemove, h, hf, hp, Bool.not_true, Bool.false_eq_true, if_false,
    Option.isNone_none, if_true]

/-- R20: every check passed. -/
theorem doBandRemove_present {seat : SeatNo} {s : State} {i : SlotNo}
    (h : slotNo (bodyByte s seat 4) = some i) (hf : s.floor.state.admitsBandEdit = true)
    (hp : s.plan[i] ≠ none) : doBandRemove seat s = (setSlot i none s, plain .done) := by
  have hn : s.plan[i].isNone = false := Option.isNone_eq_false_iff.2 (Option.isSome_iff_ne_none.2 hp)
  simp only [doBandRemove, h, hf, hn, Bool.not_true, Bool.false_eq_true, if_false]

/-- The take leaves the order cell's body as it was. -/
@[simp] theorem bodyByte_orderTaken (seat x : SeatNo) (rest : List SeatNo) (s : State) (n : Nat) :
    bodyByte (orderTaken seat rest s) x n = bodyByte s x n := by
  simp [bodyByte, cellByte]

/-- R20: the plan behind the act of a BAND_REMOVE that passed its checks. -/
theorem orderClosed_setSlot_plan (s : State) (seat : SeatNo) (rest : List SeatNo) (a : Answer)
    (i j : SlotNo) :
    (orderClosed s seat a (setSlot i none (orderTaken seat rest s))).plan[j]
      = if j = i then none else s.plan[j] := by
  simpa using setSlot_getElem i j none (orderTaken seat rest s)

/-- Settles O24: each check that fails leaves the state of the take; past them the slot is emptied, which the
band image and the grant computation then read from the plan. -/
theorem bandRemoveEmptiesASlot : Obligations.BandRemoveEmptiesASlot := by
  intro s seat rest h
  refine ⟨fun ha => ?unauthorised, fun ha hslot => ?badSlot, fun i ha hslot => ?slot⟩
  case unauthorised => exact execOrder_refused h (withAuthority_refused (by simpa using ha))
  all_goals
    have hd : withAuthority doBandRemove seat (orderTaken seat rest s)
        = doBandRemove seat (orderTaken seat rest s) := withAuthority_of_authority (by simpa using ha)
    rw [← bodyByte_orderTaken seat seat rest] at hslot
  case badSlot => exact execOrder_refused h (hd.trans (doBandRemove_badSlot hslot))
  case slot =>
    simp only [← admitsBandEdit_iff]
    split_ifs with hfree hempty
    · exact execOrder_refused h
        (hd.trans (doBandRemove_empty hslot (by simpa using hfree) (by simpa using hempty)))
    · have hdone := hd.trans
        (doBandRemove_present hslot (by simpa using hfree) (by simpa using hempty))
      refine ⟨_, execOrder_floor_kept h hdone (by simp), by simp,
        orderClosed_renewed (rest := rest) _ (by simp),
        orderClosed_setSlot_plan s seat rest _ i,
        memoryByte_band_empty ((orderClosed_setSlot_plan ..).trans (if_pos rfl)), by simp, by simp,
        orderClosed_answered seat _ (by simp), fun hlast => ?_⟩
      refine computeGrant_outOfPlan fun j => ?_
      rw [orderClosed_setSlot_plan]
      split
      · rfl
      · next hne => exact hlast j hne
    · exact execOrder_refused h (hd.trans (doBandRemove_busy hslot (by simpa using hfree)))

end Sys2Proof.Machine

/-! SUPPORT. The moves: everything the floor, the keying unit, the audio path, the identification and the bus do
within an act is a chain of a few moves, each of which keeps the laws of the field it writes. A law, or a frame,
is then proved once for the moves. -/

namespace Sys2Proof.Machine

/-- R37: a holder exactly in the states that have one. -/
def HolderMatches (s : State) : Prop := s.floor.holder.isSome = s.floor.state.hasHolder

/-- A change of a seat that leaves its attachment, its notices and its answer alone. -/
def FiguresOnly (f : Seat → Seat) : Prop :=
  ∀ r, (f r).attachment = r.attachment ∧ (f r).notices = r.notices ∧ (f r).answer = r.answer

/-- A change of the floor record that leaves its state and its holder alone, and a grant and a turn count to a
holder. -/
structure SameTurn (f g : Floor) : Prop where
  state  : g.state = f.state
  holder : g.holder = f.holder
  grant  : g.grant.isSome = f.grant.isSome ∨ g.grant.isSome = true ∧ g.holder.isSome = true
  count  : g.turnCount = f.turnCount ∨ g.holder.isSome = true

/-- What a floor state that is entered has to agree with: PTT_OUT (R130), the holder (R37), and for SHUT the
queue and the ID window (R68). -/
structure MayEnter (new : FloorState) (s : State) : Prop where
  keyed  : s.keying.state = .unkeyed ∨ new = .onAir ∨ new = .ident
    ∨ s.floor.state ≠ .onAir ∧ s.floor.state ≠ .ident
  holder : HolderMatches s → new.hasHolder = s.floor.holder.isSome
  shut   : new = .shut → s.queue = [] ∧ s.ident.window = false

/-- The floor record of a seat's new turn (R46). -/
def Floor.begun (f : Floor) (e : Entry) (g : Grant) : Floor :=
  { f with
    holder := some ⟨e.seat, e.member⟩, grant := some g, turnCount := 1, keyedMs := 0, keyDown := 0
    timeWarned := false, setupPlaced := false }

/-- A chain of moves. A turn's end and its beginning are moves of their own, up to the floor state that goes with
them: in between the holder and the state disagree. -/
inductive Moves : State → State → Prop
  | refl (s) : Moves s s
  | trans {s t u} (h : Moves s t) (h' : Moves t u) : Moves s u
  | tell (seat) (body : NoticeBody) (s) (h : body.kind ≠ 1) : Moves s (raise seat body s)
  | tellAll (body : NoticeBody) (s) (h : body.kind ≠ 1) : Moves s (raiseAll body s)
  | figures (seat) {f} (s) (h : FiguresOnly f) : Moves s (modSeat seat f s)
  | floor {f} (s) (h : SameTurn s.floor f) : Moves s (s.withFloor f)
  | queue {q} (s) (h : q.Sublist s.queue) : Moves s (s.withQueue q)
  | playout {p} (s) (h : PlayoutLaw s → PlayoutLaw (s.withPlayout p)) : Moves s (s.withPlayout p)
  | watch (w) (s) : Moves s (s.withWatch w)
  | ident {i} (s) (h : KeyingLaw s → IdentLaw s → IdentLaw (s.withIdent i)) : Moves s (s.withIdent i)
  | tone (x) (s) : Moves s (s.withTone x)
  | keying {k} (s) (h : s.pins.resetLow = false → KeyingLaw s → KeyingLaw (s.withKeying k))
      (hs : s.ident.sender.isSome = true → s.keying.state = .keyed → k.state = .keyed) :
      Moves s (s.withKeying k)
  | unkey (s) : Moves s (unkey s)
  | bus {b} (s) (h : BusLaw s → BusLaw (s.withBus b)) : Moves s (s.withBus b)
  | cellBack (n r reply s) : Moves s (returnBusCell n r reply s)
  | free (n) (s) : Moves s (s.withFree n)
  | state {new} (s) (h : MayEnter new s) : Moves s (setFloorState new s)
  | turnOver {s u t new} (before : Moves s u) (after : Moves (u.withFloor u.floor.cleared) t)
      (held : u.floor.state.hasHolder = true ∨ u.floor.holder.isSome = true)
      (state : t.floor.state = u.floor.state) (none : t.floor.holder = none)
      (unkeyed : t.keying.state = .unkeyed) (left : new.hasHolder = false)
      (shut : new = .shut → t.queue = [] ∧ t.ident.window = false) :
      Moves s (setFloorState new t)
  | turnBegun {s u t} {e : Entry} {g rest} (before : Moves s u) (head : u.queue = e :: rest)
      (idle : u.floor.state = .idle ∨ u.floor.state = .resting)
      (after : Moves ((u.withQueue rest).withFloor (u.floor.begun e g)) t)
      (state : t.floor.state = u.floor.state) (holder : t.floor.holder = some ⟨e.seat, e.member⟩) :
      Moves s (setFloorState .setting t)

/-! ### The queue and the work list -/

theorem noticePositions_moves (p : Nat) (l : List Entry) (s : State) : Moves s (noticePositions p l s) := by
  induction l generalizing p s with
  | nil => exact .refl s
  | cons e rest ih => exact (Moves.tell e.seat (.queue p) s (by simp [NoticeBody.kind])).trans (ih ..)

theorem entriesBefore_append_behind_sublist (seat : SeatNo) (q : List Entry) :
    (entriesBefore seat q ++ entriesBehind seat q).Sublist q := by
  conv_rhs => rw [← List.takeWhile_append_dropWhile (p := fun e => e.seat != seat) (l := q)]
  exact (List.Sublist.refl _).append (List.drop_sublist ..)

theorem removeEntry_moves (seat : SeatNo) (s : State) : Moves s (removeEntry seat s) := by
  unfold removeEntry
  exact ((Moves.queue s (entriesBefore_append_behind_sublist seat s.queue)).trans
    (.tell seat (.queue 0) _ (by decide))).trans (noticePositions_moves ..)

theorem endEntry_moves (c : EndCause) (d : EndDetail) (e : Entry) (s : State) :
    Moves s (endEntry c d e s) :=
  (Moves.tell e.seat _ s (by simp [NoticeBody.kind])).trans (removeEntry_moves ..)

theorem endEntries_moves (c : EndCause) (l : List Entry) (s : State) : Moves s (endEntries c l s) := by
  induction l generalizing s with
  | nil => exact .refl s
  | cons e rest ih => exact (endEntry_moves ..).trans (ih _)

/-- Clearing a queue from its head on leaves it empty. -/
theorem endEntries_queue (c : EndCause) {l : List Entry} {s : State} (h : s.queue = l) :
    (endEntries c l s).queue = [] := by
  induction l generalizing s with
  | nil => exact h
  | cons e rest ih =>
    unfold endEntries
    exact ih (by simp only [endEntry]; exact removeEntry_head (by simpa using h))

/-- A change of the work list and the believed setting that keeps the engine's fields keeps the bus law when the
sections and the transaction in flight stay lawful. -/
theorem BusLaw.work {s : State} {fl : List Txn} {pw : Option Txn} {fw : Option Txn} {b : Believed}
    (h : BusLaw s) (hopen : fw.isSome = s.bus.inFlight.isSome)
    (hleft : ∀ t, fw = some t → t.attempts < 4 ∧ t.losses < 16)
    (hfloor : ∀ t ∈ fl, t.owner.isFloor = true ∧ t.attempts = 0 ∧ t.losses = 0)
    (hpoll : ∀ t, pw = some t → t = newTxn .poll .status)
    (honce : pw.isSome = true → fw.any (fun t => t.owner == .poll) = false) :
    BusLaw (s.withBus { s.bus with floorWork := fl, pollWork := pw, inFlight := fw, believed := b }) where
  open_sending ho := by obtain ⟨he, hf⟩ := h.open_sending ho; exact ⟨he, hopen.trans hf⟩
  flight_left := hleft
  floor_fresh := hfloor
  cell_fresh := h.cell_fresh
  poll_fresh := hpoll
  poll_once := honce
  followed_following := h.followed_following
  hold_following := h.hold_following
  closed_done := h.closed_done
  unfollowed_listening := h.unfollowed_listening
  closed_passed := h.closed_passed
  closed_heard := h.closed_heard
  stuck_none he := by
    have hn : s.bus.inFlight = none := h.stuck_none he
    simpa [hn] using hopen

theorem placeFloorTxn_moves {o : Owner} (m : Message) (s : State) (ho : o.isFloor = true) :
    Moves s (placeFloorTxn o m s) := by
  refine .bus s fun h => ?_
  refine h.work rfl h.flight_left (fun t ht => ?_) h.poll_fresh h.poll_once
  rcases List.mem_append.1 ht with ht | ht
  · exact h.floor_fresh t ht
  · rw [List.mem_singleton.1 ht]
    exact ⟨ho, rfl, rfl⟩

theorem cancelSetup_moves (s : State) : Moves s (cancelSetup s) := by
  refine .bus s fun h => ?_
  refine h.work (by simp) (fun t ht => ?_) (fun t ht => h.floor_fresh t (List.mem_filter.1 ht).1)
    h.poll_fresh fun hp => ?_
  · obtain ⟨u, hu, rfl⟩ := Option.map_eq_some_iff.1 ht
    obtain ⟨ha, hl⟩ := h.flight_left u hu
    split <;> exact ⟨ha, hl⟩
  · have := h.poll_once hp
    cases hf : s.bus.inFlight with
    | none => simp
    | some u =>
      simp only [hf, Option.any_some, Option.map_some] at this ⊢
      split
      · rfl
      · exact this

theorem setBelieved_moves (b : Believed) (s : State) : Moves s (setBelieved b s) :=
  .bus s fun h => h.work rfl h.flight_left h.floor_fresh h.poll_fresh h.poll_once

theorem withdrawPoll_moves (s : State) : Moves s (withdrawPoll s) :=
  .bus s fun h => h.work rfl h.flight_left h.floor_fresh (by simp) (by simp)

theorem closeSetup_moves (c : EndCause) (s : State) : Moves s (closeSetup c s) := by
  unfold closeSetup
  simp only
  split
  · exact (cancelSetup_moves s).trans (placeFloorTxn_moves _ _ rfl)
  · exact cancelSetup_moves s

theorem raiseEnd_moves (c : EndCause) (d : EndDetail) (s : State) : Moves s (raiseEnd c d s) := by
  unfold raiseEnd
  split
  · exact .tell _ _ s (by simp [NoticeBody.kind])
  · exact .refl s

/-! ### Turns -/

/-- R59: a turn's end, up to the floor state that goes with it. -/
theorem endTurnCore_then {c : EndCause} {d : EndDetail} {new : FloorState} {s t : State}
    (after : Moves (endTurnCore c d s) t)
    (held : s.floor.state.hasHolder = true ∨ s.floor.holder.isSome = true)
    (state : t.floor.state = s.floor.state) (none : t.floor.holder = none)
    (unkeyed : t.keying.state = .unkeyed) (left : new.hasHolder = false)
    (shut : new = .shut → t.queue = [] ∧ t.ident.window = false) :
    Moves s (setFloorState new t) := by
  refine .turnOver (((Moves.unkey s).trans (closeSetup_moves c _)).trans (raiseEnd_moves c d _)) after
    (by simpa using held) (by simpa using state) none unkeyed left shut

/-- A floor state without a holder may be entered from IDLE and RESTING. -/
theorem mayEnter_of_idle {s : State} {new : FloorState}
    (h : s.floor.state = .idle ∨ s.floor.state = .resting) (hn : new.hasHolder = false)
    (hs : new ≠ .shut) : MayEnter new s where
  keyed := by rcases h with h | h <;> simp [h]
  holder hm := by
    unfold HolderMatches at hm
    rw [hm, hn]
    rcases h with h | h <;> simp [h, FloorState.hasHolder]
  shut e := absurd e hs

theorem identAsked_moves (b : Bool) (s : State) :
    Moves s (s.withFloor { s.floor with identAsked := b }) :=
  .floor s ⟨rfl, rfl, .inl rfl, .inl rfl⟩

/-- R64: what the entry into IDENT does before the state changes. -/
theorem enterIdent_eq (s : State) : ∃ t, enterIdent s = setFloorState .ident t ∧ Moves s t
    ∧ t.floor = { s.floor with identAsked := false } ∧ t.keying = s.keying
    ∧ t.queue = s.queue ∧ t.ident = s.ident := by
  refine ⟨_, rfl, ?_, ?_⟩
  · refine (identAsked_moves false s).trans ?_
    split
    · exact placeFloorTxn_moves _ _ rfl
    · exact .refl _
  · split <;> simp

theorem enterIdent_moves {s : State} (h : s.floor.state = .idle ∨ s.floor.state = .resting) :
    Moves s (enterIdent s) := by
  obtain ⟨t, he, hm, hf, -⟩ := enterIdent_eq s
  rw [he]
  exact hm.trans (.state t (mayEnter_of_idle (by simpa [hf] using h) rfl (by simp)))

theorem figuresOnly_begin : FiguresOnly fun r =>
    { r with counters := Counters.zero, saturated := false, criteria := Criteria.empty, warned := false } :=
  fun _ => ⟨rfl, rfl, rfl⟩

theorem beginTurnFigures_moves (seat : SeatNo) (s : State) : Moves s (beginTurnFigures seat s) :=
  (Moves.figures seat s figuresOnly_begin).trans (.watch _ _)

theorem lastMode_moves (m : TxMode) (s : State) :
    Moves s (s.withIdent { s.ident with lastMode := some m }) :=
  .ident s fun _ h => ⟨h.pending_window, h.overdue_pending, h.periodic_window, h.closing_window,
    h.grace_pending, h.sender_keyed, h.shut_queue, h.shut_window⟩

theorem makeHolder_moves {e : Entry} {rest : List Entry} (g : Grant) {s : State} (hq : s.queue = e :: rest)
    (h : s.floor.state = .idle ∨ s.floor.state = .resting) : Moves s (makeHolder e g s) := by
  have hr : (removeEntry e.seat s).withFloor (s.floor.begun e g)
      = noticePositions 1 rest (raise e.seat (.queue 0)
          ((s.withQueue rest).withFloor (s.floor.begun e g))) := by
    have key (f : Floor) (p : Nat) (l : List Entry) (u : State) :
        (noticePositions p l u).withFloor f = noticePositions p l (u.withFloor f) := by
      induction l generalizing p u with
      | nil => rfl
      | cons x xs ih => exact ih ..
    have hb : entriesBefore e.seat s.queue = [] := by simp [entriesBefore, hq]
    have hd : entriesBehind e.seat s.queue = rest := by simp [entriesBehind, hq]
    simp only [removeEntry, hb, hd, List.nil_append, List.length_nil, key]
    rfl
  unfold makeHolder
  simp only [removeEntry_frame]
  refine .turnBegun (rest := rest) (g := g) (.refl s) hq h ?_ (by simp) (by simp)
  refine .trans ?_ ((beginTurnFigures_moves ..).trans ((lastMode_moves ..).trans
    (.tell _ _ _ (by simp [NoticeBody.kind]))))
  change Moves _ ((removeEntry e.seat s).withFloor (s.floor.begun e g))
  rw [hr]
  exact (Moves.tell e.seat (.queue 0) _ (by decide)).trans (noticePositions_moves ..)

theorem endEntry_head_queue {c : EndCause} {d : EndDetail} {e : Entry} {rest : List Entry} {s : State}
    (h : s.queue = e :: rest) : (endEntry c d e s).queue = rest := by
  simp only [endEntry]
  exact removeEntry_head (by simpa using h)

theorem serveEntries_moves {l : List Entry} {s : State} (hq : s.queue = l)
    (h : s.floor.state = .idle ∨ s.floor.state = .resting) : Moves s (serveEntries l s) := by
  induction l generalizing s with
  | nil => exact .state s (mayEnter_of_idle h rfl (by simp))
  | cons e rest ih =>
    unfold serveEntries
    split
    · exact (endEntry_moves ..).trans (ih (endEntry_head_queue hq) (by simpa using h))
    · exact .state s (mayEnter_of_idle h rfl (by simp))
    · exact makeHolder_moves _ hq h

theorem serve_moves {s : State} (h : s.floor.state = .idle ∨ s.floor.state = .resting) :
    Moves s (serve s) := by
  unfold serve
  split
  · exact .state s (mayEnter_of_idle h rfl (by simp))
  · split
    · exact enterIdent_moves h
    · exact serveEntries_moves rfl h

/-- R44: IDLE is entered where it may be. -/
theorem enterIdle_moves {s : State} (h : MayEnter .idle s) : Moves s (enterIdle s) :=
  (Moves.state s h).trans (serve_moves (.inl (by simp)))

theorem queueChanged_moves (s : State) : Moves s (queueChanged s) := by
  unfold queueChanged
  split
  · next h => exact serve_moves h
  · exact .refl s

@[simp] theorem endTurnCore_unkeyed (c : EndCause) (d : EndDetail) (s : State) :
    (endTurnCore c d s).keying.state = .unkeyed := by
  simp [endTurnCore]

theorem endTurn_moves {c : EndCause} {d : EndDetail} {s : State}
    (held : s.floor.state.hasHolder = true ∨ s.floor.holder.isSome = true) : Moves s (endTurn c d s) :=
  (endTurnCore_then (.refl _) held (by simp [Floor.cleared]) (by simp [Floor.cleared]) (by simp) rfl
    (by simp)).trans (serve_moves (.inl (by simp)))

theorem endTurnToIdent_moves {s : State}
    (held : s.floor.state.hasHolder = true ∨ s.floor.holder.isSome = true) : Moves s (endTurnToIdent s) := by
  obtain ⟨t, he, hm, hf, hk, -⟩ := enterIdent_eq (endTurnCore .released .none s)
  unfold endTurnToIdent
  rw [he]
  exact endTurnCore_then hm held (by simp [hf, Floor.cleared]) (by simp [hf, Floor.cleared])
    (by simp [hk]) rfl (by simp)

theorem floorDetached_moves (seat : SeatNo) (c : EndCause) (s : State) :
    Moves s (floorDetached seat c s) := by
  have hfirst : Moves s (if holderSeat s = some seat then endTurn c .none s else s) := by
    split
    · next h =>
      refine endTurn_moves (.inr ?_)
      unfold holderSeat at h
      cases hh : s.floor.holder <;> simp [hh] at h ⊢
    · exact .refl s
  unfold floorDetached
  simp only
  split
  · exact hfirst.trans ((endEntry_moves ..).trans (queueChanged_moves _))
  · exact hfirst

theorem equipmentReport_moves (d : EquipDetail) (s : State) : Moves s (equipmentReport d s) := by
  unfold equipmentReport
  split
  · next h => exact endTurn_moves (.inl (by simp [h, FloorState.hasHolder]))
  · exact .refl s

/-! ### Keying fields that no law reads -/

/-- A change of the keying record that leaves its state alone keeps the keying law. -/
theorem keying_moves {k : Keying} (s : State) (h : k.state = s.keying.state) : Moves s (s.withKeying k) :=
  .keying s (fun _ l => ⟨by simpa [h] using l.floor, by simpa [h] using l.serving,
      by simpa [h] using l.inhibit, by simpa [h] using l.reset⟩)
    fun _ hk => by rw [h, hk]

theorem ampOutOfService_moves (s : State) : Moves s (ampOutOfService s) := keying_moves s rfl

theorem takeAmpFault_moves (s : State) : Moves s (takeAmpFault s) :=
  ((Moves.unkey s).trans (ampOutOfService_moves _)).trans (equipmentReport_moves _ _)

/-! ### The link watch and the playout queue -/

theorem figuresOnly_count (wrap : Bool) (n : CounterName) : FiguresOnly (Seat.count wrap n) := by
  intro r
  unfold Seat.count
  (repeat' split) <;> exact ⟨rfl, rfl, rfl⟩

theorem raiseCounter_moves (seat : SeatNo) (n : CounterName) (s : State) :
    Moves s (raiseCounter seat n s) := .figures seat s (figuresOnly_count _ n)

theorem raiseHolderCounter_moves (n : CounterName) (s : State) : Moves s (raiseHolderCounter n s) := by
  unfold raiseHolderCounter
  split
  · exact raiseCounter_moves ..
  · exact .refl s

theorem restartWindow_moves (s : State) : Moves s (restartWindow s) := .watch _ s

theorem addCriterion_moves (c : Criterion) (s : State) : Moves s (addCriterion c s) := by
  unfold addCriterion
  simp only
  split
  · exact (Moves.watch _ s).trans (.figures _ _ fun _ => ⟨rfl, rfl, rfl⟩)
  · exact .watch _ s

theorem stall_moves {s : State} (h : s.floor.state = .onAir) : Moves s (stall s) := by
  have hh : s.floor.state.hasHolder = true := by simp [h, FloorState.hasHolder]
  unfold stall
  simp only
  split
  · exact (Moves.unkey s).trans (endTurn_moves (.inl (by simpa using hh)))
  · refine ((Moves.unkey s).trans (.floor _ ?_)).trans (.state _ ⟨.inl (by simp), fun hm => ?_, by simp⟩)
    · exact ⟨rfl, rfl, .inl rfl, .inl rfl⟩
    · have : s.floor.holder.isSome = s.floor.state.hasHolder := by simpa [HolderMatches] using hm
      simp [this, h, FloorState.hasHolder]

theorem criterionMet_moves (c : Criterion) (s : State) : Moves s (criterionMet c s) := by
  unfold criterionMet
  split
  · split
    · next hw =>
      have ho : s.floor.state = .onAir := by simp [watching] at hw; exact hw.1.1.1
      exact ((addCriterion_moves c s).trans (restartWindow_moves _)).trans (stall_moves (by simpa using ho))
    · split
      · exact addCriterion_moves c s
      · exact .refl s
  · exact .refl s

theorem disorderSeen_moves (s : State) : Moves s (disorderSeen s) := by
  unfold disorderSeen
  simp only
  split
  · split
    · exact (Moves.watch _ s).trans (criterionMet_moves ..)
    · exact .watch _ s
  · exact .refl s

theorem countStep_moves (s : State) : Moves s (countStep s) := by
  unfold countStep
  split
  · exact restartWindow_moves s
  · exact .watch _ s

theorem linkWarning_moves (s : State) : Moves s (linkWarning s) := by
  unfold linkWarning
  split
  · simp only
    split
    · refine .trans ?_ (.tell _ _ _ (by simp [NoticeBody.kind]))
      exact .trans (.watch _ s) (.figures _ _ fun _ => ⟨rfl, rfl, rfl⟩)
    · exact .watch _ s
  · exact .refl s

theorem watchStep_moves (silent : Bool) (s : State) : Moves s (watchStep silent s) := by
  unfold watchStep
  split
  · simp only
    split
    · split
      · exact ((countStep_moves s).trans (linkWarning_moves _)).trans (criterionMet_moves ..)
      · exact (countStep_moves s).trans (linkWarning_moves _)
    · exact countStep_moves s
  · exact .refl s

/-- A change of the playout record that leaves the frames, the playout point and the two runs alone keeps the
law of the playout queue. -/
theorem playout_moves {p : Playout} (s : State) (hf : p.frames = s.playout.frames)
    (hn : p.np = s.playout.np) (he : p.earlyRun = s.playout.earlyRun)
    (ht : p.trimRun = s.playout.trimRun ∨ p.trimRun = 0) : Moves s (s.withPlayout p) := by
  refine .playout s fun h => ⟨?_, ?_, ?_, ?_, ?_⟩
  · simpa [hf, hn] using h.no_point
  · simpa [hf, hn] using h.window
  · simpa [hf] using h.distinct
  · simpa [he] using h.early
  · have := h.trim
    rcases ht with ht | ht <;> simp [ht, this]

theorem finishStep_moves (s : State) : Moves s (finishStep s) := by
  unfold finishStep
  split
  · exact playout_moves s rfl rfl rfl (.inl rfl)
  · exact .refl s

/-- The sequence numbers from `np` + 1 on lie one nearer to the next playout point. -/
theorem seq_sub_succ {a np : BitVec 16} (hne : a ≠ np) (h : (a - np).toNat < 16) :
    (a - (np + 1)).toNat < 16 := by
  have : a - np ≠ 0 := fun e => hne (by bv_omega)
  bv_omega

/-- The frames left by a step, or by a trim, lie in the window of the next playout point. -/
theorem PlayoutLaw.drop {s : State} {np : BitVec 16} {p : Playout} (h : PlayoutLaw s)
    (hnp : s.playout.np = some np)
    (hf : ∀ f ∈ p.frames, f ∈ s.playout.frames ∧ f.seq ≠ np) (hs : p.frames.Sublist s.playout.frames)
    (hn : p.np = some (np + 1)) (he : p.earlyRun = s.playout.earlyRun)
    (ht : p.trimRun = s.playout.trimRun ∨ p.trimRun = 0) : PlayoutLaw (s.withPlayout p) where
  no_point e := by simp [hn] at e
  window x hx f hm := by
    obtain ⟨hmem, hne⟩ := hf f hm
    obtain rfl : np + 1 = x := by simpa [hn] using hx
    exact seq_sub_succ hne (h.window np hnp f hmem)
  distinct := h.distinct.sublist (hs.map _)
  early := by simpa [he] using h.early
  trim := by
    have := h.trim
    rcases ht with ht | ht <;> simp [ht, this]

theorem Playout.drop_mem {p : Playout} {np : BitVec 16} {f : Frame} (h : f ∈ (p.drop np).frames) :
    f ∈ p.frames ∧ f.seq ≠ np := by
  simpa [Playout.drop] using h

theorem Playout.drop_sublist (p : Playout) (np : BitVec 16) : (p.drop np).frames.Sublist p.frames :=
  List.filter_sublist

/-- R91: the step that plays, or misses, the frame of np, with np going on by one. -/
theorem playFrame_moves {np : BitVec 16} {s : State} (hnp : s.playout.np = some np) :
    Moves s ((playFrame np s).withPlayout { (playFrame np s).playout with np := some (np + 1) }) := by
  unfold playFrame
  split
  · refine .playout s fun h => h.drop hnp (fun f hf => ?_) ?_ rfl rfl (.inl rfl)
    · exact Playout.drop_mem hf
    · exact Playout.drop_sublist ..
  · next hnone =>
    simp only
    refine Moves.trans ?_ (.playout _ fun h => ?_)
    · exact .trans (playout_moves s (by rfl) (by rfl) (by rfl) (.inl (by rfl)))
        (raiseHolderCounter_moves ..)
    · refine h.drop (by simpa using hnp) (fun f hf => ⟨hf, fun e => ?_⟩) (.refl _) rfl rfl (.inl rfl)
      have := List.find?_eq_none.1 hnone f (by simpa using hf)
      simp [e] at this

theorem trimFrame_moves (s : State) : Moves s (trimFrame s) := by
  unfold trimFrame
  split
  · next np hnp =>
    refine .trans (.playout s fun h => ?_) (raiseHolderCounter_moves ..)
    exact h.drop hnp (fun f hf => Playout.drop_mem hf) (Playout.drop_sublist ..) rfl rfl (.inr rfl)
  · exact .refl s

theorem trimTest_moves (s : State) : Moves s (trimTest s) := by
  unfold trimTest
  split
  · split
    · exact trimFrame_moves s
    · next hr =>
      exact .playout s fun h => ⟨h.no_point, h.window, h.distinct, h.early, by
        simp only [withPlayout_playout]; omega⟩
  · exact playout_moves s rfl rfl rfl (.inr rfl)

theorem playoutStep_moves (s : State) : Moves s (playoutStep s) := by
  unfold playoutStep
  split
  · exact .refl s
  · next np hnp =>
    split
    · have hf : (finishStep s).playout.np = some np := by
        unfold finishStep
        split <;> simpa using hnp
      exact (((finishStep_moves s).trans (playFrame_moves hf)).trans (trimTest_moves _)).trans
        (watchStep_moves ..)
    · exact .refl s

/-! ### The key request -/

theorem openWindow_moves {s : State} (h : s.floor.state ≠ .shut) : Moves s (openWindow s) := by
  unfold openWindow
  split
  · exact .refl s
  · exact .ident s fun _ l => ⟨fun _ => rfl, l.overdue_pending, fun _ => rfl, fun _ => rfl,
      l.grace_pending, l.sender_keyed, l.shut_queue, fun e => absurd e h⟩

/-- A callsign may be sent while KEYED. -/
theorem sender_moves {s : State} {x : Option Sender}
    (h : x.isSome = true → s.keying.state = .keyed ∨ s.ident.sender.isSome = true) :
    Moves s (s.withIdent { s.ident with sender := x }) :=
  .ident s fun _ l => ⟨l.pending_window, l.overdue_pending, l.periodic_window, l.closing_window,
    l.grace_pending, fun e => (h e).elim id l.sender_keyed, l.shut_queue, l.shut_window⟩

theorem maybeOverlay_moves (s : State) : Moves s (maybeOverlay s) := by
  unfold maybeOverlay
  split
  · next h =>
    refine sender_moves fun _ => .inl ?_
    simp only [stepsMade, Bool.and_eq_true, beq_iff_eq] at h
    obtain ⟨⟨-, ⟨-, hk⟩, -⟩, -⟩ := h
    exact hk
  · exact .refl s

/-- R131: what the entry into KEYED does before its news. -/
theorem keyed_moves {s : State} (h : s.keying.state ≠ .unkeyed) :
    Moves s ((s.withKeying { s.keying with state := .keyed, lead := none }).withPlayout
      { s.playout with u := 0, carriedKey := false, timer := some 20 }) := by
  refine .trans (.keying s (fun _ l => ?_) fun _ _ => rfl) (playout_moves _ rfl rfl rfl (.inl rfl))
  exact ⟨fun _ => l.floor h, fun _ => l.serving h, fun _ => l.inhibit h, fun _ => l.reset h⟩

/-- R131: the news of the entry into KEYED, by the floor state. -/
def keyedNews (s : State) : State :=
  match s.floor.state with
  | .ident => startIdentSender s
  | .onAir =>
    if grantIsTune s then startTuneTone s
    else
      let s := maybeOverlay s
      let s := if watching s then restartWindow s else s
      playoutStep s
  | _ => s

/-- R131: the entry into KEYED is the record's change, then the news. -/
theorem enterKeyed_eq (s : State) : enterKeyed s
    = keyedNews ((s.withKeying { s.keying with state := .keyed, lead := none }).withPlayout
        { s.playout with u := 0, carriedKey := false, timer := some 20 }) := rfl

theorem keyedNews_moves {s : State} (h : s.keying.state = .keyed) : Moves s (keyedNews s) := by
  unfold keyedNews
  split
  · exact sender_moves fun _ => .inl h
  · split
    · exact .tone _ _
    · refine (maybeOverlay_moves _).trans (.trans ?_ (playoutStep_moves _))
      split
      · exact restartWindow_moves _
      · exact .refl _
  · exact .refl _

theorem enterKeyed_moves {s : State} (h : s.keying.state ≠ .unkeyed) : Moves s (enterKeyed s) := by
  rw [enterKeyed_eq]
  exact (keyed_moves h).trans (keyedNews_moves (by simp))

theorem assertPtt_moves {s : State} (h : mayKey s = true) : Moves s (assertPtt s) := by
  simp only [mayKey, Bool.and_eq_true, Bool.or_eq_true, beq_iff_eq, Bool.not_eq_true'] at h
  obtain ⟨⟨⟨hk, hf⟩, hm⟩, hi⟩ := h
  have hns : s.floor.state ≠ .shut := by rcases hf with hf | hf <;> simp [hf]
  have key (k : Keying) : Moves (openWindow s) ((openWindow s).withKeying k) :=
    .keying _ (fun hr _ => ⟨fun _ => by simpa using hf, fun _ => by simpa using hm,
      fun _ => by simpa using hi, fun _ => by simpa using hr⟩) fun _ e => by simp [hk] at e
  unfold assertPtt
  simp only
  split <;> exact (openWindow_moves hns).trans (key _)

theorem keyRequest_moves (s : State) : Moves s (keyRequest s) := by
  unfold keyRequest
  split
  · next h =>
    refine (assertPtt_moves h).trans ?_
    simp only
    split
    · exact takeAmpFault_moves _
    · split
      · next hk => exact enterKeyed_moves (by simp [hk])
      · exact .refl _
  · exact .refl s

/-! ### The floor's answers -/

theorem floorTimers_moves {s : State} {f : Floor} (hs : f.state = s.floor.state)
    (hh : f.holder = s.floor.holder) (hg : f.grant = s.floor.grant)
    (hc : f.turnCount = s.floor.turnCount) : Moves s (s.withFloor f) :=
  .floor s ⟨hs, hh, .inl (by rw [hg]), .inl hc⟩

/-- A state with a holder may be entered from one off the air. -/
theorem mayEnter_of_held {s : State} {new : FloorState} (h : s.floor.state.hasHolder = true)
    (hn : new.hasHolder = true)
    (hk : s.keying.state = .unkeyed ∨ new = .onAir ∨ s.floor.state ≠ .onAir) : MayEnter new s where
  keyed := by
    rcases hk with hk | hk | hk
    · exact .inl hk
    · exact .inr (.inl hk)
    · exact .inr (.inr (.inr ⟨hk, fun e => by simp [e, FloorState.hasHolder] at h⟩))
  holder hm := by rw [hm, h, hn]
  shut e := by simp [e, FloorState.hasHolder] at hn

theorem enterGranted_moves {s : State} (h : s.floor.state.hasHolder = true)
    (ho : s.floor.state ≠ .onAir) : Moves s (enterGranted s) :=
  .trans (floorTimers_moves (by rfl) (by rfl) (by rfl) (by rfl))
    (.state _ (mayEnter_of_held (by simpa using h) rfl (.inr (.inr (by simpa using ho)))))

theorem enterOnAir_moves {s : State} (h : s.floor.state.hasHolder = true) : Moves s (enterOnAir s) :=
  .trans (.trans (floorTimers_moves (by rfl) (by rfl) (by rfl) (by rfl))
    (.state _ (mayEnter_of_held (by simpa using h) rfl (.inr (.inl rfl))))) (keyRequest_moves _)

theorem startThreshold_moves (s : State) : Moves s (startThreshold s) := by
  unfold startThreshold
  split
  · next h => exact enterOnAir_moves (by simp [h, FloorState.hasHolder])
  · next h => exact enterOnAir_moves (by simp [h, FloorState.hasHolder])
  · exact .refl s

theorem setupComplete_moves {s : State} (h : s.floor.state.hasHolder = true)
    (ho : s.floor.state ≠ .onAir) : Moves s (setupComplete s) := by
  unfold setupComplete
  split
  · exact enterOnAir_moves h
  · exact enterGranted_moves h ho

/-! ### The take of an audio cell -/

theorem insertFrame_moves {seat : SeatNo} {f : Frame} {s : State} {p : Playout}
    (h : PlayoutLaw s → PlayoutLaw (s.withPlayout { p with frames := p.frames ++ [f] })) :
    Moves s (insertFrame seat f (s.withPlayout p)) :=
  (Moves.playout s h).trans (raiseCounter_moves ..)

theorem reportThreshold_moves (s : State) : Moves s (reportThreshold s) := by
  unfold reportThreshold
  split
  · exact startThreshold_moves s
  · exact .refl s

/-- The first frame of a stream, or of a resynced one. -/
theorem PlayoutLaw.single {s : State} {f : Frame} {p : Playout} (h : PlayoutLaw s)
    (hf : p.frames = [f]) (hn : p.np = some f.seq)
    (he : p.earlyRun = s.playout.earlyRun ∨ p.earlyRun = 0) (ht : p.trimRun = s.playout.trimRun) :
    PlayoutLaw (s.withPlayout p) where
  no_point e := by simp [hn] at e
  window x hx g hg := by
    obtain rfl : f.seq = x := by simpa [hn] using hx
    obtain rfl : g = f := by simpa [hf] using hg
    simp
  distinct := by simp [hf]
  early := by
    have := h.early
    rcases he with he | he <;> simp [he, this]
  trim := by simpa [ht] using h.trim

theorem resyncStream_moves (seat : SeatNo) (f : Frame) (s : State) : Moves s (resyncStream seat f s) :=
  have h : Moves s (insertFrame seat f
      (s.withPlayout { s.playout with frames := [], np := some f.seq, earlyRun := 0 })) :=
    insertFrame_moves fun h => h.single rfl rfl (.inr rfl) rfl
  h.trans (raiseCounter_moves ..)

theorem resyncReports_moves (s : State) : Moves s (resyncReports s) := by
  unfold resyncReports
  split
  · simp only
    refine .trans (.free (s.free + 1) s) ?_
    split
    · exact (criterionMet_moves ..).trans (startThreshold_moves _)
    · exact (startThreshold_moves _).trans (criterionMet_moves ..)
  · exact criterionMet_moves ..

/-- R87: a frame within the window that is not held yet joins the queue. -/
theorem PlayoutLaw.insert {s : State} {f : Frame} {np : BitVec 16} (h : PlayoutLaw s)
    (hnp : s.playout.np = some np) (hd : (f.seq - np).toNat < 16)
    (hh : s.playout.holds f.seq = false) :
    PlayoutLaw (s.withPlayout
      { s.playout with earlyRun := 0, frames := s.playout.frames ++ [f] }) where
  no_point e := by simp [hnp] at e
  window x hx g hg := by
    obtain rfl : np = x := by simpa [hnp] using hx
    rcases List.mem_append.1 hg with hg | hg
    · exact h.window np hnp g hg
    · rwa [List.mem_singleton.1 hg]
  distinct := by
    have hne : ∀ g ∈ s.playout.frames, g.seq ≠ f.seq := by simpa [Playout.holds] using hh
    simp only [withPlayout_playout, List.map_append, List.map_cons, List.map_nil]
    rw [List.nodup_append]
    refine ⟨h.distinct, by simp, fun a ha b hb => ?_⟩
    obtain ⟨g, hg, rfl⟩ := List.mem_map.1 ha
    rw [List.mem_singleton.1 hb]
    exact hne g hg
  early := by simp
  trim := h.trim

theorem placeFrame_moves (seat : SeatNo) (f : Frame) (s : State) : Moves s (placeFrame seat f s) := by
  unfold placeFrame
  split
  · next hnp =>
    refine (insertFrame_moves fun h => ?_).trans (reportThreshold_moves _)
    exact h.single (by simp [h.no_point hnp]) rfl (.inl rfl) rfl
  · next np hnp =>
    simp only
    split
    · exact (raiseCounter_moves ..).trans (disorderSeen_moves _)
    · split
      · split
        · exact (resyncStream_moves ..).trans (resyncReports_moves _)
        · next he =>
          refine (Moves.trans (.playout s fun h => ?_) (raiseCounter_moves ..)).trans (disorderSeen_moves _)
          exact ⟨h.no_point, h.window, h.distinct, by simp only [withPlayout_playout]; omega, h.trim⟩
      · next hd =>
        split
        · exact (raiseCounter_moves ..).trans (disorderSeen_moves _)
        · next hh =>
          refine (insertFrame_moves fun h => ?_).trans (reportThreshold_moves _)
          exact h.insert hnp (by omega) (by simpa using hh)

/-! ### Setups and the floor's events -/

theorem placeSetup_moves (items : List Message) (s : State) : Moves s (placeSetup items s) := by
  refine (floorTimers_moves (f := { s.floor with setupPlaced := true }) rfl rfl rfl rfl).trans
    (.bus _ fun h => ?_)
  refine h.work rfl h.flight_left (fun t ht => ?_) h.poll_fresh h.poll_once
  rcases List.mem_append.1 ht with ht | ht
  · exact h.floor_fresh t ht
  · obtain ⟨m, -, rfl⟩ := List.mem_map.1 ht
    exact ⟨rfl, rfl, rfl⟩

theorem setUp_moves (s : State) : Moves s (setUp s) := by
  unfold setUp
  split
  · exact .refl s
  · split
    · next hm =>
      have hs : s.floor.state = .setting := by
        simp only [maySetUp, Bool.and_eq_true, beq_iff_eq] at hm
        obtain ⟨⟨⟨hs, -⟩, -⟩, -⟩ := hm
        exact hs
      simp only
      split
      · exact (placeSetup_moves _ s).trans (setupComplete_moves
          (by simp [placeSetup, hs, FloorState.hasHolder]) (by simp [placeSetup, hs]))
      · exact placeSetup_moves _ s
    · exact .refl s

theorem finishSetup_moves (before s : State) : Moves s (finishSetup before s) :=
  finishSetup_induct (P := Moves s) (.refl s) fun t h => h.trans (setUp_moves t)

theorem startWaitExpired_moves (s : State) : Moves s (startWaitExpired s) := by
  unfold startWaitExpired
  split
  · next h => exact endTurn_moves (.inl (by simp [h.1, FloorState.hasHolder]))
  · exact .refl s

theorem keyDownExpired_moves (s : State) : Moves s (keyDownExpired s) := by
  unfold keyDownExpired
  split
  · split
    · next h => exact endTurn_moves (.inl (by simp [h, FloorState.hasHolder]))
    · exact .refl s
  · exact .refl s

theorem timeWarning_moves (s : State) : Moves s (timeWarning s) := by
  unfold timeWarning
  split
  · split
    · exact (floorTimers_moves (f := { s.floor with timeWarned := true }) rfl rfl rfl rfl).trans
        (.tell _ _ _ (by decide))
    · exact .refl s
  · exact .refl s

theorem hangExpired_moves (s : State) : Moves s (hangExpired s) := by
  unfold hangExpired
  split
  · next h => exact endTurn_moves (.inl (by simp [h.1, FloorState.hasHolder]))
  · exact .refl s

theorem rejoinExpired_moves (s : State) : Moves s (rejoinExpired s) := by
  unfold rejoinExpired
  split
  · next h => exact endTurn_moves (.inl (by simp [h.1, FloorState.hasHolder]))
  · exact .refl s

theorem askIdent_moves (s : State) : Moves s (askIdent s) := by
  unfold askIdent
  split
  · exact (identAsked_moves true s).trans (keyRequest_moves _)
  · exact .refl s

/-! ### The events of the audio path -/

theorem leadExpired_moves (s : State) : Moves s (leadExpired s) := by
  unfold leadExpired
  split
  · next h => exact enterKeyed_moves (by simp [h])
  · exact .refl s

theorem playoutExpired_moves (s : State) : Moves s (playoutExpired s) := by
  unfold playoutExpired
  split
  · exact .trans (playout_moves s (by rfl) (by rfl) (by rfl) (.inl (by rfl))) (playoutStep_moves _)
  · exact .refl s

theorem trimReached_moves (s : State) : Moves s (trimReached s) := by
  unfold trimReached
  split
  · exact trimFrame_moves s
  · exact .refl s

theorem windowEnd_moves (s : State) : Moves s (windowEnd s) := by
  unfold windowEnd
  split
  · exact restartWindow_moves s
  · exact .refl s

theorem cwTransition_moves (s : State) : Moves s (cwTransition s) := by
  unfold cwTransition
  split
  · split
    · exact playout_moves s rfl rfl rfl (.inl rfl)
    · exact .refl s
  · exact .refl s

/-! ### The events of the identification -/

theorem graceExpired_moves (s : State) : Moves s (graceExpired s) := by
  unfold graceExpired
  split
  · next hg =>
    refine Moves.trans (.ident s fun _ l => ?_) (maybeOverlay_moves _)
    exact ⟨l.pending_window, fun _ => l.grace_pending hg, l.periodic_window, l.closing_window,
      by simp, l.sender_keyed, l.shut_queue, l.shut_window⟩
  · exact .refl s

theorem idPendingReport_moves (s : State) : Moves s (idPendingReport s) := by
  unfold idPendingReport
  split
  · next h => exact serve_moves (.inl h)
  · next h => exact serve_moves (.inr h)
  · next h => exact endTurnToIdent_moves (.inl (by simp [h, FloorState.hasHolder]))
  · exact .refl s

/-- R117: an ID becomes pending behind a timer that ran, and so with the window open. -/
theorem becomePending_moves {s : State} {i : Ident} (h : IdentLaw s → i.window = true)
    (hi : KeyingLaw s → IdentLaw s → IdentLaw (s.withIdent i)) :
    Moves s (becomePending (s.withIdent i)) := by
  unfold becomePending
  split
  · exact .ident s hi
  · refine Moves.trans ?_ (idPendingReport_moves _)
    simp only
    split
    · refine Moves.trans (.ident s fun k l => ?_) (maybeOverlay_moves _)
      have li := hi k l
      exact ⟨fun _ => h l, fun _ => rfl, li.periodic_window, li.closing_window, by simp,
        li.sender_keyed, li.shut_queue, li.shut_window⟩
    · refine .ident s fun k l => ?_
      have li := hi k l
      exact ⟨fun _ => h l, fun _ => rfl, li.periodic_window, li.closing_window, fun _ => rfl,
        li.sender_keyed, li.shut_queue, li.shut_window⟩

theorem periodicExpired_moves (s : State) : Moves s (periodicExpired s) := by
  unfold periodicExpired
  split
  · next hp =>
    exact becomePending_moves (fun l => l.periodic_window hp) fun _ l =>
      ⟨l.pending_window, l.overdue_pending, by simp, l.closing_window, l.grace_pending,
        l.sender_keyed, l.shut_queue, l.shut_window⟩
  · exact .refl s

theorem closingExpired_moves (s : State) : Moves s (closingExpired s) := by
  unfold closingExpired
  split
  · next hp =>
    exact becomePending_moves (fun l => l.closing_window hp) fun _ l =>
      ⟨l.pending_window, l.overdue_pending, l.periodic_window, by simp, l.grace_pending,
        l.sender_keyed, l.shut_queue, l.shut_window⟩
  · exact .refl s

theorem closeWindow_moves (s : State) : Moves s (closeWindow s) :=
  .ident s fun _ l => ⟨by simp, by simp, by simp, by simp, by simp, l.sender_keyed,
    l.shut_queue, fun _ => rfl⟩

theorem quietSender_moves (s : State) : Moves s (quietSender s) := sender_moves (by simp)

theorem raiseIdentNotice_moves (snd : Sender) (s : State) : Moves s (raiseIdentNotice snd s) :=
  .tellAll _ s (by simp [NoticeBody.kind])

theorem identDone_moves {snd : Sender} {s : State} (h : s.floor.state = .ident) :
    Moves s (identDone snd s) := by
  unfold identDone
  simp only
  refine ((((quietSender_moves s).trans (closeWindow_moves _)).trans
    (raiseIdentNotice_moves snd _)).trans (.unkey _)).trans (enterIdle_moves ⟨.inl (by simp), ?_, by simp⟩)
  intro hm
  have : s.floor.holder.isSome = s.floor.state.hasHolder := by simpa [HolderMatches] using hm
  simp [this, h, FloorState.hasHolder]

theorem idComplete_moves (s : State) : Moves s (idComplete s) := by
  unfold idComplete
  split
  · split
    · next h => exact identDone_moves h.1
    · exact .refl s
  · exact .refl s

/-- R122: an overlay's window closes and opens anew; its sender ran, so that the floor is not SHUT. -/
theorem overlayWindow_moves {s : State} (h : s.ident.sender.isSome = true) :
    Moves s (openWindow (closeWindow (quietSender s))) := by
  refine .ident s fun k l => ⟨by simp [closeWindow], by simp [closeWindow], fun _ => rfl, fun _ => rfl,
    by simp [closeWindow], by simp [closeWindow, quietSender], l.shut_queue, fun e => ?_⟩
  have hk := l.sender_keyed h
  have e' : s.floor.state = .shut := e
  rcases k.floor (by simp [hk]) with hf | hf <;> simp [hf] at e'

theorem overlayDone_moves {snd : Sender} {s : State} (h : s.ident.sender.isSome = true) :
    Moves s (overlayDone snd s) := by
  unfold overlayDone
  simp only
  refine ((overlayWindow_moves h).trans (raiseIdentNotice_moves snd _)).trans ?_
  split
  · exact restartWindow_moves _
  · exact .refl _

theorem overlayComplete_moves (s : State) : Moves s (overlayComplete s) := by
  unfold overlayComplete
  split
  · next h =>
    split
    · exact overlayDone_moves (by simp [h])
    · exact .refl s
  · exact .refl s

theorem elementEnd_moves (s : State) : Moves s (elementEnd s) := by
  unfold elementEnd
  split
  · next h =>
    split
    · exact sender_moves fun _ => .inr (by simp [h])
    · split
      · exact overlayComplete_moves s
      · exact idComplete_moves s
  · exact .refl s

theorem toggleGate_moves (s : State) : Moves s (toggleGate s) := by
  unfold toggleGate
  split
  · exact .tone _ s
  · exact .refl s

end Sys2Proof.Machine

/-! SUPPORT. The moves of the bus engine, of the panel and of the poll. -/

namespace Sys2Proof.Machine

/-! ### The engine -/

/-- R146 to R149: what the bus law asks of the engine's own fields. -/
structure EngineLaw (b : Bus) : Prop where
  open_sending : b.attemptOpen = true → b.engine = .sending ∧ b.inFlight.isSome = true
  followed_following : b.followed.isSome = true → b.engine = .following
  hold_following : b.hold.isSome = true → b.engine = .following
  closed_done : b.closed = true → b.followed = none
  unfollowed_listening : b.unfollowed.isSome = true → b.engine = .listening
  closed_passed : b.closed = true → b.unfollowed = none
  closed_heard : b.closed = true → b.engine = .listening ∨ b.engine = .following
  stuck_none : b.engine = .recovering → b.inFlight = none

theorem BusLaw.engineLaw {s : State} (h : BusLaw s) : EngineLaw s.bus :=
  ⟨h.open_sending, h.followed_following, h.hold_following, h.closed_done, h.unfollowed_listening,
    h.closed_passed, h.closed_heard, h.stuck_none⟩

/-- A change of the engine's own fields keeps the bus law when they stay lawful. -/
theorem BusLaw.engine {s : State} {b : Bus} (h : BusLaw s) (he : EngineLaw b)
    (hi : b.inFlight = s.bus.inFlight) (hf : b.floorWork = s.bus.floorWork)
    (hp : b.pollWork = s.bus.pollWork) (hc : b.cellWork = s.bus.cellWork) : BusLaw (s.withBus b) where
  open_sending := he.open_sending
  flight_left := by simpa [hi] using h.flight_left
  floor_fresh := by simpa [hf] using h.floor_fresh
  cell_fresh := by simpa [hc] using h.cell_fresh
  poll_fresh := by simpa [hp] using h.poll_fresh
  poll_once := by simpa [hi, hp] using h.poll_once
  followed_following := he.followed_following
  hold_following := he.hold_following
  closed_done := he.closed_done
  unfollowed_listening := he.unfollowed_listening
  closed_passed := he.closed_passed
  closed_heard := he.closed_heard
  stuck_none := he.stuck_none

/-- A change of the transaction in flight alone keeps the bus law when it has attempts and losses to go. -/
theorem BusLaw.flight {s : State} {x y : Txn} (h : BusLaw s) (hx : s.bus.inFlight = some x)
    (ha : y.attempts < 4) (hl : y.losses < 16) (ho : y.owner = x.owner) :
    BusLaw (s.withBus { s.bus with inFlight := some y }) :=
  h.work (by rw [hx]; rfl) (fun t ht => by cases ht; exact ⟨ha, hl⟩) h.floor_fresh h.poll_fresh
    fun hp => by simpa [hx, ho] using h.poll_once hp

/-- An engine that is neither followed nor listening has nothing of another master's frame. -/
theorem EngineLaw.idle {b : Bus} (h : EngineLaw b) (hf : b.engine ≠ .following)
    (hl : b.engine ≠ .listening) :
    b.followed = none ∧ b.hold = none ∧ b.closed = false ∧ b.unfollowed = none := by
  refine ⟨?_, ?_, ?_, ?_⟩
  · exact Option.not_isSome_iff_eq_none.1 fun e => hf (h.followed_following e)
  · exact Option.not_isSome_iff_eq_none.1 fun e => hf (h.hold_following e)
  · exact Bool.eq_false_iff.2 fun e => (h.closed_heard e).elim hl hf
  · exact Option.not_isSome_iff_eq_none.1 fun e => hl (h.unfollowed_listening e)

theorem hear_eq (b : Option Byte) (s : State) : hear b s = s.withBus (hear b s).bus := by
  unfold hear
  split <;> rfl

theorem hear_engineLaw (b : Option Byte) (s : State) : EngineLaw (hear b s).bus := by
  cases h : b.filter (accepts s.station) <;> constructor <;> simp [hear, h]

theorem hear_moves (b : Option Byte) (s : State) : Moves s (hear b s) := by
  rw [hear_eq]
  refine .bus s fun h => h.engine (hear_engineLaw b s) ?_ ?_ ?_ ?_ <;> simp [hear_bus]

theorem closeFrame_moves (f : CommandFrame) (s : State) : Moves s (closeFrame f s) := by
  unfold closeFrame
  split
  · refine .bus s fun h => h.engine ⟨by simp, by simp, by simp, by simp, by simp, by simp, fun _ => ?_,
      fun e => ?_⟩ rfl rfl rfl rfl
    · simp only
      split <;> simp
    · simp only at e
      split at e <;> cases e
  · exact .refl s

theorem fillInbound_moves (m : Option PanelMessage) (s : State) : Moves s (fillInbound m s) := by
  unfold fillInbound
  split
  · exact .bus s fun h => h.engine (by obtain ⟨_⟩ := h.engineLaw; constructor <;> assumption) rfl rfl rfl rfl
  · exact .refl s

theorem holdFrame_moves (f : CommandFrame) (s : State) : Moves s (holdFrame f s) := by
  unfold holdFrame
  split
  · exact .bus s fun h => h.engine ⟨by simp, by simp, by simp, by simp, by simp, by simp, by simp,
      by simp⟩ rfl rfl rfl rfl
  · exact hear_moves _ s

theorem foreignFrame_moves (f : CommandFrame) (s : State) : Moves s (foreignFrame f s) := by
  unfold foreignFrame
  split
  · split
    · exact holdFrame_moves f s
    · exact (closeFrame_moves f s).trans (fillInbound_moves _ _)
  · exact .refl s

theorem foreignOpening_moves (x : Heard) (s : State) : Moves s (foreignOpening x s) := by
  unfold foreignOpening
  split
  · split
    · exact hear_moves _ s
    · exact .refl s
  · split
    · exact hear_moves _ s
    · exact .refl s
  · exact foreignFrame_moves _ s

theorem busQuiet_moves (s : State) : Moves s (busQuiet s) := by
  unfold busQuiet
  split
  · exact .bus s fun h => h.engine ⟨by simp, by simp, by simp, by simp, by simp, by simp, by simp,
      by simp⟩ rfl rfl rfl rfl
  · exact .refl s

theorem holdTimedOut_moves (s : State) : Moves s (holdTimedOut s) := by
  unfold holdTimedOut
  split
  · next he =>
    refine .bus s fun h => h.engine ⟨fun ho => ?_, by simp, by simp, by simp, by simp, fun hc => ?_,
      by simp, by simp⟩ rfl rfl rfl rfl
    · obtain ⟨hs, -⟩ := h.open_sending ho
      simp [hs] at he
    · simp [h.closed_done hc]
  · exact .refl s

/-- Another engine state of which nothing of another master's frame is left. -/
theorem EngineLaw.ofQuiet {b : Bus} (ho : b.attemptOpen = true → b.engine = .sending ∧ b.inFlight.isSome = true)
    (hf : b.followed = none) (hh : b.hold = none) (hc : b.closed = false) (hu : b.unfollowed = none)
    (hr : b.engine = .recovering → b.inFlight = none) : EngineLaw b :=
  ⟨ho, by simp [hf], by simp [hh], by simp [hc], by simp [hu], by simp [hc], by simp [hc], hr⟩

theorem recovered_moves (s : State) : Moves s (recovered s) := by
  by_cases he : s.bus.engine = .recovering
  · have hr : recovered s = s.withBus (recovered s).bus := by
      unfold recovered
      rw [if_pos he]
      rfl
    rw [hr, recovered_bus he]
    refine .bus s fun h => ?_
    obtain ⟨hf, hh, hc, hu⟩ := h.engineLaw.idle (by simp [he]) (by simp [he])
    refine h.engine (.ofQuiet (fun ho => ?_) hf hh hc hu (by simp)) rfl rfl rfl rfl
    obtain ⟨hs, -⟩ := h.open_sending ho
    simp [he] at hs
  · have hr : recovered s = s := by simp [recovered, he]
    rw [hr]
    exact .refl s

theorem answerState_moves (asked : ReplyAsked) (s : State) : Moves s (answerState asked s) := by
  have hreply : Moves s (s.withBus { s.bus with reply := replySent asked s }) :=
    .bus s fun h => h.engine (by obtain ⟨_⟩ := h.engineLaw; constructor <;> assumption) rfl rfl rfl rfl
  unfold answerState
  simp only
  split
  · exact hreply.trans (.bus _ fun h => h.engine ⟨by simp, by simp, by simp, by simp, by simp, by simp,
      by simp, by simp⟩ rfl rfl rfl rfl)
  · exact hreply

/-! ### The status poll -/

theorem placePoll_moves (s : State) : Moves s (placePoll s) := by
  unfold placePoll
  split
  · exact .refl s
  · next hp =>
    refine .bus s fun h => h.work rfl h.flight_left h.floor_fresh (fun t ht => by cases ht; rfl) fun _ => ?_
    simp only [pollOutstanding, Bool.or_eq_true, not_or, Bool.not_eq_true] at hp
    exact hp.2

theorem pollExpired_moves (s : State) : Moves s (pollExpired s) := by
  unfold pollExpired
  split
  · exact .trans (keying_moves s (by rfl)) (placePoll_moves _)
  · exact .refl s

theorem noStatusReport_moves (s : State) : Moves s (noStatusReport s) :=
  .trans (keying_moves s (by rfl)) (equipmentReport_moves _ _)

theorem pollFailed_moves (s : State) : Moves s (pollFailed s) := by
  unfold pollFailed
  split
  · exact noStatusReport_moves s
  · exact keying_moves s rfl

theorem noStatusReached_moves (s : State) : Moves s (noStatusReached s) := by
  unfold noStatusReached
  split
  · exact noStatusReport_moves s
  · exact .refl s

theorem pollFault_moves (s : State) : Moves s (pollFault s) := by
  unfold pollFault
  simp only
  refine (ampOutOfService_moves s).trans (.trans ?_ (equipmentReport_moves _ _))
  split
  · exact .unkey _
  · exact .refl _

theorem pollAnswered_moves (fault swr : Byte) (s : State) : Moves s (pollAnswered fault swr s) := by
  have hk : Moves s (s.withKeying { s.keying with failures := 0 }) := keying_moves s rfl
  unfold pollAnswered
  simp only
  split
  · exact hk.trans (pollFault_moves _)
  · split
    · exact hk.trans (equipmentReport_moves _ _)
    · exact hk

theorem pollReport_moves (o : TxnOutcome) (reply : List Byte) (s : State) :
    Moves s (pollReport o reply s) := by
  unfold pollReport
  split
  · split
    · exact pollAnswered_moves ..
    · exact pollFailed_moves s
  · exact pollFailed_moves s

/-! ### A transaction's outcome -/

theorem setupReport_moves (item : SetupItem) (o : TxnOutcome) (s : State) :
    Moves s (setupReport item o s) := by
  unfold setupReport
  split
  · next h =>
    have hh : s.floor.state.hasHolder = true := by simp [h, FloorState.hasHolder]
    split
    · split
      · exact setupComplete_moves hh (by simp [h])
      · exact .refl s
    · exact endTurn_moves (.inl hh)
  · exact .refl s

theorem reportOutcome_moves (t : Txn) (o : TxnOutcome) (reply : List Byte) (s : State) :
    Moves s (reportOutcome t o reply s) := by
  unfold reportOutcome
  split
  · exact setupReport_moves ..
  · exact .refl s
  · exact .refl s
  · exact pollReport_moves ..
  · exact .cellBack ..

/-- R153: a transaction leaves the list in one change with the engine's move behind which it ends. -/
theorem finishTxn_moves {t : Txn} {o : TxnOutcome} {reply : List Byte} {s : State} {b : Bus}
    (h : BusLaw s → BusLaw (s.withBus { b with inFlight := none })) :
    Moves s (finishTxn t o reply (s.withBus b)) :=
  .trans (.trans (.bus s h) (setBelieved_moves _ _)) (reportOutcome_moves ..)

/-- With no transaction in flight and no frame of the part's own open, the bus law stays. -/
theorem BusLaw.landed {s : State} {b : Bus} (h : BusLaw (s.withBus b)) (ho : b.attemptOpen = false) :
    BusLaw (s.withBus { b with inFlight := none }) where
  open_sending e := by simp [ho] at e
  flight_left := by simp
  floor_fresh := h.floor_fresh
  cell_fresh := h.cell_fresh
  poll_fresh := h.poll_fresh
  poll_once := by simp
  followed_following := h.followed_following
  hold_following := h.hold_following
  closed_done := h.closed_done
  unfollowed_listening := h.unfollowed_listening
  closed_passed := h.closed_passed
  closed_heard := h.closed_heard
  stuck_none _ := rfl

/-! ### Attempts -/

/-- R151: the next transaction is fresh, and its removal from its section keeps the bus law. -/
theorem nextWork_law {s : State} {t : Txn} {b : Bus} (hn : nextWork s = some (t, b)) (h : BusLaw s) :
    BusLaw (s.withBus b) ∧ b.engine = s.bus.engine ∧ b.inFlight = s.bus.inFlight
      ∧ b.attemptOpen = s.bus.attemptOpen ∧ b.sbcLow = s.bus.sbcLow
      ∧ t.attempts = 0 ∧ t.losses = 0 ∧ (b.pollWork.isSome = true → (t.owner == .poll) = false) := by
  unfold nextWork at hn
  split at hn
  · next u rest hw =>
    obtain ⟨rfl, rfl⟩ : u = t ∧ { s.bus with floorWork := rest } = b := by simpa using hn
    obtain ⟨ho, ha, hl⟩ := h.floor_fresh u (by simp [hw])
    refine ⟨h.work rfl h.flight_left (fun x hx => h.floor_fresh x (by simp [hw, hx])) h.poll_fresh
      h.poll_once, rfl, rfl, rfl, rfl, ha, hl, fun _ => ?_⟩
    cases hu : u.owner <;> simp [hu, Owner.isFloor] at ho ⊢
  · next u hw hp =>
    obtain ⟨rfl, rfl⟩ : u = t ∧ { s.bus with pollWork := none } = b := by simpa using hn
    obtain rfl := h.poll_fresh u hp
    exact ⟨h.work rfl h.flight_left h.floor_fresh (by simp) (by simp), rfl, rfl, rfl, rfl, rfl, rfl,
      by simp⟩
  · next u rest hw hp hc =>
    split at hn
    · cases hn
    · obtain ⟨rfl, rfl⟩ : u = t ∧ { s.bus with cellWork := rest } = b := by simpa using hn
      obtain ⟨-, ha, hl⟩ := h.cell_fresh u (by simp [hc])
      refine ⟨?_, rfl, rfl, rfl, rfl, ha, hl, by simp [hp]⟩
      exact ⟨h.open_sending, h.flight_left, h.floor_fresh,
        fun x hx => h.cell_fresh x (hc ▸ List.mem_cons_of_mem _ hx), h.poll_fresh, h.poll_once,
        h.followed_following, h.hold_following, h.closed_done, h.unfollowed_listening, h.closed_passed,
        h.closed_heard, h.stuck_none⟩
  · cases hn

/-- R151: with the engine FREE a transaction with attempts and losses to go may be sent. -/
theorem BusLaw.sending {s : State} {b : Bus} {t : Txn} (h : BusLaw (s.withBus b)) (he : b.engine = .free)
    (ha : t.attempts < 4) (hl : t.losses < 16)
    (hp : b.pollWork.isSome = true → (t.owner == .poll) = false) :
    BusLaw (s.withBus { b with engine := .sending, attemptOpen := true, inFlight := some t }) := by
  obtain ⟨hf, hh, hc, hu⟩ := h.engineLaw.idle (by simp [he]) (by simp [he])
  simp only [withBus_bus] at hf hh hc hu
  exact ⟨by simp, fun x hx => by cases hx; exact ⟨ha, hl⟩, h.floor_fresh, h.cell_fresh, h.poll_fresh,
    by simpa using hp, by simp [hf], by simp [hh], by simp [hc], by simp [hu], by simp [hc], by simp [hc],
    by simp⟩

theorem startTransaction_moves (s : State) : Moves s (startTransaction s) := by
  unfold startTransaction
  split
  · next t he hf =>
    refine .bus s fun h => ?_
    obtain ⟨ha, hl⟩ := h.flight_left t hf
    exact BusLaw.sending (b := s.bus) h he ha hl fun hp => by simpa [hf] using h.poll_once hp
  · next t b he hf hn =>
    refine .bus s fun h => ?_
    obtain ⟨hb, hbe, -, -, -, ha, hl, hp⟩ := nextWork_law hn h
    exact hb.sending (hbe.trans he) (by simp [ha]) (by simp [hl]) hp
  · next t b he hf hn =>
    split
    · refine finishTxn_moves fun h => ?_
      obtain ⟨hb, hbe, -, hbo, -⟩ := nextWork_law hn h
      refine hb.landed (Bool.eq_false_iff.2 fun ho => ?_)
      obtain ⟨hs, -⟩ := h.open_sending (hbo ▸ ho)
      simp [he] at hs
    · exact .refl s
  · exact .refl s

/-- R145, R146: behind a closing of the part's own nothing of another master's frame is left. -/
theorem BusLaw.closing {s : State} (h : BusLaw s) (he : s.bus.engine = .sending ∨ s.bus.engine = .free) :
    BusLaw (s.withBus { s.bus with engine := .sending, attemptOpen := false }) := by
  obtain ⟨hf, hh, hc, hu⟩ := h.engineLaw.idle (by rcases he with he | he <;> simp [he])
    (by rcases he with he | he <;> simp [he])
  exact h.engine (.ofQuiet (by simp) hf hh hc hu (by simp)) rfl rfl rfl rfl

theorem attemptRefused_moves {t : Txn} {s : State} (he : s.bus.engine = .sending ∨ s.bus.engine = .free)
    (hf : s.bus.inFlight = some t) : Moves s (attemptRefused t s) := by
  unfold attemptRefused
  simp only
  split
  · exact finishTxn_moves fun h => (h.closing he).landed rfl
  · next ha =>
    refine .trans (.bus s fun h => h.closing he) (.bus _ fun h => ?_)
    obtain ⟨-, hl⟩ := h.flight_left t hf
    exact h.flight hf (by simp only; omega) hl rfl

theorem countLoss_moves {t : Txn} {s : State} (hf : s.bus.inFlight = some t) :
    Moves s (countLoss t (hear none s)) := by
  unfold countLoss
  split
  · rw [hear_eq]
    refine finishTxn_moves fun h => BusLaw.landed ?_ (by simp [hear_bus])
    exact h.engine (hear_engineLaw none s) (by simp [hear_bus]) (by simp [hear_bus]) (by simp [hear_bus])
      (by simp [hear_bus])
  · next hl =>
    have hf' : (hear none s).bus.inFlight = some t := by simp [hear_bus, hf]
    refine (hear_moves none s).trans (.bus _ fun h => ?_)
    obtain ⟨ha, -⟩ := h.flight_left t hf'
    exact h.flight hf' ha (by simp only; omega) rfl

theorem takeUp_moves (k : Nat) (other : List Byte) (s : State) : Moves s (takeUp k other s) := by
  unfold takeUp
  simp only
  split
  · exact hear_moves _ s
  · refine (hear_moves _ s).trans (.bus _ fun h => ?_)
    obtain ⟨_⟩ := h.engineLaw
    exact h.engine ⟨by assumption, by assumption, by simp, by assumption, by assumption, by assumption,
      by assumption, by assumption⟩ rfl rfl rfl rfl

theorem attempting_eq_some {s : State} {t : Txn} (h : attempting s = some t) :
    (s.bus.engine = .sending ∨ s.bus.engine = .free) ∧ s.bus.inFlight = some t := by
  unfold attempting at h
  split at h
  · next he => exact ⟨he, h⟩
  · cases h

theorem attemptEnd_moves (ended : AttemptEnd) (s : State) : Moves s (attemptEnd ended s) := by
  unfold attemptEnd
  split
  · exact .refl s
  · next t ht =>
    obtain ⟨he, hf⟩ := attempting_eq_some ht
    split
    · split
      · exact attemptRefused_moves he hf
      · exact finishTxn_moves fun h => (h.closing he).landed rfl
    · exact attemptRefused_moves he hf
    · unfold attemptLost
      split
      · exact .refl s
      · exact ((countLoss_moves hf).trans (finishSetup_moves s _)).trans (takeUp_moves ..)

theorem stuck_moves (lines : StuckLines) (s : State) : Moves s (stuck lines s) := by
  have key (h : BusLaw s) (fw : Option Txn) (hn : fw = none) :
      BusLaw (s.withBus { s.bus with
        engine := .recovering, attemptOpen := false, sbcLow := lines.sbcLow, sbdPulses := lines.sbdPulses
        pulses := 0, hold := none, followed := none, unfollowed := none, closed := false
        inFlight := fw }) := by
    subst hn
    exact ⟨by simp, by simp, h.floor_fresh, h.cell_fresh, h.poll_fresh, by simp, by simp, by simp, by simp,
      by simp, by simp, by simp, by simp⟩
  unfold stuck
  split
  · exact .refl s
  · simp only
    split
    · exact finishTxn_moves fun h => key h none rfl
    · next hf => exact .bus s fun h => key h s.bus.inFlight hf

/-! ### The panel -/

theorem emptyInbound_moves (s : State) : Moves s (emptyInbound s) := by
  refine .bus s fun h => ?_
  obtain ⟨_⟩ := h.engineLaw
  exact h.engine ⟨by assumption, by assumption, by simp, by assumption, by assumption, by assumption,
    by assumption, by assumption⟩ rfl rfl rfl rfl

theorem openAnew_moves (s : State) : Moves s (openAnew s) := by
  unfold openAnew
  split
  · refine .bus s fun h => ?_
    obtain ⟨_⟩ := h.engineLaw
    exact h.engine ⟨by assumption, by assumption, by assumption, by assumption, by simp, by simp,
      by assumption, by assumption⟩ rfl rfl rfl rfl
  · exact .refl s

theorem panelMessage_moves (m : PanelMessage) {f : State → State} (hf : ∀ s, Moves s (f s)) (s : State) :
    Moves s (panelMessage m f s) := by
  unfold panelMessage
  split
  · exact (hf s).trans (emptyInbound_moves _)
  · split
    · exact ((((openAnew_moves s).trans (closeFrame_moves ..)).trans (fillInbound_moves ..)).trans
        (hf _)).trans (emptyInbound_moves _)
    · exact (openAnew_moves s).trans (foreignFrame_moves ..)

/-- A state without a holder may be entered from an unkeyed one with no holder. -/
theorem mayEnter_of_unheld {s : State} {new : FloorState} (hk : s.keying.state = .unkeyed)
    (hh : s.floor.holder = none) (hn : new.hasHolder = false)
    (hs : new = .shut → s.queue = [] ∧ s.ident.window = false) : MayEnter new s :=
  ⟨.inl hk, fun _ => by rw [hh, hn]; rfl, hs⟩

theorem takeStation_moves (s : State) : Moves s (takeStation s) := by
  unfold takeStation
  simp only
  split
  · exact .refl s
  · split
    · next h =>
      exact endTurnCore_then (.refl _) (.inr h) (by simp [Floor.cleared]) (by simp [Floor.cleared])
        (by simp) rfl (by simp)
    · next h =>
      exact (Moves.unkey s).trans (.state _ (mayEnter_of_unheld (by simp) (by simpa using h) rfl (by simp)))

/-- An IDLE entered from a state with no holder, off the air. -/
theorem mayEnterIdle_of_state {s : State} (hh : s.floor.state.hasHolder = false)
    (hk : s.keying.state = .unkeyed ∨ s.floor.state ≠ .ident) : MayEnter .idle s where
  keyed := hk.imp id fun h => .inr (.inr ⟨fun e => by simp [e, FloorState.hasHolder] at hh, h⟩)
  holder hm := by rw [hm, hh]; rfl
  shut := by simp

theorem giveStation_moves (s : State) : Moves s (giveStation s) := by
  unfold giveStation
  split
  · next h => exact enterIdle_moves (mayEnterIdle_of_state (by simp [h, FloorState.hasHolder]) (by simp [h]))
  · exact .refl s

theorem resumeStation_moves (s : State) : Moves s (resumeStation s) := by
  unfold resumeStation
  split
  · next h => exact enterIdle_moves (mayEnterIdle_of_state (by simp [h, FloorState.hasHolder]) (by simp [h]))
  · exact .refl s

theorem haltStation_moves (s : State) : Moves s (haltStation s) := by
  have key (t : State) :
      Moves t (closeWindow (unkey (endEntries .shut t.queue t)))
        ∧ (closeWindow (unkey (endEntries .shut t.queue t))).floor = t.floor
        ∧ (closeWindow (unkey (endEntries .shut t.queue t))).queue = [] := by
    refine ⟨((endEntries_moves ..).trans (.unkey _)).trans (closeWindow_moves _), by simp, ?_⟩
    simpa using endEntries_queue .shut rfl
  have hw (t : State) : (closeWindow t).ident.window = false := rfl
  unfold haltStation
  simp only
  split
  · next h =>
    obtain ⟨hm, -, hq⟩ := key (endTurnCore .shut .none s)
    exact endTurnCore_then hm (.inr h) (by simp [Floor.cleared]) (by simp [Floor.cleared])
      (by simp) rfl fun _ => ⟨hq, hw _⟩
  · next h =>
    obtain ⟨hm, hf, hq⟩ := key s
    exact hm.trans (.state _ (mayEnter_of_unheld (by simp) (by rw [hf]; simpa using h) rfl
      fun _ => ⟨hq, hw _⟩))

/-! ### The floor's orders -/

theorem enterHang_moves {s : State} (h : s.floor.state.hasHolder = true)
    (hk : s.keying.state = .unkeyed) : Moves s (enterHang s) :=
  .trans (floorTimers_moves (by rfl) (by rfl) (by rfl) (by rfl))
    (.state _ (mayEnter_of_held (by simpa using h) rfl (.inl (by simpa using hk))))

theorem releaseFloor_moves {s : State} (h : s.floor.holder.isSome = true) :
    Moves s (releaseFloor s).2 := by
  have key (hs : s.floor.state.hasHolder = true) : Moves s
      (if (unkey s).ident.pending then (FloorState.ident, endTurnToIdent (unkey s))
        else if (unkey s).station.hangTime = 0 then (.idle, endTurn .released .none (unkey s))
        else (.hang, enterHang (unkey s))).2 := by
    refine (Moves.unkey s).trans ?_
    split
    · exact endTurnToIdent_moves (.inr (by simpa using h))
    · split
      · exact endTurn_moves (.inr (by simpa using h))
      · exact enterHang_moves (by simpa using hs) (by simp)
  unfold releaseFloor
  split
  · next hs => exact key (by simp [hs, FloorState.hasHolder])
  · next hs => exact key (by simp [hs, FloorState.hasHolder])
  · exact endTurn_moves (.inr h)

theorem holder_isSome_of_holderSeat {s : State} {seat : SeatNo} (h : holderSeat s = some seat) :
    s.floor.holder.isSome = true := by
  unfold holderSeat at h
  cases hh : s.floor.holder <;> simp [hh] at h ⊢

theorem doRelease_moves (seat : SeatNo) (s : State) : Moves s (doRelease seat s).1 := by
  unfold doRelease
  split
  · next h => exact releaseFloor_moves (holder_isSome_of_holderSeat h)
  · exact .refl s

theorem doWithdraw_moves (seat : SeatNo) (s : State) : Moves s (doWithdraw seat s).1 := by
  unfold doWithdraw
  split
  · exact (removeEntry_moves seat s).trans (queueChanged_moves _)
  · exact .refl s

/-- R58: the removal of the entries, where it is asked for. -/
theorem forcedEntries_moves (clear : Bool) (q : List Entry) (s : State) :
    ∃ t, (if clear = true then endEntries .forced q s else s) = t ∧ Moves s t ∧ t.floor = s.floor
      ∧ t.keying = s.keying := by
  refine ⟨_, rfl, ?_⟩
  split
  · exact ⟨endEntries_moves .., by simp, by simp⟩
  · exact ⟨.refl s, rfl, rfl⟩

theorem forceRelease_moves (clear : Bool) (s : State) : Moves s (forceRelease clear s) := by
  unfold forceRelease
  simp only
  cases h : s.floor.holder.isSome
  · obtain ⟨t, ht, hm, hf, -⟩ := forcedEntries_moves clear s.queue s
    simp only [Bool.false_or, beq_iff_eq, Bool.false_eq_true, if_false, ht]
    refine hm.trans ?_
    split
    · next hs => exact enterIdle_moves (mayEnter_of_idle (by rw [hf]; exact .inr hs) rfl (by simp))
    · exact .refl _
  · obtain ⟨t, ht, hm, hf, hk⟩ := forcedEntries_moves clear (endTurnCore .forced .none s).queue
      (endTurnCore .forced .none s)
    simp only [Bool.true_or, if_true, ht]
    exact (endTurnCore_then hm (.inr h) (by simp [hf, Floor.cleared]) (by simp [hf, Floor.cleared])
      (by simp [hk]) rfl (by simp)).trans (serve_moves (.inl (by simp)))

theorem doForceRelease_moves (seat : SeatNo) (s : State) : Moves s (doForceRelease seat s).1 := by
  unfold doForceRelease
  simp only
  split
  · exact .refl s
  · exact forceRelease_moves ..

theorem doAmpRestore_moves (seat : SeatNo) (s : State) : Moves s (doAmpRestore seat s).1 := by
  unfold doAmpRestore
  split
  · exact .refl s
  · exact keying_moves s rfl

theorem rekeyGranted_moves {seat : SeatNo} {g : Grant} {s : State} {h : Holder}
    (hh : s.floor.holder = some h) (hs : s.floor.state = .hang) : Moves s (rekeyGranted seat g s) := by
  have hhold : s.floor.state.hasHolder = true := by simp [hs, FloorState.hasHolder]
  have hfloor : Moves s (s.withFloor { s.floor with
      grant := some g, turnCount := min 255 (s.floor.turnCount + 1), hang := none, keyDown := 0
      timeWarned := false, setupPlaced := false }) :=
    .floor s ⟨rfl, rfl, .inr ⟨rfl, by simp [hh]⟩, .inr (by simp [hh])⟩
  have hgrant := (hfloor.trans (lastMode_moves g.mode _)).trans
    (.tell seat (.grant (min 255 (s.floor.turnCount + 1)) g) _ (by simp [NoticeBody.kind]))
  unfold rekeyGranted
  simp only
  split
  · exact hgrant.trans (setupComplete_moves (by simpa using hhold) (by simp [hs]))
  · exact hgrant.trans (.state _ (mayEnter_of_held (by simpa using hhold) rfl (.inr (.inr (by simp [hs])))))

/-! ### The lines and the duty interval -/

theorem dutyReport_moves (excess : Bool) (s : State) : Moves s (dutyReport excess s) := by
  unfold dutyReport
  split
  · next h =>
    split
    · exact endTurn_moves (.inl (by simp [h, FloorState.hasHolder]))
    · exact .refl s
  · next h =>
    split
    · exact endTurn_moves (.inl (by simp [h, FloorState.hasHolder]))
    · exact .refl s
  · next h => exact serve_moves (.inr h)
  · exact .refl s

theorem inhibitReport_moves {s : State} (hk : s.keying.state = .unkeyed) : Moves s (inhibitReport s) := by
  have held (h : s.floor.state.hasHolder = true) : Moves s (endTurn .inhibit .none s) :=
    endTurn_moves (.inl h)
  have unheld (h : s.floor.state.hasHolder = false) : Moves s (enterIdle s) :=
    enterIdle_moves (mayEnterIdle_of_state h (.inl hk))
  unfold inhibitReport
  split
  case h_1 h | h_2 h | h_3 h | h_4 h | h_5 h => exact held (by simp [h, FloorState.hasHolder])
  case h_6 h | h_7 h => exact unheld (by simp [h, FloorState.hasHolder])
  all_goals exact .refl s

theorem ampFault_moves (s : State) : Moves s (if ampFaultHolds s then takeAmpFault s else s) := by
  split
  · exact takeAmpFault_moves s
  · exact .refl s

theorem turnMs_moves (s : State) : Moves s (turnMs s) := by
  unfold turnMs
  split
  · exact floorTimers_moves rfl rfl rfl rfl
  · exact .refl s

theorem judgeBusCell_moves (n : BusCellNo) (s : State) : Moves s (judgeBusCell n s) := by
  unfold judgeBusCell
  split
  · refine .bus s fun h => ⟨h.open_sending, h.flight_left, h.floor_fresh, fun t ht => ?_, h.poll_fresh,
      h.poll_once, h.followed_following, h.hold_following, h.closed_done, h.unfollowed_listening,
      h.closed_passed, h.closed_heard, h.stuck_none⟩
    rcases List.mem_append.1 ht with ht | ht
    · exact h.cell_fresh t ht
    · rw [List.mem_singleton.1 ht]
      exact ⟨⟨n, rfl⟩, rfl, rfl⟩
  · exact .cellBack ..

end Sys2Proof.Machine

/-! SUPPORT. What a chain of moves keeps: the frame of the floor's machinery, and each law. -/

namespace Sys2Proof.Machine

/-! ### Frames -/

/-- What no move touches. -/
theorem Moves.frame {s t : State} (h : Moves s t) :
    t.pending = s.pending ∧ t.pins = s.pins ∧ t.stamp = s.stamp ∧ t.mode = s.mode ∧ t.members = s.members
      ∧ t.plan = s.plan ∧ t.station = s.station ∧ t.duty = s.duty ∧ t.source = s.source
      ∧ t.handovers = s.handovers := by
  induction h with
  | trans _ _ ih ih' => simp only [ih', ih, and_self]
  | turnOver _ _ _ _ _ _ _ _ ih ih' => simp [ih', ih]
  | turnBegun _ _ _ _ _ _ ih ih' => simp [ih', ih]
  | _ => simp

/-- What a move leaves of a seat: its attachment and its answer. -/
structure SeatsKept (s t : State) : Prop where
  attachment : ∀ x : SeatNo, t.seats[x].attachment = s.seats[x].attachment
  answer     : ∀ x : SeatNo, t.seats[x].answer = s.seats[x].answer

theorem SeatsKept.of_eq {s t : State} (h : t.seats = s.seats) : SeatsKept s t :=
  ⟨fun x => by rw [h], fun x => by rw [h]⟩

theorem SeatsKept.trans {s t u : State} (h : SeatsKept s t) (h' : SeatsKept t u) : SeatsKept s u :=
  ⟨fun x => (h'.attachment x).trans (h.attachment x), fun x => (h'.answer x).trans (h.answer x)⟩

theorem raise_seatsKept (seat : SeatNo) (body : NoticeBody) (s : State) :
    SeatsKept s (raise seat body s) := by
  constructor <;> intro x <;> rw [raise_getElem] <;> split
  all_goals first | (next h => subst h; simp) | rfl

theorem raiseAll_seatsKept (body : NoticeBody) (s : State) : SeatsKept s (raiseAll body s) := by
  constructor <;> intro x <;> rw [raiseAll_getElem] <;> simp

theorem modSeat_seatsKept {f : Seat → Seat} (hf : FiguresOnly f) (seat : SeatNo) (s : State) :
    SeatsKept s (modSeat seat f s) := by
  obtain ⟨ha, -, hr⟩ := hf s.seats[seat]
  constructor <;> intro x <;> rw [modSeat_getElem] <;> split
  · next h => subst h; exact ha
  · rfl
  · next h => subst h; exact hr
  · rfl

/-- What a change of floor state does to the seats: the FLOOR notice, and behind it a PANEL notice. -/
theorem setFloorState_seats (new : FloorState) (s : State) :
    (setFloorState new s).seats
      = if s.floor.state = new then s.seats
        else if s.floor.state.panel = true ∨ new.panel = true then
          (s.seats.map (Seat.receive ⟨.floor new (holderSeat s), s.stamp⟩)).map
            (Seat.receive ⟨.panel (new == .panelHeld) (new == .shut), s.stamp⟩)
        else s.seats.map (Seat.receive ⟨.floor new (holderSeat s), s.stamp⟩) := by
  unfold setFloorState
  split
  · rfl
  · simp only
    split <;> split <;> split <;> simp [raiseAll, holderSeat]

theorem setFloorState_seatsKept (new : FloorState) (s : State) : SeatsKept s (setFloorState new s) := by
  constructor <;> intro x <;> rw [setFloorState_seats] <;> (repeat' split) <;> simp

theorem unkey_seats (s : State) : (unkey s).seats = s.seats := by simp

theorem Moves.seatsKept {s t : State} (h : Moves s t) : SeatsKept s t := by
  induction h with
  | trans _ _ ih ih' => exact ih.trans ih'
  | tell seat body s _ => exact raise_seatsKept seat body s
  | tellAll body s _ => exact raiseAll_seatsKept body s
  | figures seat s h => exact modSeat_seatsKept h seat s
  | state s _ => exact setFloorState_seatsKept _ s
  | turnOver _ _ _ _ _ _ _ _ ih ih' =>
    exact (ih.trans ((SeatsKept.of_eq (by simp)).trans ih')).trans (setFloorState_seatsKept _ _)
  | turnBegun _ _ _ _ _ _ ih ih' =>
    exact (ih.trans ((SeatsKept.of_eq (by simp)).trans ih')).trans (setFloorState_seatsKept _ _)
  | _ => exact .of_eq (by simp)

theorem SeatsKept.attachedMember {s t : State} (h : SeatsKept s t) (x : SeatNo) :
    attachedMember t x = attachedMember s x := by
  simp only [Machine.attachedMember, h.attachment x]

/-! ### The keying law -/

theorem KeyingLaw.of_eq {s t : State} (h : KeyingLaw s) (hk : t.keying.state = s.keying.state)
    (hf : t.floor.state = s.floor.state) (hm : t.mode = s.mode) (hp : t.pins = s.pins) : KeyingLaw t :=
  ⟨by rw [hk, hf]; exact h.floor, by rw [hk, hm]; exact h.serving, by rw [hk, hp]; exact h.inhibit,
    by rw [hk, hp]; exact h.reset⟩

theorem KeyingLaw.of_unkeyed {s : State} (h : s.keying.state = .unkeyed) : KeyingLaw s :=
  ⟨fun e => absurd h e, fun e => absurd h e, fun e => absurd h e, fun e => absurd h e⟩

theorem KeyingLaw.setFloorState {s : State} {new : FloorState} (h : KeyingLaw s) (he : MayEnter new s) :
    KeyingLaw (setFloorState new s) where
  floor hk := by
    have hk' : s.keying.state ≠ .unkeyed := by simpa using hk
    rcases he.keyed with hu | hn | hn | ⟨ho, hi⟩
    · exact absurd hu hk'
    · simp [hn]
    · simp [hn]
    · exact ((h.floor hk').elim ho hi).elim
  serving := by simpa using h.serving
  inhibit := by simpa using h.inhibit
  reset := by simpa using h.reset

theorem Moves.keeps_keying {s t : State} (h : Moves s t) (hr : s.pins.resetLow = false)
    (hs : KeyingLaw s) : KeyingLaw t := by
  induction h with
  | refl => exact hs
  | trans h _ ih ih' =>
    obtain ⟨-, hp, -⟩ := h.frame
    exact ih' (by rw [hp]; exact hr) (ih hr hs)
  | floor s h => exact hs.of_eq (by simp) (by simpa using h.state) (by simp) (by simp)
  | keying s h _ => exact h hr hs
  | unkey s => exact .of_unkeyed (by simp)
  | state s h => exact hs.setFloorState h
  | turnOver _ _ _ _ _ unkeyed => exact .of_unkeyed (by simpa using unkeyed)
  | @turnBegun s u t e g rest before _ idle after state _ ih ih' =>
    obtain ⟨-, hp, -⟩ := before.frame
    have hu : KeyingLaw ((u.withQueue rest).withFloor (u.floor.begun e g)) :=
      (ih hr hs).of_eq (by simp) (by simp [Floor.begun]) (by simp) (by simp)
    refine (ih' (by simpa [hp] using hr) hu).setFloorState ⟨?_, ?_, by simp⟩
    · right; right; right
      rcases idle with h | h <;> simp [state, h]
    · intro hm
      unfold HolderMatches at hm
      rw [hm, state]
      rename_i holder
      have : t.floor.holder.isSome = true := by simp [holder]
      rw [hm, state] at this
      rw [this]
      rfl
  | _ => exact hs.of_eq (by simp) (by simp) (by simp) (by simp)

/-! ### The identification law -/

theorem IdentLaw.of_eq {s t : State} (h : IdentLaw s) (hi : t.ident = s.ident)
    (hk : t.keying.state = s.keying.state) (hf : t.floor.state = s.floor.state)
    (hq : t.queue = s.queue) : IdentLaw t :=
  ⟨by rw [hi]; exact h.pending_window, by rw [hi]; exact h.overdue_pending,
    by rw [hi]; exact h.periodic_window, by rw [hi]; exact h.closing_window,
    by rw [hi]; exact h.grace_pending, by rw [hi, hk]; exact h.sender_keyed,
    by rw [hf, hq]; exact h.shut_queue, by rw [hf, hi]; exact h.shut_window⟩

/-- A floor state entered with the record as it stands. -/
theorem IdentLaw.setFloorState {s : State} {new : FloorState} (h : IdentLaw s)
    (hs : new = .shut → s.queue = [] ∧ s.ident.window = false) : IdentLaw (setFloorState new s) where
  pending_window := by simpa using h.pending_window
  overdue_pending := by simpa using h.overdue_pending
  periodic_window := by simpa using h.periodic_window
  closing_window := by simpa using h.closing_window
  grace_pending := by simpa using h.grace_pending
  sender_keyed := by simpa using h.sender_keyed
  shut_queue e := by simpa using (hs (by simpa using e)).1
  shut_window e := by simpa using (hs (by simpa using e)).2

theorem IdentLaw.unkey {s : State} (h : IdentLaw s) : IdentLaw (unkey s) := by
  by_cases hk : s.keying.state = .unkeyed
  · have : Machine.unkey s = s := by simp [Machine.unkey, hk]
    rwa [this]
  · have hi : (Machine.unkey s).ident = { s.ident with sender := none } := by
      simp [Machine.unkey, hk, quietSender]
    exact ⟨by simpa [hi] using h.pending_window, by simpa [hi] using h.overdue_pending,
      by simpa [hi] using h.periodic_window, by simpa [hi] using h.closing_window,
      by simpa [hi] using h.grace_pending, by simp [hi], by simpa using h.shut_queue,
      by simpa [hi] using h.shut_window⟩

theorem Moves.keeps_ident {s t : State} (h : Moves s t) (hr : s.pins.resetLow = false)
    (hk : KeyingLaw s) (hs : IdentLaw s) : IdentLaw t := by
  induction h with
  | refl => exact hs
  | trans h _ ih ih' =>
    obtain ⟨-, hp, -⟩ := h.frame
    exact ih' (by rw [hp]; exact hr) (h.keeps_keying hr hk) (ih hr hk hs)
  | floor s h => exact hs.of_eq (by simp) (by simp) (by simpa using h.state) (by simp)
  | queue s h =>
    exact ⟨hs.pending_window, hs.overdue_pending, hs.periodic_window, hs.closing_window,
      hs.grace_pending, hs.sender_keyed, fun e => by simpa [hs.shut_queue e] using h, hs.shut_window⟩
  | ident s h => exact h hk hs
  | keying s _ h =>
    exact ⟨hs.pending_window, hs.overdue_pending, hs.periodic_window, hs.closing_window,
      hs.grace_pending, fun e => h e (hs.sender_keyed e), hs.shut_queue, hs.shut_window⟩
  | unkey s => exact hs.unkey
  | state s h => exact hs.setFloorState h.shut
  | @turnOver s u t new before after _ _ _ _ _ shut ih ih' =>
    obtain ⟨-, hp, -⟩ := before.frame
    have hku := before.keeps_keying hr hk
    refine (ih' (by simpa [hp] using hr) ?_ ?_).setFloorState shut
    · exact hku.of_eq (by simp) (by simp [Floor.cleared]) (by simp) (by simp)
    · exact (ih hr hk hs).of_eq (by simp) (by simp) (by simp [Floor.cleared]) (by simp)
  | @turnBegun s u t e g rest before head idle after _ _ ih ih' =>
    obtain ⟨-, hp, -⟩ := before.frame
    have hku := before.keeps_keying hr hk
    have hiu := ih hr hk hs
    refine (ih' (by simpa [hp] using hr) ?_ ?_).setFloorState (by simp)
    · exact hku.of_eq (by simp) (by simp [Floor.begun]) (by simp) (by simp)
    · have hns : u.floor.state ≠ .shut := by rcases idle with h | h <;> simp [h]
      exact ⟨hiu.pending_window, hiu.overdue_pending, hiu.periodic_window, hiu.closing_window,
        hiu.grace_pending, hiu.sender_keyed, fun e => absurd e hns, fun e => absurd e hns⟩
  | _ => exact hs.of_eq (by simp) (by simp) (by simp) (by simp)

/-! ### The laws of the playout queue and of the bus -/

theorem PlayoutLaw.of_eq {s t : State} (h : PlayoutLaw s) (hp : t.playout = s.playout) : PlayoutLaw t :=
  ⟨by rw [hp]; exact h.no_point, by rw [hp]; exact h.window, by rw [hp]; exact h.distinct,
    by rw [hp]; exact h.early, by rw [hp]; exact h.trim⟩

theorem PlayoutLaw.of_emptied {s t : State} (ht : t.playout = s.playout.emptied) :
    PlayoutLaw t := by
  constructor <;> simp [ht, Playout.emptied]

/-- R86: the playout queue is emptied when GRANTED is entered, and when the streaming states are left. -/
theorem setFloorState_playout (new : FloorState) (s : State) :
    (setFloorState new s).playout
      = if s.floor.state ≠ new ∧ (new = .granted ∨ s.floor.state.streaming = true ∧ ¬ new.streaming = true)
        then s.playout.emptied else s.playout := by
  unfold setFloorState
  by_cases h : s.floor.state = new
  · simp [h]
  · simp only [h, if_false, ne_eq, not_false_eq_true, true_and]
    split <;> split <;> split <;> simp

theorem PlayoutLaw.setFloorState {s : State} (h : PlayoutLaw s) (new : FloorState) :
    PlayoutLaw (setFloorState new s) := by
  have hp := setFloorState_playout new s
  split at hp
  · exact .of_emptied hp
  · exact h.of_eq hp

theorem PlayoutLaw.unkey {s : State} (h : PlayoutLaw s) : PlayoutLaw (unkey s) := by
  by_cases hk : s.keying.state = .unkeyed
  · have : Machine.unkey s = s := by simp [Machine.unkey, hk]
    rwa [this]
  · have hp : (Machine.unkey s).playout
        = { s.playout with timer := none, step := .silence, carriedKey := false, trimRun := 0 } := by
      simp [Machine.unkey, hk]
    exact ⟨by simpa [hp] using h.no_point, by simpa [hp] using h.window, by simpa [hp] using h.distinct,
      by simpa [hp] using h.early, by simp [hp]⟩

theorem Moves.keeps_playout {s t : State} (h : Moves s t) (hs : PlayoutLaw s) : PlayoutLaw t := by
  induction h with
  | refl => exact hs
  | trans _ _ ih ih' => exact ih' (ih hs)
  | playout s h => exact h hs
  | unkey s => exact hs.unkey
  | state s _ => exact hs.setFloorState _
  | turnOver _ _ _ _ _ _ _ _ ih ih' => exact (ih' ((ih hs).of_eq (by simp))).setFloorState _
  | turnBegun _ _ _ _ _ _ ih ih' => exact (ih' ((ih hs).of_eq (by simp))).setFloorState _
  | _ => exact hs.of_eq (by simp)

theorem BusLaw.of_eq {s t : State} (h : BusLaw s) (hb : t.bus = s.bus) : BusLaw t := by
  obtain ⟨_⟩ := h
  constructor <;> rw [hb] <;> assumption

theorem BusLaw.unkey {s : State} (h : BusLaw s) : BusLaw (unkey s) := by
  by_cases hk : s.keying.state = .unkeyed
  · have : Machine.unkey s = s := by simp [Machine.unkey, hk]
    rwa [this]
  · have hp : (Machine.unkey s).bus = { s.bus with pollWork := none } := by
      simp [Machine.unkey, hk, withdrawPoll]
    exact (h.work (b := s.bus.believed) rfl h.flight_left h.floor_fresh (pw := none) (by simp)
      (by simp)).of_eq hp

theorem Moves.keeps_bus {s t : State} (h : Moves s t) (hs : BusLaw s) : BusLaw t := by
  induction h with
  | refl => exact hs
  | trans _ _ ih ih' => exact ih' (ih hs)
  | bus s h => exact h hs
  | unkey s => exact hs.unkey
  | turnOver _ _ _ _ _ _ _ _ ih ih' => exact (ih' ((ih hs).of_eq (by simp))).of_eq (by simp)
  | turnBegun _ _ _ _ _ _ ih ih' => exact (ih' ((ih hs).of_eq (by simp))).of_eq (by simp)
  | _ => exact hs.of_eq (by simp)

/-! ### The law of notices -/

/-- A pending set with at most one notice of each kind. -/
def OneEach (l : List Notice) : Prop := (l.map fun n => n.body.kind).Nodup

theorem Seat.receive_oneEach {n : Notice} {r : Seat} (h : OneEach r.notices) :
    OneEach (r.receive n).notices := by
  unfold Seat.receive
  split
  · exact placeNotice_nodup h
  · exact h

theorem NoticeLaw.of_seats {s t : State} (h : NoticeLaw s)
    (hs : ∀ x : SeatNo, OneEach s.seats[x].notices → OneEach t.seats[x].notices) : NoticeLaw t :=
  fun x => hs x (h x)

theorem NoticeLaw.of_eq {s t : State} (h : NoticeLaw s) (hs : t.seats = s.seats) : NoticeLaw t :=
  h.of_seats fun x hx => by rwa [hs]

theorem NoticeLaw.setFloorState {s : State} (h : NoticeLaw s) (new : FloorState) :
    NoticeLaw (setFloorState new s) :=
  h.of_seats fun x hx => by
    rw [setFloorState_seats]
    split
    · exact hx
    · split
      · simpa using Seat.receive_oneEach (Seat.receive_oneEach hx)
      · simpa using Seat.receive_oneEach hx

theorem NoticeLaw.modSeat {s : State} {f : Seat → Seat} {seat : SeatNo} (h : NoticeLaw s)
    (hf : OneEach s.seats[seat].notices → OneEach (f s.seats[seat]).notices) :
    NoticeLaw (modSeat seat f s) :=
  h.of_seats fun x hx => by
    rw [modSeat_getElem]
    split
    · next e => subst e; exact hf hx
    · exact hx

theorem Moves.keeps_notices {s t : State} (h : Moves s t) (hs : NoticeLaw s) : NoticeLaw t := by
  induction h with
  | refl => exact hs
  | trans _ _ ih ih' => exact ih' (ih hs)
  | tell seat body s _ => exact hs.modSeat Seat.receive_oneEach
  | tellAll body s _ =>
    exact hs.of_seats fun x hx => by rw [raiseAll_getElem]; exact Seat.receive_oneEach hx
  | @figures seat f s h =>
    obtain ⟨-, hn, -⟩ := h s.seats[seat]
    exact hs.modSeat fun hx => by rwa [hn]
  | state s _ => exact hs.setFloorState _
  | turnOver _ _ _ _ _ _ _ _ ih ih' => exact (ih' ((ih hs).of_eq (by simp))).setFloorState _
  | turnBegun _ _ _ _ _ _ ih ih' => exact (ih' ((ih hs).of_eq (by simp))).setFloorState _
  | _ => exact hs.of_eq (by simp)

/-! ### The laws of the floor -/

/-- The floor's laws but for the agreement of the holder with the state, and with one seat left out: a seat that
has been detached is still the holder's, or still queued, until the floor has acted on it (R62). -/
structure FloorOpen (out : Option SeatNo) (s : State) : Prop where
  grant_holder      : s.floor.grant.isSome = s.floor.holder.isSome
  holder_attached   : ∀ h, s.floor.holder = some h → some h.seat ≠ out →
    attachedMember s h.seat = some h.member
  count_zero        : s.floor.holder = none → s.floor.turnCount = 0
  queue_seats       : (s.queue.map Entry.seat).Nodup
  queue_attached    : ∀ e ∈ s.queue, some e.seat ≠ out → attachedMember s e.seat = some e.member
  holder_not_queued : ∀ h, s.floor.holder = some h → ∀ e ∈ s.queue, e.seat ≠ h.seat

theorem floorLaw_iff {s : State} : FloorLaw s ↔ FloorOpen none s ∧ HolderMatches s := by
  constructor
  · intro h
    exact ⟨⟨h.grant_holder, fun x hx _ => h.holder_attached x hx, h.count_zero, h.queue_seats,
      fun e he _ => h.queue_attached e he, h.holder_not_queued⟩, h.holder_state⟩
  · rintro ⟨h, hm⟩
    exact ⟨hm, h.grant_holder, fun x hx => h.holder_attached x hx (by simp), h.count_zero, h.queue_seats,
      fun e he => h.queue_attached e he (by simp), h.holder_not_queued⟩

theorem FloorOpen.of_eq {out : Option SeatNo} {s t : State} (h : FloorOpen out s)
    (hg : t.floor.grant = s.floor.grant) (hh : t.floor.holder = s.floor.holder)
    (hc : t.floor.turnCount = s.floor.turnCount) (hq : t.queue = s.queue)
    (ha : ∀ x, attachedMember t x = attachedMember s x) : FloorOpen out t :=
  ⟨by rw [hg, hh]; exact h.grant_holder, by simpa only [hh, ha] using h.holder_attached,
    by rw [hh, hc]; exact h.count_zero, by rw [hq]; exact h.queue_seats,
    by simpa only [hq, ha] using h.queue_attached, by rw [hh, hq]; exact h.holder_not_queued⟩

theorem attachedMember_of_seats {s t : State} (h : t.seats = s.seats) (x : SeatNo) :
    attachedMember t x = attachedMember s x := by simp only [attachedMember, h]

theorem FloorOpen.setFloorState {out : Option SeatNo} {s : State} (h : FloorOpen out s)
    (new : FloorState) : FloorOpen out (setFloorState new s) :=
  h.of_eq (by simp) (by simp) (by simp) (by simp) (setFloorState_seatsKept new s).attachedMember

theorem FloorOpen.cleared {out : Option SeatNo} {s : State} (h : FloorOpen out s) :
    FloorOpen out (s.withFloor s.floor.cleared) :=
  ⟨rfl, fun _ e => by simp [Floor.cleared] at e, fun _ => rfl, h.queue_seats, h.queue_attached,
    fun _ e => by simp [Floor.cleared] at e⟩

/-- R46: the head of the queue becomes the holder. -/
theorem FloorOpen.begun {out : Option SeatNo} {s : State} {e : Entry} {g : Grant} {rest : List Entry}
    (h : FloorOpen out s) (hq : s.queue = e :: rest) :
    FloorOpen out ((s.withQueue rest).withFloor (s.floor.begun e g)) where
  grant_holder := rfl
  holder_attached x hx := by
    obtain rfl : ⟨e.seat, e.member⟩ = x := by simpa [Floor.begun] using hx
    exact h.queue_attached e (by simp [hq])
  count_zero x := by simp [Floor.begun] at x
  queue_seats := by
    have := h.queue_seats
    rw [hq, List.map_cons, List.nodup_cons] at this
    exact this.2
  queue_attached x hx := h.queue_attached x (by rw [hq]; exact List.mem_cons_of_mem _ hx)
  holder_not_queued x hx y hy := by
    obtain rfl : ⟨e.seat, e.member⟩ = x := by simpa [Floor.begun] using hx
    have := h.queue_seats
    rw [hq, List.map_cons, List.nodup_cons] at this
    exact fun he => this.1 (List.mem_map.2 ⟨y, by simpa using hy, he⟩)

theorem Moves.keeps_floorOpen {out : Option SeatNo} {s t : State} (h : Moves s t)
    (hs : FloorOpen out s) : FloorOpen out t := by
  induction h with
  | refl => exact hs
  | trans _ _ ih ih' => exact ih' (ih hs)
  | tell seat body s _ =>
    exact hs.of_eq (by simp) (by simp) (by simp) (by simp) (raise_seatsKept seat body s).attachedMember
  | tellAll body s _ =>
    exact hs.of_eq (by simp) (by simp) (by simp) (by simp) (raiseAll_seatsKept body s).attachedMember
  | figures seat s h =>
    exact hs.of_eq (by simp) (by simp) (by simp) (by simp) (modSeat_seatsKept h seat s).attachedMember
  | floor s h =>
    refine ⟨?_, fun x hx => hs.holder_attached x (h.holder ▸ hx), fun e => ?_, hs.queue_seats,
      hs.queue_attached, fun x hx => hs.holder_not_queued x (h.holder ▸ hx)⟩
    · rcases h.grant with hg | ⟨hg, hh⟩
      · simp [hg, h.holder, hs.grant_holder]
      · simp [hg, hh]
    · rcases h.count with hc | hc
      · simpa [hc] using hs.count_zero (h.holder ▸ e)
      · cases hc.symm.trans (congrArg Option.isSome e)
  | queue s h =>
    exact ⟨hs.grant_holder, hs.holder_attached, hs.count_zero, hs.queue_seats.sublist (h.map _),
      fun e he => hs.queue_attached e (h.subset he),
      fun x hx e he => hs.holder_not_queued x hx e (h.subset he)⟩
  | state s _ => exact hs.setFloorState _
  | turnOver _ _ _ _ _ _ _ _ ih ih' => exact (ih' (ih hs).cleared).setFloorState _
  | turnBegun _ head _ _ _ _ ih ih' => exact (ih' ((ih hs).begun head)).setFloorState _
  | _ => exact hs.of_eq (by simp) (by simp) (by simp) (by simp) (attachedMember_of_seats (by simp))

theorem Moves.keeps_holderMatches {s t : State} (h : Moves s t) (hs : HolderMatches s) :
    HolderMatches t := by
  induction h with
  | refl => exact hs
  | trans _ _ ih ih' => exact ih' (ih hs)
  | floor s h => simpa [HolderMatches, h.holder, h.state] using hs
  | state s h => simpa [HolderMatches] using (h.holder hs).symm
  | turnOver _ _ _ _ none _ left => simp [HolderMatches, none, left]
  | turnBegun _ _ _ _ _ holder => simp [HolderMatches, holder, FloorState.hasHolder]
  | _ => simpa [HolderMatches] using hs

theorem Moves.keeps_floor {s t : State} (h : Moves s t) (hs : FloorLaw s) : FloorLaw t := by
  rw [floorLaw_iff] at hs ⊢
  exact ⟨h.keeps_floorOpen hs.1, h.keeps_holderMatches hs.2⟩

/-- A seat neither holds the floor nor waits for it. -/
structure OffFloor (seat : SeatNo) (s : State) : Prop where
  holder : ∀ h, s.floor.holder = some h → h.seat ≠ seat
  queue  : ∀ e ∈ s.queue, e.seat ≠ seat

theorem OffFloor.of_eq {seat : SeatNo} {s t : State} (h : OffFloor seat s)
    (hh : t.floor.holder = s.floor.holder) (hq : t.queue = s.queue) : OffFloor seat t :=
  ⟨by rw [hh]; exact h.holder, by rw [hq]; exact h.queue⟩

/-- No move brings a seat to the floor or into the queue. -/
theorem Moves.keeps_offFloor {seat : SeatNo} {s t : State} (h : Moves s t) (hs : OffFloor seat s) :
    OffFloor seat t := by
  induction h with
  | refl => exact hs
  | trans _ _ ih ih' => exact ih' (ih hs)
  | floor s h => exact hs.of_eq (by simpa using h.holder) (by simp)
  | queue s h => exact ⟨hs.holder, fun e he => hs.queue e (h.subset he)⟩
  | turnOver _ _ _ _ _ _ _ _ ih ih' =>
    refine (ih' ⟨fun _ e => by simp [Floor.cleared] at e, (ih hs).queue⟩).of_eq (by simp) (by simp)
  | @turnBegun s u t e g rest _ head _ _ _ _ ih ih' =>
    refine (ih' ⟨fun x hx => ?_, fun x hx => ?_⟩).of_eq (by simp) (by simp)
    · obtain rfl : ⟨e.seat, e.member⟩ = x := by simpa [Floor.begun] using hx
      exact (ih hs).queue e (by simp [head])
    · exact (ih hs).queue x (by rw [head]; exact List.mem_cons_of_mem _ hx)
  | _ => exact hs.of_eq (by simp) (by simp)

end Sys2Proof.Machine

/-! SUPPORT. What a step can do: the shapes of a command, and what a property has to be kept by for every step to
keep it. -/

namespace Sys2Proof.Machine

/-- R165: what the order unit carries out. -/
inductive OrderBody : (SeatNo → State → State × Reply) → Prop
  | attach : OrderBody doAttach
  | detach : OrderBody doDetach
  | presence : OrderBody doPresence
  | changeCode : OrderBody doChangeCode
  | memberWrite : OrderBody (withAuthority doMemberWrite)
  | memberRemove : OrderBody (withAuthority doMemberRemove)
  | dayRoll : OrderBody (withAuthority doDayRoll)
  | bandWrite : OrderBody (withAuthority doBandWrite)
  | bandRemove : OrderBody (withAuthority doBandRemove)
  | check : OrderBody doCheck
  | request : OrderBody doRequest
  | withdraw : OrderBody doWithdraw
  | release : OrderBody doRelease
  | forceRelease : OrderBody (withAuthority doForceRelease)
  | ampRestore : OrderBody (withAuthority doAmpRestore)
  | stationWrite : OrderBody (withAuthority doStationWrite)
  | beginService : OrderBody (withAuthority doBeginService)
  | endService : OrderBody (withAuthority doEndService)
  | unknown : OrderBody fun _ s => (s, plain .unknownOrder)

/-- What the act of a command does before an empty setup is complete and the act is closed. -/
inductive Deed (c : Instr) : State → State → Prop
  | moves {s t} (h : Moves s t) : Deed c s t
  | order {accepts carryOut} (s) (h : OrderBody carryOut) : Deed c s (takeOrder accepts carryOut s)
  | presenceExpired (seat s) : Deed c s (presenceExpired seat s)
  | keyedMs (s) : Deed c s (keyedMs s)
  | dutyExpired (s) : Deed c s (dutyExpired s)
  | inhibitTaken (s) : Deed c s (inhibitTaken s)
  | inhibitCleared (s) : Deed c s (inhibitCleared s)
  | ampFaultTaken (s) : Deed c s (ampFaultTaken s)
  | ramWrite (a v s) (h : restartCommand c = true) : Deed c s (ramWrite a v s)
  | handOver (cell s) (h : handedCell c = some cell) : Deed c s (writeToHandover cell 1 s)

/-- The shapes of what a command does. -/
inductive Does (c : Instr) : State → State → Prop
  | same (s) : Does c s s
  | seq {s t u} (hc : restartCommand c = true) (h : Does c s t) (h' : Does c t u) : Does c s u
  | act {s t} (hr : s.pins.resetLow = false) (h : Deed c s t) : Does c s (closeAct s (finishSetup s t))
  | registers (p s) : Does c s (s.withPort p)
  | ampFaultLine (level s) : Does c s (setAmpFault level s)
  | inhibitLine (level) (s) (hr : s.pins.resetLow = true) : Does c s (setInhibit level s)
  | powerOn (s) (h : restartCommand c = true) : Does c s (powerOnState s)
  | released (s) (h : restartCommand c = true) :
      Does c s (powerOnState (s.withPins { s.pins with resetLow := false }))
  | restart (s) (h : restartCommand c = true) : Does c s (restartState s)
  | holdReset (s) : Does c s (holdReset s)

section

variable {c : Instr}

theorem act_does {f : State → State} {s : State} (h : Deed c s (f s)) : Does c s (act f s) := by
  unfold act
  split
  · exact .same s
  · next hr => exact .act (by simpa using hr) h

theorem registerByte_does (hc : restartCommand c = true) (position : Nat) (v : Byte) (s : State) : Does c s (registerByte position v s) := by
  unfold registerByte
  split
  case h_5 =>
    split
    · exact .restart s hc
    · exact .same s
  case h_6 => exact .same s
  all_goals exact .registers _ s

theorem hostByte_does (hc : restartCommand c = true) (a : Nat) (v : Byte) (s : State) : Does c s (hostByte a v s) := by
  unfold hostByte
  split
  · split
    · exact registerByte_does hc ..
    · exact act_does (.ramWrite a v s hc)
  · exact .same s

theorem hostBytes_does (hc : restartCommand c = true) (a : Nat) (data : List Byte) (s : State) : Does c s (hostBytes a data s) := by
  induction data generalizing a s with
  | nil => exact .same s
  | cons v rest ih => exact .seq hc (hostByte_does hc a v s) (ih ..)

theorem transaction_does (hc : restartCommand c = true) (command : Byte) (address : BitVec 16) (data : List Byte) (s : State) :
    Does c s (transaction command address data s) := by
  unfold transaction
  simp only
  split
  · exact .same s
  · split
    · split
      · exact .registers _ s
      · split
        · exact hostBytes_does hc ..
        · exact .registers _ s
    · exact .same s
    · split
      · exact .registers _ s
      · exact .same s

theorem handOver_does {cell : CellRef} (hc : handedCell c = some cell) (s : State) :
    Does c s (handOver cell s) := by
  unfold handOver
  split
  · exact act_does (.handOver cell s hc)
  · exact .same s

/-- A command that the port takes, or leaves alone. -/
theorem portIf_does {s t : State} (h : Does c s t) : Does c s (if portOpen s = true then t else s) := by
  split
  · exact h
  · exact .same s

theorem moved {f : State → State} (h : ∀ s, Moves s (f s)) (s : State) : Does c s (act f s) :=
  act_does (.moves (h s))

theorem ordered {carryOut : SeatNo → State → State × Reply} (h : OrderBody carryOut)
    (accepts : Byte → Bool) (s : State) : Does c s (act (takeOrder accepts carryOut) s) :=
  act_does (.order s h)

theorem txInhibitAsserted_does (s : State) :
    Does c s (if s.pins.txInhibit then s else if s.pins.resetLow then setInhibit true s
      else act inhibitTaken s) := by
  split
  · exact .same s
  · split
    · next hr => exact .inhibitLine true s hr
    · exact act_does (.inhibitTaken s)

theorem txInhibitDeasserted_does (s : State) :
    Does c s (if s.pins.txInhibit then
      (if s.pins.resetLow then setInhibit false s else act inhibitCleared s) else s) := by
  split
  · split
    · next hr => exact .inhibitLine false s hr
    · exact act_does (.inhibitCleared s)
  · exact .same s

theorem ampFaultAsserted_does (s : State) :
    Does c s (if s.pins.ampFault then s else if s.pins.resetLow then setAmpFault true s
      else act ampFaultTaken s) := by
  split
  · exact .same s
  · split
    · exact .ampFaultLine true s
    · exact act_does (.ampFaultTaken s)

end

/-- Every command answers a next state, by one of the shapes. -/
theorem exec_does (c : Instr) (s : State) : ∃ t, exec c s = .next t ∧ Does c s t := by
  cases c
  case powerOn => exact ⟨_, rfl, .powerOn s rfl⟩
  case resetAsserted => exact ⟨_, rfl, .holdReset s⟩
  case resetReleased => exact ⟨_, rfl, .released s rfl⟩
  case restart => exact ⟨_, rfl, portIf_does (.restart s rfl)⟩
  case summaryWrite => exact ⟨_, rfl, portIf_does (.registers _ s)⟩
  case maskWrite => exact ⟨_, rfl, portIf_does (.registers _ s)⟩
  case registerWrite => exact ⟨_, rfl, portIf_does (registerByte_does rfl ..)⟩
  case hostWrite => exact ⟨_, rfl, transaction_does rfl ..⟩
  case orderCellHandover => exact ⟨_, rfl, handOver_does rfl s⟩
  case reportCellReturn => exact ⟨_, rfl, handOver_does rfl s⟩
  case audioCellTake => exact ⟨_, rfl, handOver_does rfl s⟩
  case busCellHandover => exact ⟨_, rfl, handOver_does rfl s⟩
  case exchangeTransactionClose =>
    refine ⟨_, rfl, ?_⟩
    split
    · exact .same s
    · exact .registers _ s
  case attach => exact ⟨_, rfl, ordered .attach ..⟩
  case detach => exact ⟨_, rfl, ordered .detach ..⟩
  case presence => exact ⟨_, rfl, ordered .presence ..⟩
  case changeCode => exact ⟨_, rfl, ordered .changeCode ..⟩
  case memberWrite => exact ⟨_, rfl, ordered .memberWrite ..⟩
  case memberRemove => exact ⟨_, rfl, ordered .memberRemove ..⟩
  case dayRoll => exact ⟨_, rfl, ordered .dayRoll ..⟩
  case bandWrite => exact ⟨_, rfl, ordered .bandWrite ..⟩
  case bandRemove => exact ⟨_, rfl, ordered .bandRemove ..⟩
  case check => exact ⟨_, rfl, ordered .check ..⟩
  case request => exact ⟨_, rfl, ordered .request ..⟩
  case withdraw => exact ⟨_, rfl, ordered .withdraw ..⟩
  case release => exact ⟨_, rfl, ordered .release ..⟩
  case forceRelease => exact ⟨_, rfl, ordered .forceRelease ..⟩
  case ampRestore => exact ⟨_, rfl, ordered .ampRestore ..⟩
  case stationWrite => exact ⟨_, rfl, ordered .stationWrite ..⟩
  case beginService => exact ⟨_, rfl, ordered .beginService ..⟩
  case endService => exact ⟨_, rfl, ordered .endService ..⟩
  case unknownOrder => exact ⟨_, rfl, ordered .unknown ..⟩
  case presenceExpiry => exact ⟨_, rfl, act_does (.presenceExpired ..)⟩
  case setupPlace => exact ⟨_, rfl, moved setUp_moves s⟩
  case startWaitExpiry => exact ⟨_, rfl, moved startWaitExpired_moves s⟩
  case keyDownExpiry => exact ⟨_, rfl, moved keyDownExpired_moves s⟩
  case timeWarning => exact ⟨_, rfl, moved timeWarning_moves s⟩
  case hangExpiry => exact ⟨_, rfl, moved hangExpired_moves s⟩
  case rejoinExpiry => exact ⟨_, rfl, moved rejoinExpired_moves s⟩
  case keyedMillisecond => exact ⟨_, rfl, act_does (.keyedMs s)⟩
  case dutyIntervalExpiry => exact ⟨_, rfl, act_does (.dutyExpired s)⟩
  case leadTimerExpiry => exact ⟨_, rfl, moved leadExpired_moves s⟩
  case playoutStep => exact ⟨_, rfl, moved playoutExpired_moves s⟩
  case trim => exact ⟨_, rfl, moved trimReached_moves s⟩
  case disorderWindowEnd => exact ⟨_, rfl, moved windowEnd_moves s⟩
  case periodicIdExpiry => exact ⟨_, rfl, moved periodicExpired_moves s⟩
  case closingExpiry => exact ⟨_, rfl, moved closingExpired_moves s⟩
  case graceExpiry => exact ⟨_, rfl, moved graceExpired_moves s⟩
  case identKeyRequest => exact ⟨_, rfl, moved askIdent_moves s⟩
  case morseElementEnd => exact ⟨_, rfl, moved elementEnd_moves s⟩
  case idComplete => exact ⟨_, rfl, moved idComplete_moves s⟩
  case overlayComplete => exact ⟨_, rfl, moved overlayComplete_moves s⟩
  case tuneGateToggle => exact ⟨_, rfl, moved toggleGate_moves s⟩
  case txInhibitAsserted => exact ⟨_, rfl, txInhibitAsserted_does s⟩
  case txInhibitDeasserted => exact ⟨_, rfl, txInhibitDeasserted_does s⟩
  case ampFaultAsserted => exact ⟨_, rfl, ampFaultAsserted_does s⟩
  case ampFaultDeasserted => exact ⟨_, rfl, .ampFaultLine false s⟩
  case pollTimerExpiry => exact ⟨_, rfl, moved pollExpired_moves s⟩
  case noStatus => exact ⟨_, rfl, moved noStatusReached_moves s⟩
  case busTransactionStart => exact ⟨_, rfl, moved startTransaction_moves s⟩
  case busAttemptEnd ended => exact ⟨_, rfl, moved (attemptEnd_moves ended) s⟩
  case foreignOpening heard => exact ⟨_, rfl, moved (foreignOpening_moves heard) s⟩
  case busFree => exact ⟨_, rfl, moved busQuiet_moves s⟩
  case busStuck lines => exact ⟨_, rfl, moved (stuck_moves lines) s⟩
  case busRecovery => exact ⟨_, rfl, moved recovered_moves s⟩
  case take => exact ⟨_, rfl, moved (panelMessage_moves .take takeStation_moves) s⟩
  case give => exact ⟨_, rfl, moved (panelMessage_moves .give giveStation_moves) s⟩
  case halt => exact ⟨_, rfl, moved (panelMessage_moves .halt haltStation_moves) s⟩
  case resume => exact ⟨_, rfl, moved (panelMessage_moves .resume resumeStation_moves) s⟩
  case stateQuery asked => exact ⟨_, rfl, moved (answerState_moves asked) s⟩
  case inboundHoldTimeout => exact ⟨_, rfl, moved holdTimedOut_moves s⟩
  case cwKeyTransition => exact ⟨_, rfl, moved cwTransition_moves s⟩

/-- What a property has to be kept by for every step to keep it. -/
structure KeptByStep (P : State → Prop) : Prop where
  act : ∀ c s t, s.pins.resetLow = false → Deed c s t → P s → P (closeAct s (finishSetup s t))
  registers : ∀ s p, P s → P (s.withPort p)
  ampFaultLine : ∀ level s, P s → P (setAmpFault level s)
  inhibitLine : ∀ level s, s.pins.resetLow = true → P s → P (setInhibit level s)
  powerOn : ∀ s, P (powerOnState s)
  restart : ∀ s, P s → P (restartState s)
  holdReset : ∀ s, P s → P (holdReset s)
  pass : ∀ s, s.pins.resetLow = false → P s → P (passMs s)
  pending : ∀ s x, P s → P (s.withPending x)
  free : ∀ s n, P s → P (s.withFree n)

theorem KeptByStep.does {P : State → Prop} (h : KeptByStep P) {c : Instr} {s t : State} (hd : Does c s t) (hs : P s) :
    P t := by
  induction hd with
  | same => exact hs
  | seq _ _ _ ih ih' => exact ih' (ih hs)
  | act hr hd => exact h.act _ _ _ hr hd hs
  | registers p s => exact h.registers s p hs
  | ampFaultLine level s => exact h.ampFaultLine level s hs
  | inhibitLine level s hr => exact h.inhibitLine level s hr hs
  | powerOn s _ => exact h.powerOn s
  | released s _ => exact h.powerOn _
  | restart s _ => exact h.restart s hs
  | holdReset s => exact h.holdReset s hs

theorem KeptByStep.exec {P : State → Prop} (h : KeptByStep P) {c : Instr} {s t : State} (hs : P s)
    (he : exec c s = .next t) : P t := by
  obtain ⟨u, hu, hd⟩ := exec_does c s
  obtain rfl : u = t := by simpa [hu] using he
  exact h.does hd hs

theorem KeptByStep.idle {P : State → Prop} (h : KeptByStep P) {s : State} (hs : P s) : P (idle s) := by
  unfold Machine.idle
  split
  · exact hs
  · next hr =>
    split
    · exact h.pending _ _ (h.pass s (by simpa using hr) hs)
    · unfold chooseDue
      split
      · exact h.pending _ _ hs
      · exact h.pending _ _ (h.free _ _ hs)

/-- A property that everything a step can do keeps is kept by every step. -/
theorem KeptByStep.step {P : State → Prop} (h : KeptByStep P) {s t : State} (hs : P s)
    (he : step s = .next t) : P t := by
  unfold Machine.step at he
  split at he
  · obtain rfl : Machine.idle s = t := by simpa using he
    exact h.idle hs
  · exact h.exec (h.pending s _ hs) he

/-- A property that deeds, moves and the close of an act keep is kept by whole acts. -/
theorem act_kept {P : State → Prop} (hm : ∀ s t, s.pins.resetLow = false → Moves s t → P s → P t)
    (hd : ∀ c s t, s.pins.resetLow = false → Deed c s t → P s → P t) (hc : ∀ b s, P s → P (closeAct b s))
    (hp : ∀ c s t, Deed c s t → t.pins.resetLow = s.pins.resetLow)
    (c : Instr) (s t : State) (hr : s.pins.resetLow = false) (h : Deed c s t) (hs : P s) :
    P (closeAct s (finishSetup s t)) :=
  hc _ _ (hm t _ ((hp c s t h).trans hr) (finishSetup_moves s t) (hd c s t hr h hs))

end Sys2Proof.Machine

/-! SUPPORT. The deeds that are more than moves, in the steps the laws follow: a seat that is vacated, a request that
joins the queue, the take of an order. -/

namespace Sys2Proof.Machine

/-! ### Detachment -/

/-- R11: a seat's attachment and its member's are cleared, and the SEAT notice alone stays. -/
def vacated (seat : SeatNo) (m : MemberNo) (cause : SeatCause) (s : State) : State :=
  modMember m (fun r => { r with attached := none })
    (modSeat seat (fun r => { r with attachment := none, notices := [⟨.seat cause m, s.stamp⟩] }) s)

theorem detachSeat_attached {seat : SeatNo} {m : MemberNo} {s : State} (cause : SeatCause)
    (h : attachedMember s seat = some m) :
    detachSeat seat cause s = floorDetached seat cause.endCause (vacated seat m cause s) := by
  simp only [detachSeat, h, vacated]

theorem detachSeat_vacant {seat : SeatNo} {s : State} (cause : SeatCause)
    (h : attachedMember s seat = none) : detachSeat seat cause s = s := by
  simp only [detachSeat, h]

/-! ### Requests that join the queue -/

/-- R41: a request that may join: its seat is attached to its member, and neither holds the floor nor waits. -/
structure MayJoin (e : Entry) (s : State) : Prop where
  attached : attachedMember s e.seat = some e.member
  off      : OffFloor e.seat s
  notShut  : s.floor.state ≠ .shut

/-- What a REQUEST does to the floor. -/
inductive Requested (s : State) : State → Prop
  | moves {t} (h : Moves s t) : Requested s t
  | joined (e) (h : MayJoin e s) : Requested s (queueChanged (joinQueue e s))
  | rejoined (e) (hang : s.floor.state = .hang) (h : MayJoin e (endTurnCore .released .none s)) :
      Requested s (enterIdle (joinQueue e (endTurnCore .released .none s)))

theorem not_queued_iff {s : State} {seat : SeatNo} :
    queued s seat = false ↔ ∀ e ∈ s.queue, e.seat ≠ seat := by
  simp [queued]

theorem requestQueued_requested {e : Entry} {s : State} (h : MayJoin e s) :
    Requested s (requestQueued e s).1 := by
  unfold requestQueued
  split
  · exact .moves (.refl s)
  · exact .joined e h

/-- A turn's end up to its state changes no attachment. -/
theorem endTurnCore_seatsKept (c : EndCause) (d : EndDetail) (s : State) :
    SeatsKept s (endTurnCore c d s) :=
  have h : Moves s (raiseEnd c d (closeSetup c (unkey s))) :=
    ((Moves.unkey s).trans (closeSetup_moves c _)).trans (raiseEnd_moves c d _)
  h.seatsKept.trans (.of_eq rfl)

theorem endHang_requested {e : Entry} {s : State} {judge : State → State × Reply}
    (hang : s.floor.state = .hang) (ha : attachedMember s e.seat = some e.member)
    (hq : queued s e.seat = false)
    (hj : ∀ u, (judge u).1 = u ∨ (judge u).1 = joinQueue e u) :
    Requested s (endHangWith judge s).1 := by
  have hjoin : MayJoin e (endTurnCore .released .none s) :=
    ⟨((endTurnCore_seatsKept ..).attachedMember _).trans ha,
      ⟨fun x hx => by simp [Floor.cleared] at hx, by simpa using not_queued_iff.1 hq⟩,
      by simp [Floor.cleared, hang]⟩
  unfold endHangWith
  simp only
  rcases hj (endTurnCore .released .none s) with h | h
  · rw [h]
    exact .moves (endTurn_moves (.inl (by simp [hang, FloorState.hasHolder])))
  · rw [h]
    exact .rejoined e hang hjoin

theorem rekey_requested {h : Holder} {e : Entry} {s : State} (hh : s.floor.holder = some h)
    (hang : s.floor.state = .hang) (ha : attachedMember s e.seat = some e.member)
    (hq : queued s e.seat = false) : Requested s (rekey h e s).1 := by
  unfold rekey
  split
  · split
    · exact .moves (.refl s)
    · exact endHang_requested hang ha hq fun u => .inr rfl
    · exact .moves (rekeyGranted_moves hh hang)
  · refine endHang_requested hang ha hq fun u => ?_
    unfold judgeAndJoin
    split
    · exact .inl rfl
    · exact .inr rfl

theorem doRequest_requested (seat : SeatNo) (s : State) : Requested s (doRequest seat s).1 := by
  unfold doRequest
  split
  · exact .moves (.refl s)
  · split
    · exact .moves (.refl s)
    · next m ha =>
      split
      · exact .moves (.refl s)
      · next hns =>
        split
        · exact .moves (.refl s)
        · next r _ =>
          simp only
          split
          · exact .moves (.refl s)
          · split
            · exact .moves (.refl s)
            · split
              · exact .moves (.refl s)
              · next hq =>
                have hq' := not_queued_iff.1 (Bool.eq_false_iff.2 hq)
                split
                · next h hh =>
                  split
                  · next hseat =>
                    split
                    · next hang => exact rekey_requested hh hang ha (Bool.eq_false_iff.2 hq)
                    · exact .moves (.refl s)
                  · next hseat =>
                    refine requestQueued_requested ⟨ha, ⟨fun x hx => ?_, hq'⟩, hns⟩
                    rw [hh] at hx
                    cases hx
                    exact hseat
                · next hh =>
                  exact requestQueued_requested
                    ⟨ha, ⟨fun x hx => by simp [hh] at hx, hq'⟩, hns⟩

/-- R39: an entry that joins is put among those that wait. -/
theorem insertPriority_perm (e : Entry) (q : List Entry) : (insertPriority e q).Perm (e :: q) := by
  induction q with
  | nil => exact .refl _
  | cons h rest ih =>
    unfold insertPriority
    split
    · exact (ih.cons h).trans (.swap e h rest)
    · exact .refl _

theorem insertEntry_perm (fixed : Bool) (e : Entry) (q : List Entry) :
    (insertEntry fixed e q).Perm (e :: q) := by
  unfold insertEntry
  split
  · split
    · exact ((insertPriority_perm e _).cons _).trans (.swap e _ _)
    · exact insertPriority_perm e _
  · exact List.perm_append_singleton e q

/-- A join is a change of the queue and notices of it. -/
theorem joinQueue_moves (e : Entry) (s : State) :
    Moves (s.withQueue (insertEntry (s.floor.state == .resting) e s.queue)) (joinQueue e s) :=
  noticePositions_moves ..

@[simp] theorem noticePositions_queue (p : Nat) (l : List Entry) (s : State) :
    (noticePositions p l s).queue = s.queue := by simp

theorem joinQueue_queue (e : Entry) (s : State) :
    (joinQueue e s).queue = insertEntry (s.floor.state == .resting) e s.queue := by
  simp [joinQueue]

/-! ### The take of an order -/

/-- What holds up to the order, and with the order becomes what holds from it on, holds after the whole. -/
theorem takeOrder_leads {P Q : State → Prop} {accepts : Byte → Bool}
    {carryOut : SeatNo → State → State × Reply}
    (hh : ∀ s l, P s → P (s.withHandovers l)) (hr : ∀ seat s, P s → P (renewPresence seat s))
    (hb : ∀ seat s, P s → Q (carryOut seat s).1) (ha : ∀ seat a s, Q s → Q (placeAnswer seat a s))
    {s : State} (hs : P s) (hq : Q s) : Q (takeOrder accepts carryOut s) := by
  unfold takeOrder
  split
  · exact hq
  · simp only
    split
    · exact ha _ _ _ (hb _ _ (hr _ _ (hh _ _ hs)))
    · exact hq

/-- A property that the take itself keeps, and the order, is kept by the whole. -/
theorem takeOrder_kept {P : State → Prop} {accepts : Byte → Bool}
    {carryOut : SeatNo → State → State × Reply}
    (hh : ∀ s l, P s → P (s.withHandovers l)) (hr : ∀ seat s, P s → P (renewPresence seat s))
    (hb : ∀ seat s, P s → P (carryOut seat s).1) (ha : ∀ seat a s, P s → P (placeAnswer seat a s))
    {s : State} (hs : P s) : P (takeOrder accepts carryOut s) := takeOrder_leads hh hr hb ha hs hs

/-- With authority or without. -/
theorem withAuthority_kept {P : State → Prop} {carryOut : SeatNo → State → State × Reply}
    (hb : ∀ seat s, P s → P (carryOut seat s).1) (seat : SeatNo) (s : State) (hs : P s) :
    P (withAuthority carryOut seat s).1 := by
  unfold withAuthority
  split
  · exact hb seat s hs
  · exact hs

/-! ### Properties of the playout queue, of the bus and of the notices -/

/-- A property that the moves keep, and that reads nothing else but the playout queue, the bus and the pending
notices. -/
structure Loose (P : State → Prop) : Prop where
  moves : ∀ s t, Moves s t → P s → P t
  seat  : ∀ seat f s, (OneEach s.seats[seat].notices → OneEach (f s.seats[seat]).notices) → P s →
    P (modSeat seat f s)
  state : ∀ new s, P s → P (setFloorState new s)
  other : ∀ s t, t.playout = s.playout → t.bus = s.bus → t.seats = s.seats → P s → P t

namespace Loose

variable {P : State → Prop}

theorem vacated (h : Loose P) (seat : SeatNo) (m : MemberNo) (cause : SeatCause) (s : State) (hs : P s) :
    P (vacated seat m cause s) :=
  h.other _ _ (by simp [Machine.vacated]) (by simp [Machine.vacated]) (by simp [Machine.vacated])
    (h.seat seat (fun r => { r with attachment := none, notices := [⟨.seat cause m, s.stamp⟩] }) s
      (fun _ => by simp [OneEach]) hs)

theorem detachSeat (h : Loose P) (seat : SeatNo) (cause : SeatCause) (s : State) (hs : P s) :
    P (detachSeat seat cause s) := by
  cases hm : attachedMember s seat with
  | none => rwa [detachSeat_vacant cause hm]
  | some m =>
    rw [detachSeat_attached cause hm]
    exact h.moves _ _ (floorDetached_moves ..) (h.vacated seat m cause s hs)

theorem members (h : Loose P) (s : State) (x) (hs : P s) : P (s.withMembers x) :=
  h.other s _ rfl rfl rfl hs

theorem revoke (h : Loose P) (m : MemberNo) (s : State) (hs : P s) : P (revoke m s) := by
  unfold Machine.revoke
  split
  · exact h.detachSeat _ _ _ hs
  · exact hs

theorem suspend (h : Loose P) (m : MemberNo) (s : State) (hs : P s) : P (suspend m s) :=
  h.revoke m _ (h.members s _ hs)

theorem enterIdle (h : Loose P) (s : State) (hs : P s) : P (enterIdle s) :=
  h.moves _ _ (serve_moves (.inl (by simp))) (h.state .idle s hs)

theorem endTurnCore (h : Loose P) (c : EndCause) (d : EndDetail) (s : State) (hs : P s) :
    P (endTurnCore c d s) :=
  have hm : Moves s (raiseEnd c d (closeSetup c (unkey s))) :=
    ((Moves.unkey s).trans (closeSetup_moves c _)).trans (raiseEnd_moves c d _)
  h.other _ _ (by rfl) (by rfl) (by rfl) (h.moves _ _ hm hs)

theorem joinQueue (h : Loose P) (e : Entry) (s : State) (hs : P s) : P (joinQueue e s) :=
  h.moves _ _ (joinQueue_moves e s) (h.other s _ rfl rfl rfl hs)

theorem doRequest (h : Loose P) (seat : SeatNo) (s : State) (hs : P s) : P (doRequest seat s).1 := by
  have hr := doRequest_requested seat s
  generalize (Machine.doRequest seat s).1 = t at hr
  cases hr with
  | moves hm => exact h.moves _ _ hm hs
  | joined e _ => exact h.moves _ _ (queueChanged_moves _) (h.joinQueue e s hs)
  | rejoined e _ _ => exact h.enterIdle _ (h.joinQueue e _ (h.endTurnCore _ _ s hs))

theorem doAttach (h : Loose P) (seat : SeatNo) (s : State) (hs : P s) : P (doAttach seat s).1 := by
  unfold Machine.doAttach wrongCode
  (repeat' split) <;> try exact hs
  · exact h.suspend _ s hs
  · exact h.members s _ hs
  · exact h.members _ _ (h.seat seat _ s id hs)

theorem doDetach (h : Loose P) (seat : SeatNo) (s : State) (hs : P s) : P (doDetach seat s).1 := by
  unfold Machine.doDetach
  split
  · exact h.detachSeat _ _ _ hs
  · exact hs

theorem doMemberWrite (h : Loose P) (seat : SeatNo) (s : State) (hs : P s) :
    P (doMemberWrite seat s).1 := by
  unfold Machine.doMemberWrite
  split
  · split
    · exact hs
    · simp only
      split
      · exact h.revoke _ _ (h.members s _ hs)
      · exact h.members s _ hs
  · exact hs

theorem doMemberRemove (h : Loose P) (seat : SeatNo) (s : State) (hs : P s) :
    P (doMemberRemove seat s).1 := by
  unfold Machine.doMemberRemove
  (repeat' split) <;> try exact hs
  exact h.members _ _ (h.suspend _ s hs)

theorem doStationWrite (h : Loose P) (seat : SeatNo) (s : State) (hs : P s) :
    P (doStationWrite seat s).1 := by
  unfold Machine.doStationWrite
  (repeat' split) <;> try exact hs
  exact h.moves _ _ (setBelieved_moves ..) (h.other s _ (by simp) (by simp) (by simp) hs)

theorem detachOthers (h : Loose P) (issuer : SeatNo) (s : State) (hs : P s) :
    P (detachOthers issuer s) := by
  unfold Machine.detachOthers
  generalize List.finRange 12 = l
  induction l generalizing s with
  | nil => exact hs
  | cons x rest ih =>
    refine ih _ ?_
    dsimp only
    split
    · exact hs
    · exact h.detachSeat _ _ _ hs

theorem doEndService (h : Loose P) (seat : SeatNo) (s : State) (hs : P s) :
    P (doEndService seat s).1 := by
  unfold Machine.doEndService
  (repeat' split) <;> try exact hs
  have hq := h.moves _ _ (endEntries_moves .serviceEnd (Machine.detachOthers seat s).queue _)
    (h.detachOthers seat s hs)
  unfold endService
  simp only
  split
  · exact h.other _ _ (by rfl) (by rfl) (by rfl) hq
  · exact h.other _ _ (by rfl) (by rfl) (by rfl) (h.enterIdle _ hq)

/-- A change of tables alone. -/
theorem tables (h : Loose P) {f : SeatNo → State → State × Reply}
    (hp : ∀ seat s, (f seat s).1.playout = s.playout) (hb : ∀ seat s, (f seat s).1.bus = s.bus)
    (hs : ∀ seat s, (f seat s).1.seats = s.seats) (seat : SeatNo) (s : State) (hP : P s) :
    P (f seat s).1 := h.other s _ (hp seat s) (hb seat s) (hs seat s) hP

theorem orderBody (h : Loose P) {carryOut : SeatNo → State → State × Reply} (hb : OrderBody carryOut)
    (seat : SeatNo) (s : State) (hs : P s) : P (carryOut seat s).1 := by
  cases hb with
  | attach => exact h.doAttach seat s hs
  | detach => exact h.doDetach seat s hs
  | memberWrite => exact withAuthority_kept h.doMemberWrite seat s hs
  | memberRemove => exact withAuthority_kept h.doMemberRemove seat s hs
  | request => exact h.doRequest seat s hs
  | withdraw => exact h.moves _ _ (doWithdraw_moves seat s) hs
  | release => exact h.moves _ _ (doRelease_moves seat s) hs
  | forceRelease =>
    exact withAuthority_kept (fun seat s => h.moves _ _ (doForceRelease_moves seat s)) seat s hs
  | ampRestore => exact withAuthority_kept (fun seat s => h.moves _ _ (doAmpRestore_moves seat s)) seat s hs
  | stationWrite => exact withAuthority_kept h.doStationWrite seat s hs
  | endService => exact withAuthority_kept h.doEndService seat s hs
  | unknown => exact hs
  | presence => exact h.tables (by simp) (by simp) (by simp) seat s hs
  | changeCode => exact h.tables (by simp) (by simp) (by simp) seat s hs
  | check => exact h.tables (by simp) (by simp) (by simp) seat s hs
  | dayRoll | bandWrite | bandRemove | beginService =>
    exact withAuthority_kept (h.tables (by simp) (by simp) (by simp)) seat s hs

theorem renewPresence (h : Loose P) (seat : SeatNo) (s : State) (hs : P s) :
    P (renewPresence seat s) := h.seat _ _ s id hs

theorem takeAudioCell (h : Loose P) (seat : SeatNo) (cell : AudioCellNo) (s : State) (hs : P s) :
    P (takeAudioCell seat cell s) := by
  unfold Machine.takeAudioCell
  simp only
  split
  · exact h.moves _ _ (placeFrame_moves ..) (h.renewPresence seat s hs)
  · exact h.moves _ _ (raiseCounter_moves ..) (h.renewPresence seat s hs)

theorem writeToHandover (h : Loose P) (c : CellRef) (v : Byte) (s : State) (hs : P s) :
    P (writeToHandover c v s) := by
  have hw (d : CellRef) (v : Byte) (s : State) (hs : P s) : P (writeHandover d v s) :=
    h.other s _ rfl rfl rfl hs
  unfold Machine.writeToHandover
  split
  · unfold acceptHandover
    simp only
    split
    · exact h.other _ _ (by rfl) (by rfl) (by rfl) (hw (.order ‹_›) 1 s hs)
    · exact hw _ _ s hs
    · exact hw _ _ _ (h.takeAudioCell _ _ _ (hw _ _ s hs))
    · exact h.moves _ _ (judgeBusCell_moves ..) (hw _ _ s hs)
  · exact h.other s _ (by simp) (by simp) (by simp) hs

theorem deed (h : Loose P) {c : Instr} {s t : State} (hd : Deed c s t) (hs : P s) : P t := by
  cases hd with
  | moves hm => exact h.moves _ _ hm hs
  | order _ hb =>
    exact takeOrder_kept (fun s _ => h.other s _ rfl rfl rfl) h.renewPresence (h.orderBody hb)
      (fun seat a s => h.seat seat (fun r => { r with answer := some a }) s id) hs
  | presenceExpired seat =>
    unfold Machine.presenceExpired
    split
    · exact h.detachSeat _ _ _ hs
    · exact hs
  | keyedMs => exact h.other s _ (by simp) (by simp) (by simp) hs
  | dutyExpired =>
    exact h.other _ _ (by simp [Machine.dutyExpired]) (by simp [Machine.dutyExpired])
      (by simp [Machine.dutyExpired])
      (h.moves _ _ (dutyReport_moves (dutyExcess s) (updateHeat s)) (h.other s _ rfl rfl rfl hs))
  | inhibitTaken =>
    exact h.moves _ _ (inhibitReport_moves (by simp))
      (h.moves _ _ (.unkey _) (h.other s _ rfl rfl rfl hs))
  | inhibitCleared =>
    unfold Machine.inhibitCleared
    simp only
    split
    · next hi => exact h.moves _ _ (serve_moves (.inl hi)) (h.other s _ rfl rfl rfl hs)
    · exact h.other s _ rfl rfl rfl hs
  | ampFaultTaken => exact h.moves _ _ (ampFault_moves _) (h.other s _ rfl rfl rfl hs)
  | ramWrite a v =>
    unfold Machine.ramWrite
    split
    · exact h.other s _ (by simp) (by simp) (by simp) hs
    · split
      · exact h.writeToHandover _ _ _ hs
      · split
        · exact h.other s _ (by simp) (by simp) (by simp) hs
        · exact h.other s _ rfl rfl rfl hs
  | handOver c => exact h.writeToHandover _ _ _ hs

end Loose

/-- Before an act is closed no deed touches the reset line. -/
theorem Deed.resetLow {c : Instr} {s t : State} (hd : Deed c s t) : t.pins.resetLow = s.pins.resetLow := by
  cases hd with
  | moves hm =>
    obtain ⟨-, hp, -⟩ := hm.frame
    rw [hp]
  | order _ hb =>
    refine takeOrder_kept (P := fun u => u.pins.resetLow = s.pins.resetLow) (by simp) (by simp)
      (fun seat u hu => ?_) (by simp) rfl
    cases hb <;> simp [withAuthority] <;> (try split) <;> simp [hu]
  | inhibitTaken => simp [Machine.inhibitTaken, setInhibit]
  | inhibitCleared =>
    unfold Machine.inhibitCleared
    simp only
    split <;> simp [setInhibit]
  | ampFaultTaken =>
    unfold Machine.ampFaultTaken
    simp only
    split <;> simp [setAmpFault]
  | _ => simp

theorem loose_playout : Loose PlayoutLaw where
  moves _ _ hm := hm.keeps_playout
  seat _ _ _ _ h := h.of_eq (by simp)
  state new _ h := h.setFloorState new
  other _ _ hp _ _ h := h.of_eq hp

theorem loose_bus : Loose BusLaw where
  moves _ _ hm := hm.keeps_bus
  seat _ _ _ _ h := h.of_eq (by simp)
  state _ _ h := h.of_eq (by simp)
  other _ _ _ hb _ h := h.of_eq hb

theorem loose_notices : Loose NoticeLaw where
  moves _ _ hm := hm.keeps_notices
  seat _ _ _ hf h := h.modSeat hf
  state new _ h := h.setFloorState new
  other _ _ _ _ hs h := h.of_eq hs

end Sys2Proof.Machine

/-! O56, O59: the laws of the playout queue, of the heat level, of the bus, which the moves keep. -/

namespace Sys2Proof.Machine

/-! ### The playout queue (R86, R87) -/

theorem playoutLaw_reset : PlayoutLaw State.reset := by constructor <;> simp [State.reset, Playout.initial]

theorem playout_keptByStep : KeptByStep PlayoutLaw where
  act := act_kept (fun _ _ _ hm => hm.keeps_playout) (fun _ _ _ _ hd => loose_playout.deed hd)
    (fun _ _ h => h.of_eq (by simp)) fun _ _ _ hd => hd.resetLow
  registers _ _ h := h.of_eq rfl
  ampFaultLine _ _ h := h.of_eq rfl
  inhibitLine _ _ _ h := h.of_eq rfl
  powerOn _ := playoutLaw_reset.of_eq rfl
  restart _ _ := playoutLaw_reset.of_eq rfl
  holdReset _ h := h.unkey.of_eq rfl
  pass _ _ h := ⟨h.no_point, h.window, h.distinct, h.early, h.trim⟩
  pending _ _ h := h.of_eq rfl
  free _ _ h := h.of_eq rfl

/-! ### The heat level (R71, R72) -/

theorem HeatLaw.of_eq {s t : State} (h : HeatLaw s) (hd : t.duty = s.duty) (hs : t.station = s.station) :
    HeatLaw t := ⟨by rw [hd, hs]; exact h.heat, by rw [hd]; exact h.tally⟩

theorem Moves.keeps_heat {s t : State} (hm : Moves s t) (h : HeatLaw s) : HeatLaw t := by
  obtain ⟨-, -, -, -, -, -, hs, hd, -⟩ := hm.frame
  exact h.of_eq hd hs

/-- R79: a record that is written brings the heat level below its new limit. -/
theorem doStationWrite_heat (seat : SeatNo) (s : State) (h : HeatLaw s) :
    HeatLaw (doStationWrite seat s).1 := by
  unfold doStationWrite limitHeat
  (repeat' split) <;> try exact h
  · exact ⟨by simp [forgetMoved, refreshQ], by simpa [forgetMoved, refreshQ] using h.tally⟩
  · next hq => exact ⟨by simpa [forgetMoved] using hq, by simpa [forgetMoved] using h.tally⟩

theorem orderBody_heat {carryOut : SeatNo → State → State × Reply} (hb : OrderBody carryOut)
    (seat : SeatNo) (s : State) (h : HeatLaw s) : HeatLaw (carryOut seat s).1 := by
  cases hb
  case stationWrite => exact withAuthority_kept doStationWrite_heat seat s h
  case memberWrite | memberRemove | dayRoll | bandWrite | bandRemove | forceRelease | ampRestore
      | beginService | endService =>
    exact withAuthority_kept (fun _ _ h => h.of_eq (by simp) (by simp)) seat s h
  all_goals exact h.of_eq (by simp) (by simp)

theorem tallyMs_heat (s : State) (h : HeatLaw s) : HeatLaw (tallyMs s) := by
  unfold tallyMs
  split
  · next ht => exact ⟨h.heat, by simp at ht ⊢; omega⟩
  · exact h

theorem keyedMs_heat (s : State) (h : HeatLaw s) : HeatLaw (keyedMs s) := by
  unfold keyedMs
  split
  · exact h
  · exact (tallyMs_heat s h).of_eq (by simp) (by simp)

theorem Deed.keeps_heat {c : Instr} {s t : State} (hd : Deed c s t) (h : HeatLaw s) : HeatLaw t := by
  cases hd with
  | moves hm => exact hm.keeps_heat h
  | order _ hb =>
    exact takeOrder_kept (fun _ _ h => h.of_eq rfl rfl) (fun _ _ h => h.of_eq (by simp) (by simp))
      (orderBody_heat hb) (fun _ _ _ h => h.of_eq (by simp) (by simp)) h
  | keyedMs => exact keyedMs_heat s h
  | dutyExpired =>
    have hu : HeatLaw (updateHeat s) := ⟨Nat.min_le_left .., Nat.zero_le _⟩
    exact ((dutyReport_moves (dutyExcess s) _).keeps_heat hu).of_eq (by simp [Machine.dutyExpired])
      (by simp [Machine.dutyExpired])
  | _ => exact h.of_eq (by simp) (by simp)

theorem heat_keptByStep : KeptByStep HeatLaw where
  act := act_kept (fun _ _ _ hm => hm.keeps_heat) (fun _ _ _ _ hd => hd.keeps_heat)
    (fun _ _ h => h.of_eq (by simp) (by simp)) fun _ _ _ hd => hd.resetLow
  registers _ _ h := h.of_eq rfl rfl
  ampFaultLine _ _ h := h.of_eq rfl rfl
  inhibitLine _ _ _ h := h.of_eq rfl rfl
  powerOn _ := ⟨Nat.zero_le _, Nat.zero_le _⟩
  restart _ _ := ⟨Nat.zero_le _, Nat.zero_le _⟩
  holdReset _ h := h.of_eq (by simp [holdReset]) (by simp [holdReset])
  pass _ _ h := ⟨h.heat, h.tally⟩
  pending _ _ h := h.of_eq rfl rfl
  free _ _ h := h.of_eq rfl rfl

/-- Settles O56: the playout queue and the heat level are written by moves and deeds that keep their laws. -/
theorem everyStepKeepsThePlayoutAndHeatLaws : Obligations.EveryStepKeepsThePlayoutAndHeatLaws := by
  unfold Obligations.EveryStepKeepsThePlayoutAndHeatLaws
  exact fun s t he => ⟨fun h => playout_keptByStep.step h he, fun h => heat_keptByStep.step h he⟩

/-! ### The bus (R138, R151, R152) -/

theorem BusLaw.withdrawPoll {s : State} (h : BusLaw s) : BusLaw (withdrawPoll s) :=
  (withdrawPoll_moves s).keeps_bus h

theorem settlePoll_bus (s : State) (h : BusLaw s) : BusLaw (settlePoll s) := by
  unfold settlePoll
  (repeat' split)
  · exact h
  · exact h.of_eq rfl
  · exact (h.of_eq (t := s.withKeying { s.keying with poll := none, failures := 0 }) rfl).withdrawPoll
  · exact h

theorem closeAct_bus (before s : State) (h : BusLaw s) : BusLaw (closeAct before s) :=
  (settlePoll_bus (settleClosing before s) (h.of_eq (by simp))).of_eq (by simp [closeAct])

theorem holdReset_bus (s : State) (h : BusLaw s) : BusLaw (holdReset s) := by
  have hu : BusLaw (unkey s) := h.unkey
  exact ⟨by simp [holdReset], hu.flight_left, hu.floor_fresh, hu.cell_fresh, hu.poll_fresh, hu.poll_once,
    by simp [holdReset], by simp [holdReset], by simp [holdReset], by simp [holdReset],
    by simp [holdReset], by simp [holdReset], by simp [holdReset]⟩

theorem busLaw_reset : BusLaw State.reset := by constructor <;> simp [State.reset, Bus.initial]

theorem bus_keptByStep : KeptByStep BusLaw where
  act := act_kept (fun _ _ _ hm => hm.keeps_bus) (fun _ _ _ _ hd => loose_bus.deed hd)
    closeAct_bus fun _ _ _ hd => hd.resetLow
  registers _ _ h := h.of_eq rfl
  ampFaultLine _ _ h := h.of_eq rfl
  inhibitLine _ _ _ h := h.of_eq rfl
  powerOn _ := busLaw_reset.of_eq rfl
  restart _ _ := busLaw_reset.of_eq rfl
  holdReset := holdReset_bus
  pass _ _ h := ⟨h.open_sending, h.flight_left, h.floor_fresh, h.cell_fresh, h.poll_fresh, h.poll_once,
    h.followed_following, fun e => h.hold_following (by simpa [passMs, countDown] using e), h.closed_done,
    h.unfollowed_listening, h.closed_passed, h.closed_heard, h.stuck_none⟩
  pending _ _ h := h.of_eq rfl
  free _ _ h := h.of_eq rfl

/-- Settles O59: the work list and the engine are written by moves that keep their laws. -/
theorem everyStepKeepsTheBusLaw : Obligations.EveryStepKeepsTheBusLaw := by
  unfold Obligations.EveryStepKeepsTheBusLaw
  exact fun s t h he => bus_keptByStep.step h he

/-! ### Notices (R166) -/

/-- R167: what the close of an act leaves of a seat. -/
theorem closeAct_seats (before s : State) (x : SeatNo) :
    (closeAct before s).seats[x] = s.seats[x]
      ∨ (closeAct before s).seats[x] = { s.seats[x] with notices := [], answer := none } := by
  obtain ⟨u, hu, ht⟩ := composeReports_agrees x
    (settleBoard before (settleLines (settlePoll (settleClosing before s))))
  have hs : u.seats[x] = s.seats[x] := by rw [hu.record]; simp
  rw [closeAct, ht.record, composeReport]
  split
  · exact .inr (by rw [writeReport_seats, if_pos rfl, hs])
  · exact .inl hs

theorem closeAct_notices (before s : State) (h : NoticeLaw s) : NoticeLaw (closeAct before s) :=
  h.of_seats fun x hx => by
    rcases closeAct_seats before s x with e | e
    · rwa [e]
    · simp [e, OneEach]

theorem noticeLaw_reset : NoticeLaw State.reset := fun x => by simp [State.reset, Seat.vacant]

theorem notices_keptByStep : KeptByStep NoticeLaw where
  act := act_kept (fun _ _ _ hm => hm.keeps_notices) (fun _ _ _ _ hd => loose_notices.deed hd)
    closeAct_notices fun _ _ _ hd => hd.resetLow
  registers _ _ h := h.of_eq rfl
  ampFaultLine _ _ h := h.of_eq rfl
  inhibitLine _ _ _ h := h.of_eq rfl
  powerOn _ := noticeLaw_reset.of_eq rfl
  restart _ _ := noticeLaw_reset.of_eq rfl
  holdReset _ h := h.of_eq (by simp [holdReset])
  pass _ _ h := h.of_eq (by simp [passMs])
  pending _ _ h := h.of_eq rfl
  free _ _ h := h.of_eq rfl

end Sys2Proof.Machine

/-! O53 to O55: the laws of PTT_OUT, of the floor and the queue, and of the identification record. -/

namespace Sys2Proof.Machine

/-! ### Properties of the floor, the queue, the keying unit and the identification record -/

/-- Nothing of the floor, the queue, the keying unit, the identification record, the mode and the lines has
changed, and neither time nor the board has moved on. -/
structure FloorSame (s t : State) : Prop where
  floor  : t.floor = s.floor
  queue  : t.queue = s.queue
  keying : t.keying = s.keying
  ident  : t.ident = s.ident
  mode   : t.mode = s.mode
  pins   : t.pins = s.pins
  stamp  : t.stamp = s.stamp
  count  : t.page.updateCount = s.page.updateCount

/-- A property that the moves keep, and the few deeds that are more than moves, an attachment not among them: a
detachment, a join, and the changes of the mode and of TX_INHIBIT; and that reads nothing else but the floor, the
queue, the keying unit, the identification record, who is attached, and what is pending for them. -/
structure Steady (P : State → Prop) : Prop where
  moves   : ∀ s t, s.pins.resetLow = false → Moves s t → P s → P t
  detach  : ∀ seat cause s, s.pins.resetLow = false → P s → P (detachSeat seat cause s)
  request : ∀ s t, s.pins.resetLow = false → Requested s t → P s → P t
  begins  : ∀ s, s.mode = .configuring → P s → P (s.withMode .serving)
  ends    : ∀ seat s, s.pins.resetLow = false → stationFree s = true → P s → P (endService seat s)
  inhibit : ∀ s, P s → P (unkey (setInhibit true s))
  cleared : ∀ s, P s → P (setInhibit false s)
  fault   : ∀ s, P s → P (setAmpFault true s)
  inert   : ∀ s t, FloorSame s t → (∀ x, attachedMember t x = attachedMember s x) →
    (∀ x : SeatNo, t.seats[x].notices = s.seats[x].notices) → P s → P t

/-- R9: such a property that an attachment keeps too. -/
structure Tight (P : State → Prop) : Prop extends Steady P where
  attach : ∀ seat m s, attachedMember s seat = none → P s → P (attachSeat seat m s)

/-- As an order is carried out, the take has left the floor alone and detached nobody. -/
def AtTake (s u : State) : Prop := u.floor = s.floor ∧ ∀ x, attachedMember u x = attachedMember s x

theorem limitHeat_updateCount (s : State) : (limitHeat s).page.updateCount = s.page.updateCount := by
  unfold limitHeat
  split <;> simp [refreshQ]

/-- R79: a STATION_WRITE writes the page, but it is no rewrite of the board. -/
@[simp] theorem doStationWrite_updateCount (seat : SeatNo) (s : State) :
    (doStationWrite seat s).1.page.updateCount = s.page.updateCount := by
  unfold doStationWrite
  (repeat' split) <;> simp [limitHeat_updateCount, stampPage]

/-- R13: the renewal of a deadline detaches nobody. -/
theorem attachedMember_renewed (seat : SeatNo) (s : State) (x : SeatNo) :
    attachedMember (renewPresence seat s) x = attachedMember s x := by
  simp only [attachedMember, renewPresence, modSeat_getElem]
  split
  · next e => subst e; cases s.seats[x].attachment <;> rfl
  · rfl

namespace Steady

variable {P : State → Prop}

theorem other (h : Steady P) {s t : State} (hf : FloorSame s t) (hs : t.seats = s.seats) (hP : P s) :
    P t := h.inert s t hf (attachedMember_of_seats hs) (fun x => by rw [hs]) hP

theorem members (h : Steady P) (s : State) (x) (hs : P s) : P (s.withMembers x) :=
  h.other (by constructor <;> rfl) (by rfl) hs

theorem revoke (h : Steady P) (m : MemberNo) (s : State) (hr : s.pins.resetLow = false) (hs : P s) :
    P (revoke m s) := by
  unfold Machine.revoke
  split
  · exact h.detach _ _ _ hr hs
  · exact hs

theorem suspend (h : Steady P) (m : MemberNo) (s : State) (hr : s.pins.resetLow = false) (hs : P s) :
    P (suspend m s) := h.revoke m _ hr (h.members s _ hs)

theorem doAttach (h : Steady P) (seat : SeatNo) (s : State) (hr : s.pins.resetLow = false) (hs : P s)
    (ha : ∀ m, attachedMember s seat = none → P (attachSeat seat m s)) : P (doAttach seat s).1 := by
  unfold Machine.doAttach wrongCode
  split
  · exact hs
  · next hv =>
    have hv' : attachedMember s seat = none := by simpa using hv
    (repeat' split) <;> try exact hs
    · exact h.suspend _ s hr hs
    · exact h.members s _ hs
    · exact ha _ hv'

theorem doDetach (h : Steady P) (seat : SeatNo) (s : State) (hr : s.pins.resetLow = false) (hs : P s) :
    P (doDetach seat s).1 := by
  unfold Machine.doDetach
  split
  · exact h.detach _ _ _ hr hs
  · exact hs

theorem doMemberWrite (h : Steady P) (seat : SeatNo) (s : State) (hr : s.pins.resetLow = false)
    (hs : P s) : P (doMemberWrite seat s).1 := by
  unfold Machine.doMemberWrite
  split
  · split
    · exact hs
    · simp only
      split
      · exact h.revoke _ _ hr (h.members s _ hs)
      · exact h.members s _ hs
  · exact hs

theorem doMemberRemove (h : Steady P) (seat : SeatNo) (s : State) (hr : s.pins.resetLow = false)
    (hs : P s) : P (doMemberRemove seat s).1 := by
  unfold Machine.doMemberRemove
  (repeat' split) <;> try exact hs
  exact h.members _ _ (h.suspend _ s hr hs)

theorem doBeginService (h : Steady P) (seat : SeatNo) (s : State) (hs : P s) :
    P (doBeginService seat s).1 := by
  unfold Machine.doBeginService
  (repeat' split) <;> try exact hs
  next hm _ => exact h.begins s (by simpa using hm) hs

theorem doEndService (h : Steady P) (seat : SeatNo) (s : State) (hr : s.pins.resetLow = false)
    (hs : P s) : P (doEndService seat s).1 := by
  unfold Machine.doEndService
  (repeat' split) <;> try exact hs
  next hf _ => exact h.ends seat s hr (by simpa using hf) hs

/-- A change of tables alone. -/
theorem tables (h : Steady P) {f : SeatNo → State → State × Reply} (seat : SeatNo) (s : State)
    (hf : FloorSame s (f seat s).1) (hx : (f seat s).1.seats = s.seats) (hP : P s) : P (f seat s).1 :=
  h.other hf hx hP

theorem withAuthority (h : ∀ seat s, s.pins.resetLow = false → P s → P (carryOut seat s).1)
    (seat : SeatNo) (s : State) (hr : s.pins.resetLow = false) (hs : P s) :
    P (withAuthority carryOut seat s).1 := by
  unfold Machine.withAuthority
  split
  · exact h seat s hr hs
  · exact hs

theorem orderBody (h : Steady P) {carryOut : SeatNo → State → State × Reply} (hb : OrderBody carryOut)
    (seat : SeatNo) (s : State) (hr : s.pins.resetLow = false) (hs : P s)
    (ha : ∀ m, attachedMember s seat = none → P (attachSeat seat m s)) : P (carryOut seat s).1 := by
  cases hb with
  | attach => exact h.doAttach seat s hr hs ha
  | detach => exact h.doDetach seat s hr hs
  | memberWrite => exact withAuthority h.doMemberWrite seat s hr hs
  | memberRemove => exact withAuthority h.doMemberRemove seat s hr hs
  | request => exact h.request s _ hr (doRequest_requested seat s) hs
  | withdraw => exact h.moves _ _ hr (doWithdraw_moves seat s) hs
  | release => exact h.moves _ _ hr (doRelease_moves seat s) hs
  | forceRelease =>
    exact withAuthority (fun seat s hr => h.moves _ _ hr (doForceRelease_moves seat s)) seat s hr hs
  | ampRestore =>
    exact withAuthority (fun seat s hr => h.moves _ _ hr (doAmpRestore_moves seat s)) seat s hr hs
  | beginService => exact withAuthority (fun seat s _ => h.doBeginService seat s) seat s hr hs
  | endService => exact withAuthority h.doEndService seat s hr hs
  | unknown => exact hs
  | presence | changeCode | check =>
    exact h.tables seat s (by constructor <;> simp) (by simp) hs
  | dayRoll | bandWrite | bandRemove | stationWrite =>
    exact withAuthority (fun seat s _ => h.tables seat s (by constructor <;> simp) (by simp)) seat s hr hs

theorem renewPresence (h : Steady P) (seat : SeatNo) (s : State) (hs : P s) :
    P (renewPresence seat s) :=
  h.inert s _ (by constructor <;> simp) (attachedMember_renewed seat s) (fun x => by
    simp only [Machine.renewPresence, modSeat_getElem]
    split
    · next e => rw [e]
    · rfl) hs

theorem takeAudioCell (h : Steady P) (seat : SeatNo) (cell : AudioCellNo) (s : State)
    (hr : s.pins.resetLow = false) (hs : P s) : P (takeAudioCell seat cell s) := by
  unfold Machine.takeAudioCell
  simp only
  split
  · exact h.moves _ _ (by simpa using hr) (placeFrame_moves ..) (h.renewPresence seat s hs)
  · exact h.moves _ _ (by simpa using hr) (raiseCounter_moves ..) (h.renewPresence seat s hs)

theorem writeToHandover (h : Steady P) (c : CellRef) (v : Byte) (s : State)
    (hr : s.pins.resetLow = false) (hs : P s) : P (writeToHandover c v s) := by
  have hw (d : CellRef) (v : Byte) (s : State) (hs : P s) : P (writeHandover d v s) :=
    h.other (by constructor <;> rfl) (by rfl) hs
  unfold Machine.writeToHandover
  split
  · unfold acceptHandover
    simp only
    split
    · exact h.other (by constructor <;> rfl) (by rfl)
        (hw (.order ‹_›) 1 s hs)
    · exact hw _ _ s hs
    · exact hw _ _ _ (h.takeAudioCell _ _ _ (by simpa using hr) (hw _ _ s hs))
    · exact h.moves _ _ (by simpa using hr) (judgeBusCell_moves ..) (hw _ _ s hs)
  · exact h.other (by constructor <;> simp) (by simp) hs

theorem keyedMs (h : Steady P) (s : State) (hr : s.pins.resetLow = false) (hs : P s) :
    P (keyedMs s) := by
  unfold Machine.keyedMs
  split
  · exact hs
  · have ht : P (tallyMs s) :=
      h.other (by constructor <;> simp) (by simp) hs
    exact h.other (by constructor <;> simp) (by simp)
      (h.moves _ _ (by simpa using hr) (turnMs_moves _) ht)

theorem ramWrite (h : Steady P) (a : Nat) (v : Byte) (s : State) (hr : s.pins.resetLow = false)
    (hs : P s) : P (ramWrite a v s) := by
  unfold Machine.ramWrite
  split
  · exact h.other (by constructor <;> simp) (by simp) hs
  · split
    · exact h.writeToHandover _ _ _ hr hs
    · split
      · exact h.other (by constructor <;> simp) (by simp) hs
      · exact h.other (by constructor <;> rfl) (by rfl) hs

theorem placeAnswer (h : Steady P) (seat : SeatNo) (a : Answer) (s : State) (hs : P s) :
    P (placeAnswer seat a s) :=
  h.inert s _ (by constructor <;> simp) (fun x => by
    simp only [attachedMember, Machine.placeAnswer, modSeat_getElem]
    split
    · next e => rw [e]
    · rfl) (fun x => by
    simp only [Machine.placeAnswer, modSeat_getElem]
    split
    · next e => rw [e]
    · rfl) hs

theorem order (h : Steady P) {accepts : Byte → Bool} {carryOut : SeatNo → State → State × Reply} {s : State}
    (hr : s.pins.resetLow = false) (hb : OrderBody carryOut) (hs : P s)
    (ha : ∀ seat m u, AtTake s u → attachedMember u seat = none → P u → P (attachSeat seat m u)) :
    P (takeOrder accepts carryOut s) := by
  refine takeOrder_leads (P := fun u => u.pins.resetLow = false ∧ P u ∧ AtTake s u) ?_ ?_ ?_ h.placeAnswer
    ⟨hr, hs, rfl, fun _ => rfl⟩ hs
  · exact fun u l ⟨hr, hu, ht⟩ => ⟨hr, h.other (by constructor <;> rfl) (by rfl) hu, ht⟩
  · exact fun seat u ⟨hr, hu, hf, ht⟩ => ⟨by simpa using hr, h.renewPresence seat u hu, by simpa using hf,
      fun x => (attachedMember_renewed seat u x).trans (ht x)⟩
  · exact fun seat u ⟨hr, hu, ht⟩ => h.orderBody hb seat u hr hu fun m hv => ha seat m u ht hv hu

theorem deed (h : Steady P) {s t : State} (hr : s.pins.resetLow = false) (hd : Deed c s t) (hs : P s)
    (ha : ∀ seat m u, AtTake s u → attachedMember u seat = none → P u → P (attachSeat seat m u)) : P t := by
  cases hd with
  | moves hm => exact h.moves _ _ hr hm hs
  | order _ hb => exact h.order hr hb hs ha
  | presenceExpired seat =>
    unfold Machine.presenceExpired
    split
    · exact h.detach _ _ _ hr hs
    · exact hs
  | keyedMs => exact h.keyedMs s hr hs
  | dutyExpired =>
    have hu : P (updateHeat s) := h.other (by constructor <;> rfl) (by rfl) hs
    exact h.other (by constructor <;> simp [Machine.dutyExpired, refreshFigures]) (by simp [Machine.dutyExpired])
      (h.moves _ _ (by simpa using hr) (dutyReport_moves (dutyExcess s) (updateHeat s)) hu)
  | inhibitTaken =>
    exact h.moves _ _ (by simpa [setInhibit] using hr) (inhibitReport_moves (by simp)) (h.inhibit s hs)
  | inhibitCleared =>
    unfold Machine.inhibitCleared
    simp only
    split
    · next hi => exact h.moves _ _ (by simpa [setInhibit] using hr) (serve_moves (.inl hi)) (h.cleared s hs)
    · exact h.cleared s hs
  | ampFaultTaken =>
    exact h.moves _ _ (by simpa [setAmpFault] using hr) (ampFault_moves _) (h.fault s hs)
  | ramWrite a v => exact h.ramWrite a v s hr hs
  | handOver c => exact h.writeToHandover _ _ _ hr hs

end Steady

theorem Tight.deed {P : State → Prop} {c : Instr} {s t : State} (h : Tight P) (hr : s.pins.resetLow = false)
    (hd : Deed c s t) (hs : P s) : P t :=
  h.toSteady.deed hr hd hs fun seat m u _ hv => h.attach seat m u hv

end Sys2Proof.Machine

/-! O53 to O55: the laws of PTT_OUT, of the floor and the queue, and of the identification record. -/

namespace Sys2Proof.Machine

/-! ### The law of PTT_OUT (R130) -/

/-- R11: nothing is keyed by a detachment. -/
theorem detachSeat_unkeyed {seat : SeatNo} {cause : SeatCause} {s : State}
    (h : s.keying.state = .unkeyed) : (detachSeat seat cause s).keying.state = .unkeyed := by
  unfold detachSeat
  split
  · exact h
  · simp only [floorDetached, endTurn]
    (repeat' split) <;> simp [h]

theorem detachOthers_induct {P : State → Prop} {issuer : SeatNo}
    (h : ∀ seat s, P s → P (detachSeat seat .serviceEnd s)) {s : State} (hs : P s) :
    P (detachOthers issuer s) := by
  unfold detachOthers
  generalize List.finRange 12 = l
  induction l generalizing s with
  | nil => exact hs
  | cons x rest ih =>
    refine ih ?_
    dsimp only
    split
    · exact hs
    · exact h _ _ hs

/-- R179: with the station free END_SERVICE finds it unkeyed, and leaves it so. -/
theorem endService_unkeyed {seat : SeatNo} {s : State} (hf : stationFree s = true) (h : KeyingLaw s) :
    (endService seat s).keying.state = .unkeyed := by
  have hu : s.keying.state = .unkeyed := by
    by_contra hk
    rcases h.floor hk with e | e <;> simp [stationFree, e, FloorState.panel] at hf
  have hd : (detachOthers seat s).keying.state = .unkeyed :=
    detachOthers_induct (P := fun s => s.keying.state = .unkeyed) (fun _ _ => detachSeat_unkeyed) hu
  unfold endService
  simp only
  split <;> simpa using hd

theorem KeyingLaw.vacated {s : State} (h : KeyingLaw s) (seat : SeatNo) (m : MemberNo) (cause : SeatCause) :
    KeyingLaw (vacated seat m cause s) :=
  h.of_eq (by simp [Machine.vacated]) (by simp [Machine.vacated]) (by simp [Machine.vacated])
    (by simp [Machine.vacated])

theorem KeyingLaw.endTurnCore (c : EndCause) (d : EndDetail) (s : State) : KeyingLaw (endTurnCore c d s) :=
  .of_unkeyed (endTurnCore_unkeyed c d s)

theorem KeyingLaw.detachSeat {s : State} (h : KeyingLaw s) (hr : s.pins.resetLow = false) (seat : SeatNo)
    (cause : SeatCause) : KeyingLaw (detachSeat seat cause s) := by
  cases hm : attachedMember s seat with
  | none => rwa [detachSeat_vacant cause hm]
  | some m =>
    rw [detachSeat_attached cause hm]
    exact (floorDetached_moves ..).keeps_keying (by simpa [Machine.vacated] using hr) (h.vacated ..)

theorem KeyingLaw.joinQueue {s : State} (h : KeyingLaw s) (e : Entry) : KeyingLaw (joinQueue e s) :=
  h.of_eq (by simp) (by simp) (by simp) (by simp)

theorem KeyingLaw.requested {s t : State} (hr : s.pins.resetLow = false) (ht : Requested s t)
    (h : KeyingLaw s) : KeyingLaw t := by
  cases ht with
  | moves hm => exact hm.keeps_keying hr h
  | joined e _ => exact (queueChanged_moves _).keeps_keying (by simpa using hr) (h.joinQueue e)
  | rejoined e _ _ => exact .of_unkeyed (by simp)

theorem tight_keying : Tight KeyingLaw where
  moves _ _ hr hm := hm.keeps_keying hr
  detach seat cause _ hr h := h.detachSeat hr seat cause
  request _ _ hr ht := .requested hr ht
  attach _ _ _ _ h := h.of_eq (by simp) (by simp) (by simp) (by simp)
  begins _ hm h := .of_unkeyed (by
    by_contra hk
    simp [h.serving hk] at hm)
  ends _ _ _ hf h := .of_unkeyed (endService_unkeyed hf h)
  inhibit _ _ := .of_unkeyed (by simp)
  cleared _ h := ⟨h.floor, h.serving, fun _ => rfl, h.reset⟩
  fault _ h := ⟨h.floor, h.serving, h.inhibit, h.reset⟩
  inert _ _ hf _ _ h := h.of_eq (by rw [hf.keying]) (by rw [hf.floor]) hf.mode hf.pins

theorem KeyingLaw.closeAct {s : State} (h : KeyingLaw s) (before : State) : KeyingLaw (closeAct before s) :=
  h.of_eq (closeAct_kept before s .keying).1 (by simp) (by simp) (by simp)

theorem keyingLaw_reset : KeyingLaw State.reset := .of_unkeyed rfl

theorem keying_keptByStep : KeptByStep KeyingLaw where
  act := act_kept (fun _ _ hr hm => hm.keeps_keying hr) (fun _ _ _ hr hd => tight_keying.deed hr hd)
    (fun b _ h => h.closeAct b) fun _ _ _ hd => hd.resetLow
  registers _ _ h := h.of_eq rfl rfl rfl rfl
  ampFaultLine _ _ h := ⟨h.floor, h.serving, h.inhibit, h.reset⟩
  inhibitLine _ s hr h := .of_unkeyed (s := setInhibit _ s) (by
    by_contra hk
    simp [h.reset hk] at hr)
  powerOn _ := .of_unkeyed rfl
  restart _ _ := .of_unkeyed rfl
  holdReset _ _ := .of_unkeyed (by simp [holdReset])
  pass _ _ h := h.of_eq (by simp [passMs]) (by simp [passMs]) (by simp [passMs]) (by simp [passMs])
  pending _ _ h := h.of_eq rfl rfl rfl rfl
  free _ _ h := h.of_eq rfl rfl rfl rfl

/-- Settles O53: the moves keep the law of PTT_OUT, and so does what is more than a move. -/
theorem everyStepKeepsTheKeyingLaw : Obligations.EveryStepKeepsTheKeyingLaw := by
  unfold Obligations.EveryStepKeepsTheKeyingLaw
  exact fun s t h he => keying_keptByStep.step h he

/-! ### The identification record (R113 to R121, R68) -/

theorem IdentLaw.vacated {s : State} (h : IdentLaw s) (seat : SeatNo) (m : MemberNo) (cause : SeatCause) :
    IdentLaw (vacated seat m cause s) :=
  h.of_eq (by simp [Machine.vacated]) (by simp [Machine.vacated]) (by simp [Machine.vacated])
    (by simp [Machine.vacated])

/-- The laws of PTT_OUT and of the identification record, which the moves keep together. -/
def KeyedIdent (s : State) : Prop := KeyingLaw s ∧ IdentLaw s

theorem KeyedIdent.moves {s t : State} (h : KeyedIdent s) (hr : s.pins.resetLow = false) (hm : Moves s t) :
    KeyedIdent t := ⟨hm.keeps_keying hr h.1, hm.keeps_ident hr h.1 h.2⟩

theorem KeyedIdent.of_eq {s t : State} (h : KeyedIdent s) (hk : t.keying.state = s.keying.state)
    (hf : t.floor.state = s.floor.state) (hm : t.mode = s.mode) (hp : t.pins = s.pins)
    (hi : t.ident = s.ident) (hq : t.queue = s.queue) : KeyedIdent t :=
  ⟨h.1.of_eq hk hf hm hp, h.2.of_eq hi hk hf hq⟩

theorem KeyedIdent.detachSeat {s : State} (h : KeyedIdent s) (hr : s.pins.resetLow = false) (seat : SeatNo)
    (cause : SeatCause) : KeyedIdent (detachSeat seat cause s) := by
  cases hm : attachedMember s seat with
  | none => rwa [detachSeat_vacant cause hm]
  | some m =>
    rw [detachSeat_attached cause hm]
    exact KeyedIdent.moves ⟨h.1.vacated .., h.2.vacated ..⟩ (by simpa [Machine.vacated] using hr)
      (floorDetached_moves ..)

/-- R68: a request that joins does not find the floor SHUT. -/
theorem IdentLaw.joinQueue {s : State} (h : IdentLaw s) (hs : s.floor.state ≠ .shut) (e : Entry) :
    IdentLaw (joinQueue e s) where
  pending_window := by simpa using h.pending_window
  overdue_pending := by simpa using h.overdue_pending
  periodic_window := by simpa using h.periodic_window
  closing_window := by simpa using h.closing_window
  grace_pending := by simpa using h.grace_pending
  sender_keyed := by simpa using h.sender_keyed
  shut_queue e := absurd (by simpa using e) hs
  shut_window := by simpa using h.shut_window

/-- A turn's end up to its state keeps the identification record lawful. -/
theorem KeyedIdent.endTurnCore {s : State} (h : KeyedIdent s) (hr : s.pins.resetLow = false) (c : EndCause)
    (d : EndDetail) : KeyedIdent (endTurnCore c d s) := by
  have hm : Moves s (raiseEnd c d (closeSetup c (unkey s))) :=
    ((Moves.unkey s).trans (closeSetup_moves c _)).trans (raiseEnd_moves c d _)
  exact (h.moves hr hm).of_eq rfl rfl rfl rfl rfl rfl

theorem KeyedIdent.enterIdle {s : State} (h : KeyedIdent s) (hr : s.pins.resetLow = false)
    (hk : s.keying.state = .unkeyed) : KeyedIdent (enterIdle s) :=
  KeyedIdent.moves (s := setFloorState .idle s)
    ⟨.of_unkeyed (by simpa using hk), h.2.setFloorState (by simp)⟩ (by simpa using hr)
    (serve_moves (.inl (by simp)))

theorem KeyedIdent.requested {s t : State} (hr : s.pins.resetLow = false) (ht : Requested s t)
    (h : KeyedIdent s) : KeyedIdent t := by
  cases ht with
  | moves hm => exact h.moves hr hm
  | joined e hj =>
    exact KeyedIdent.moves ⟨h.1.joinQueue e, h.2.joinQueue hj.notShut e⟩ (by simpa using hr)
      (queueChanged_moves _)
  | rejoined e _ hj =>
    have hc := h.endTurnCore hr .released .none
    exact KeyedIdent.enterIdle ⟨hc.1.joinQueue e, hc.2.joinQueue hj.notShut e⟩ (by simpa using hr)
      (by simp)

theorem KeyedIdent.endService {s : State} (h : KeyedIdent s) (hr : s.pins.resetLow = false)
    (hf : stationFree s = true) (seat : SeatNo) : KeyedIdent (endService seat s) := by
  have hd : (detachOthers seat s).pins.resetLow = false ∧ KeyedIdent (detachOthers seat s) :=
    detachOthers_induct (P := fun s => s.pins.resetLow = false ∧ KeyedIdent s)
      (fun x s hs => ⟨by simpa using hs.1, hs.2.detachSeat hs.1 x _⟩) ⟨hr, h⟩
  have hu := endService_unkeyed (seat := seat) hf h.1
  have he := hd.2.moves hd.1 (endEntries_moves .serviceEnd (detachOthers seat s).queue _)
  refine ⟨.of_unkeyed hu, ?_⟩
  unfold Machine.endService at hu ⊢
  simp only at hu ⊢
  split
  · exact he.2.of_eq rfl rfl rfl rfl
  · next hi =>
    rw [if_neg hi] at hu
    exact (he.enterIdle (by simpa using hd.1) (by simpa using hu)).2.of_eq rfl rfl rfl rfl

theorem tight_ident : Tight KeyedIdent where
  moves _ _ hr hm h := h.moves hr hm
  detach seat cause _ hr h := h.detachSeat hr seat cause
  request _ _ hr ht := .requested hr ht
  attach seat m s hv h := ⟨tight_keying.attach seat m s hv h.1,
    h.2.of_eq (by simp) (by simp) (by simp) (by simp)⟩
  begins s hm h := ⟨tight_keying.begins s hm h.1, h.2.of_eq rfl rfl rfl rfl⟩
  ends seat _ hr hf h := h.endService hr hf seat
  inhibit s h := ⟨tight_keying.inhibit s h.1,
    (h.2.of_eq (t := setInhibit true s) rfl rfl rfl rfl).unkey⟩
  cleared s h := ⟨tight_keying.cleared s h.1, h.2.of_eq rfl rfl rfl rfl⟩
  fault s h := ⟨tight_keying.fault s h.1, h.2.of_eq rfl rfl rfl rfl⟩
  inert _ _ hf _ _ h := h.of_eq (by rw [hf.keying]) (by rw [hf.floor]) hf.mode hf.pins hf.ident hf.queue

/-- R116: the closing timer runs with the window open alone. -/
theorem closeAct_ident (before s : State) (h : IdentLaw s) : IdentLaw (closeAct before s) := by
  have hc : IdentLaw (settleClosing before s) := by
    unfold settleClosing
    (repeat' split)
    · exact h
    · next hr _ =>
      exact ⟨h.pending_window, h.overdue_pending, h.periodic_window,
        fun _ => by
          simp only [closingRuns, Bool.and_eq_true] at hr
          simpa using hr.1.1, h.grace_pending, h.sender_keyed, h.shut_queue, h.shut_window⟩
    · exact ⟨h.pending_window, h.overdue_pending, h.periodic_window, by simp, h.grace_pending,
        h.sender_keyed, h.shut_queue, h.shut_window⟩
  have hk : (closeAct before s).keying.state = s.keying.state := (closeAct_kept before s .keying).1
  exact hc.of_eq (by simp [closeAct]) (by simpa using hk) (by simp) (by simp)

theorem passMs_ident {s : State} (h : IdentLaw s) : IdentLaw (passMs s) where
  pending_window := by simpa [passMs] using h.pending_window
  overdue_pending := by simpa [passMs] using h.overdue_pending
  periodic_window := by simpa [passMs, countDown] using h.periodic_window
  closing_window := by simpa [passMs, countDown] using h.closing_window
  grace_pending := by simpa [passMs, countDown] using h.grace_pending
  sender_keyed := by simpa [passMs] using h.sender_keyed
  shut_queue := by simpa [passMs] using h.shut_queue
  shut_window := by simpa [passMs] using h.shut_window

theorem identLaw_reset : IdentLaw State.reset := by constructor <;> simp [State.reset, Ident.initial]

theorem ident_keptByStep : KeptByStep KeyedIdent where
  act := act_kept (fun _ _ hr hm h => h.moves hr hm) (fun _ _ _ hr hd => tight_ident.deed hr hd)
    (fun b s h => ⟨h.1.closeAct b, closeAct_ident b s h.2⟩) fun _ _ _ hd => hd.resetLow
  registers s p h := ⟨keying_keptByStep.registers s p h.1, h.2.of_eq rfl rfl rfl rfl⟩
  ampFaultLine l s h := ⟨keying_keptByStep.ampFaultLine l s h.1, h.2.of_eq rfl rfl rfl rfl⟩
  inhibitLine l s hr h := ⟨keying_keptByStep.inhibitLine l s hr h.1, h.2.of_eq rfl rfl rfl rfl⟩
  powerOn s := ⟨keying_keptByStep.powerOn s, identLaw_reset.of_eq rfl rfl rfl rfl⟩
  restart s h := ⟨keying_keptByStep.restart s h.1, identLaw_reset.of_eq rfl rfl rfl rfl⟩
  holdReset s h := ⟨keying_keptByStep.holdReset s h.1, h.2.unkey.of_eq (by simp [holdReset])
    (by simp [holdReset]) (by simp [holdReset]) (by simp [holdReset])⟩
  pass s hr h := ⟨keying_keptByStep.pass s hr h.1, passMs_ident h.2⟩
  pending s x h := ⟨keying_keptByStep.pending s x h.1, h.2.of_eq rfl rfl rfl rfl⟩
  free s n h := ⟨keying_keptByStep.free s n h.1, h.2.of_eq rfl rfl rfl rfl⟩

/-- Settles O55: together with the law of PTT_OUT the laws of the identification record are kept. -/
theorem everyStepKeepsTheIdentificationLaw : Obligations.EveryStepKeepsTheIdentificationLaw := by
  unfold Obligations.EveryStepKeepsTheIdentificationLaw
  exact fun s t hk h he => (ident_keptByStep.step (P := KeyedIdent) ⟨hk, h⟩ he).2

end Sys2Proof.Machine

/-! O54: the laws of the holder and of the queue (R37, R38). -/

namespace Sys2Proof.Machine

/-! ### Detachment (R11, R62) -/

@[simp] theorem vacated_floor (seat : SeatNo) (m : MemberNo) (cause : SeatCause) (s : State) :
    (vacated seat m cause s).floor = s.floor := by simp [vacated]

@[simp] theorem vacated_queue (seat : SeatNo) (m : MemberNo) (cause : SeatCause) (s : State) :
    (vacated seat m cause s).queue = s.queue := by simp [vacated]

/-- R11: a vacated seat has no member; the others keep theirs. -/
theorem attachedMember_vacated (seat x : SeatNo) (m : MemberNo) (cause : SeatCause) (s : State) :
    attachedMember (vacated seat m cause s) x = if x = seat then none else attachedMember s x := by
  have hs : (vacated seat m cause s).seats = (modSeat seat (fun r =>
      { r with attachment := none, notices := [⟨.seat cause m, s.stamp⟩] }) s).seats := by
    simp [vacated]
  simp only [attachedMember, hs, modSeat_getElem]
  split <;> rfl

theorem FloorOpen.vacated {s : State} (h : FloorOpen none s) (seat : SeatNo) (m : MemberNo)
    (cause : SeatCause) : FloorOpen (some seat) (vacated seat m cause s) where
  grant_holder := by simpa using h.grant_holder
  holder_attached x hx hs := by
    rw [attachedMember_vacated, if_neg (by simpa using hs)]
    exact h.holder_attached x (by simpa using hx) (by simp)
  count_zero := by simpa using h.count_zero
  queue_seats := by simpa using h.queue_seats
  queue_attached e he hs := by
    rw [attachedMember_vacated, if_neg (by simpa using hs)]
    exact h.queue_attached e (by simpa using he) (by simp)
  holder_not_queued := by simpa using h.holder_not_queued

/-- A seat that is off the floor need not be left out. -/
theorem FloorOpen.closed {seat : SeatNo} {s : State} (h : FloorOpen (some seat) s) (ho : OffFloor seat s) :
    FloorOpen none s :=
  ⟨h.grant_holder, fun x hx _ => h.holder_attached x hx (by simpa using ho.holder x hx), h.count_zero,
    h.queue_seats, fun e he _ => h.queue_attached e he (by simpa using ho.queue e he),
    h.holder_not_queued⟩

/-- R43: without its entry a seat is not queued. -/
theorem removeEntry_off {seat : SeatNo} {s : State} (h : (s.queue.map Entry.seat).Nodup) :
    ∀ e ∈ (removeEntry seat s).queue, e.seat ≠ seat := by
  have hq : (removeEntry seat s).queue = entriesBefore seat s.queue ++ entriesBehind seat s.queue := by
    simp [removeEntry]
  rw [hq]
  generalize s.queue = q at h
  induction q with
  | nil => simp [entriesBefore, entriesBehind]
  | cons a rest ih =>
    rw [List.map_cons, List.nodup_cons] at h
    by_cases ha : a.seat = seat
    · intro e he hes
      refine h.1 (List.mem_map.2 ⟨e, ?_, hes.trans ha.symm⟩)
      simpa [entriesBefore, entriesBehind, ha] using he
    · intro e he
      have he' : e = a ∨ e ∈ entriesBefore seat rest ++ entriesBehind seat rest := by
        simpa [entriesBefore, entriesBehind, ha] using he
      rcases he' with rfl | he'
      · exact ha
      · exact ih h.2 e he'

/-- R62: the floor's answer to a detachment puts the seat off the floor. -/
theorem floorDetached_off {seat : SeatNo} {c : EndCause} {s : State} (h : FloorOpen (some seat) s) :
    OffFloor seat (floorDetached seat c s) := by
  unfold floorDetached
  by_cases hs : holderSeat s = some seat
  · rw [if_pos hs]
    dsimp only
    obtain ⟨x, hx, hxs⟩ := Option.map_eq_some_iff.1 hs
    have hc : OffFloor seat (endTurnCore c .none s) :=
      ⟨fun y hy => by simp [Floor.cleared] at hy,
        fun e he => hxs ▸ h.holder_not_queued x hx e (by simpa using he)⟩
    have hi : OffFloor seat (setFloorState .idle (endTurnCore c .none s)) :=
      hc.of_eq (by simp) (by simp)
    have ht : OffFloor seat (endTurn c .none s) := (serve_moves (.inl (by simp))).keeps_offFloor hi
    split
    · next e he =>
      exact absurd (by simpa using List.find?_some he) (ht.queue e (List.mem_of_find?_eq_some he))
    · exact ht
  · rw [if_neg hs]
    dsimp only
    have hh : ∀ x, s.floor.holder = some x → x.seat ≠ seat := by
      rintro x hx rfl
      exact hs (by simp [holderSeat, hx])
    split
    · next e he =>
      have hseat : e.seat = seat := by simpa using List.find?_some he
      refine (queueChanged_moves _).keeps_offFloor ⟨by simpa using hh, fun x hx => ?_⟩
      exact removeEntry_off (s := raise e.seat (.ended c .none false e.member 0) s)
        (by simpa using h.queue_seats) x (by simpa [endEntry, hseat] using hx)
    · next he =>
      exact ⟨hh, fun x hx hxs => by simpa [hxs] using List.find?_eq_none.1 he x hx⟩

theorem FloorLaw.detachSeat {s : State} (h : FloorLaw s) (seat : SeatNo) (cause : SeatCause) :
    FloorLaw (detachSeat seat cause s) := by
  rw [floorLaw_iff] at h
  obtain ⟨ho, hm⟩ := h
  cases ha : attachedMember s seat with
  | none =>
    rw [detachSeat_vacant cause ha]
    exact floorLaw_iff.2 ⟨ho, hm⟩
  | some m =>
    have hv : FloorOpen (some seat) (vacated seat m cause s) := ho.vacated seat m cause
    have hmoves := floorDetached_moves seat cause.endCause (vacated seat m cause s)
    rw [detachSeat_attached cause ha, floorLaw_iff]
    exact ⟨(hmoves.keeps_floorOpen hv).closed (floorDetached_off hv),
      hmoves.keeps_holderMatches (by simpa [HolderMatches] using hm)⟩

/-! ### Requests that join the queue (R38, R39) -/

theorem FloorOpen.joinQueue {s : State} {e : Entry} (h : FloorOpen none s) (hj : MayJoin e s) :
    FloorOpen none (joinQueue e s) := by
  have hmoves := joinQueue_moves e s
  refine hmoves.keeps_floorOpen ?_
  have hp := insertEntry_perm (s.floor.state == .resting) e s.queue
  have hmem : ∀ x ∈ insertEntry (s.floor.state == .resting) e s.queue, x = e ∨ x ∈ s.queue :=
    fun x hx => by simpa using hp.mem_iff.1 hx
  refine ⟨h.grant_holder, h.holder_attached, h.count_zero, ?_, fun x hx _ => ?_, fun y hy x hx => ?_⟩
  · refine (hp.map Entry.seat).nodup_iff.2 ?_
    rw [List.map_cons, List.nodup_cons]
    refine ⟨fun hx => ?_, h.queue_seats⟩
    obtain ⟨x, hx, hxe⟩ := List.mem_map.1 hx
    exact hj.off.queue x hx hxe
  · rcases hmem x hx with rfl | hx
    · exact hj.attached
    · exact h.queue_attached x hx (by simp)
  · rcases hmem x hx with rfl | hx
    · exact Ne.symm (hj.off.holder y hy)
    · exact h.holder_not_queued y hy x hx

/-- The floor's laws while the floor is between a turn and IDLE. -/
theorem FloorOpen.enterIdle {s : State} (h : FloorOpen none s) (hh : s.floor.holder = none) :
    FloorLaw (enterIdle s) := by
  have hs : FloorLaw (Machine.setFloorState .idle s) :=
    floorLaw_iff.2 ⟨h.setFloorState .idle, by simp [HolderMatches, hh, FloorState.hasHolder]⟩
  exact (serve_moves (.inl (by simp))).keeps_floor hs

theorem FloorOpen.endTurnCore {s : State} (h : FloorOpen none s) (c : EndCause) (d : EndDetail) :
    FloorOpen none (endTurnCore c d s) := by
  have hm : Moves s (raiseEnd c d (closeSetup c (unkey s))) :=
    ((Moves.unkey s).trans (closeSetup_moves c _)).trans (raiseEnd_moves c d _)
  exact (hm.keeps_floorOpen h).cleared

theorem FloorLaw.requested {s t : State} (ht : Requested s t) (h : FloorLaw s) : FloorLaw t := by
  obtain ⟨ho, hm⟩ := floorLaw_iff.1 h
  cases ht with
  | moves hm => exact hm.keeps_floor h
  | joined e hj =>
    exact (queueChanged_moves _).keeps_floor
      (floorLaw_iff.2 ⟨ho.joinQueue hj, by simpa [HolderMatches] using hm⟩)
  | rejoined e _ hj =>
    exact ((ho.endTurnCore _ _).joinQueue hj).enterIdle (by simp [Floor.cleared])

/-! ### The end of service (R179) -/

/-- With the station free and no holder, a detachment leaves the floor alone. -/
theorem detachSeat_floor_of_free {seat : SeatNo} {cause : SeatCause} {s : State}
    (hf : stationFree s = true) (hh : s.floor.holder = none) :
    stationFree (detachSeat seat cause s) = true ∧ (detachSeat seat cause s).floor = s.floor := by
  cases hm : attachedMember s seat with
  | none =>
    rw [detachSeat_vacant cause hm]
    exact ⟨hf, rfl⟩
  | some m =>
    have hn : ¬ holderSeat (vacated seat m cause s) = some seat := by simp [holderSeat, hh]
    rw [detachSeat_attached cause hm]
    simp only [floorDetached, if_neg hn, vacated_queue]
    simp only [stationFree, Bool.or_eq_true, Bool.and_eq_true, beq_iff_eq] at hf
    split
    · next e he =>
      have hp : s.floor.state.panel = true := by
        rcases hf with ⟨-, hq⟩ | hp
        · simp [List.isEmpty_iff.1 hq] at he
        · exact hp
      have hs : ¬ (s.floor.state = .idle ∨ s.floor.state = .resting) := by
        rintro (e | e) <;> simp [e, FloorState.panel] at hp
      simp [queueChanged, hs, stationFree, hp]
    · simpa [stationFree] using hf

/-- R179: a free station has no holder. -/
theorem FloorLaw.holder_of_free {s : State} (h : FloorLaw s) (hf : stationFree s = true) :
    s.floor.holder = none := by
  have hs := h.holder_state
  simp only [stationFree, Bool.or_eq_true, Bool.and_eq_true, beq_iff_eq] at hf
  have hn : s.floor.state.hasHolder = false := by
    rcases hf with ⟨e, -⟩ | hp
    · rw [e]; rfl
    · cases hst : s.floor.state <;> simp_all [FloorState.panel, FloorState.hasHolder]
  simpa [hn] using hs

theorem FloorLaw.endService {s : State} (h : FloorLaw s) (hf : stationFree s = true) (seat : SeatNo) :
    FloorLaw (endService seat s) := by
  obtain ⟨hd, -, hn⟩ : FloorLaw (detachOthers seat s) ∧ stationFree (detachOthers seat s) = true
      ∧ (detachOthers seat s).floor.holder = none :=
    detachOthers_induct (P := fun s => FloorLaw s ∧ stationFree s = true ∧ s.floor.holder = none)
      (fun x s ⟨hl, hf, hh⟩ =>
        have hk := detachSeat_floor_of_free (seat := x) (cause := .serviceEnd) hf hh
        ⟨hl.detachSeat x _, hk.1, by rw [hk.2]; exact hh⟩) ⟨h, hf, h.holder_of_free hf⟩
  have he := (endEntries_moves .serviceEnd (detachOthers seat s).queue _).keeps_floor hd
  have key {t u : State} (ht : FloorLaw t) (hu : u.floor = t.floor) (hq : u.queue = t.queue)
      (hs : u.seats = t.seats) : FloorLaw u := by
    rw [floorLaw_iff] at ht ⊢
    exact ⟨ht.1.of_eq (by rw [hu]) (by rw [hu]) (by rw [hu]) hq (attachedMember_of_seats hs),
      by simpa only [HolderMatches, hu] using ht.2⟩
  unfold Machine.endService
  simp only
  split
  · exact key he rfl rfl rfl
  · exact key ((floorLaw_iff.1 he).1.enterIdle (by simpa using hn)) rfl rfl rfl

/-! ### Every step -/

theorem FloorLaw.of_same {s t : State} (h : FloorLaw s) (hf : t.floor = s.floor) (hq : t.queue = s.queue)
    (ha : ∀ x, attachedMember t x = attachedMember s x) : FloorLaw t := by
  rw [floorLaw_iff] at h ⊢
  exact ⟨h.1.of_eq (by rw [hf]) (by rw [hf]) (by rw [hf]) hq ha, by simpa only [HolderMatches, hf] using h.2⟩

theorem FloorLaw.of_eq {s t : State} (h : FloorLaw s) (hf : t.floor = s.floor) (hq : t.queue = s.queue)
    (hs : t.seats = s.seats) : FloorLaw t := h.of_same hf hq (attachedMember_of_seats hs)

theorem attachedMember_attachSeat (seat x : SeatNo) (m : MemberNo) (s : State) :
    attachedMember (attachSeat seat m s) x = if x = seat then some m else attachedMember s x := by
  have hs : (attachSeat seat m s).seats = (modSeat seat (fun r =>
      { r with attachment := some ⟨m, renewedDeadline s⟩ }) s).seats := by
    simp [attachSeat]
  simp only [attachedMember, hs, modSeat_getElem]
  split <;> rfl

/-- R9: a VACANT seat neither holds the floor nor waits for it, so that its attachment disturbs nothing. -/
theorem FloorLaw.attachSeat {s : State} (h : FloorLaw s) {seat : SeatNo} (hv : attachedMember s seat = none)
    (m : MemberNo) : FloorLaw (attachSeat seat m s) := by
  have ha (x : SeatNo) (k : MemberNo) (hx : attachedMember s x = some k) :
      attachedMember (Machine.attachSeat seat m s) x = some k := by
    rw [attachedMember_attachSeat, if_neg (by rintro rfl; simp [hv] at hx)]
    exact hx
  exact ⟨by simpa using h.holder_state, by simpa using h.grant_holder,
    fun x hx => ha _ _ (h.holder_attached x (by simpa using hx)), by simpa using h.count_zero,
    by simpa using h.queue_seats, fun e he => ha _ _ (h.queue_attached e (by simpa using he)),
    by simpa using h.holder_not_queued⟩

theorem tight_floor : Tight FloorLaw where
  moves _ _ _ hm := hm.keeps_floor
  detach seat cause _ _ h := h.detachSeat seat cause
  request _ _ _ ht := .requested ht
  attach _ m _ hv h := h.attachSeat hv m
  begins _ _ h := h.of_eq rfl rfl rfl
  ends seat _ _ hf h := h.endService hf seat
  inhibit s h := (Moves.unkey _).keeps_floor (h.of_eq (t := setInhibit true s) rfl rfl rfl)
  cleared _ h := h.of_eq rfl rfl rfl
  fault _ h := h.of_eq rfl rfl rfl
  inert _ _ hf ha _ h := h.of_same hf.floor hf.queue ha

theorem closeAct_attachedMember (before s : State) (x : SeatNo) :
    attachedMember (closeAct before s) x = attachedMember s x := by
  have h : (closeAct before s).seats[x].attachment = s.seats[x].attachment :=
    closeAct_kept before s .attachments x
  simp only [attachedMember, h]

theorem floorLaw_reset : FloorLaw State.reset := by
  constructor <;> simp [State.reset, Floor.initial, FloorState.hasHolder]

theorem floor_keptByStep : KeptByStep FloorLaw where
  act := act_kept (fun _ _ _ hm => hm.keeps_floor) (fun _ _ _ hr hd => tight_floor.deed hr hd)
    (fun b s h => h.of_same (by simp) (by simp) (closeAct_attachedMember b s)) fun _ _ _ hd => hd.resetLow
  registers _ _ h := h.of_eq rfl rfl rfl
  ampFaultLine _ _ h := h.of_eq rfl rfl rfl
  inhibitLine _ _ _ h := h.of_eq rfl rfl rfl
  powerOn _ := floorLaw_reset.of_eq rfl rfl rfl
  restart _ _ := floorLaw_reset.of_eq rfl rfl rfl
  holdReset _ h := h.of_eq (by simp [holdReset]) (by simp [holdReset]) (by simp [holdReset])
  pass s _ h := ⟨by simpa [passMs] using h.holder_state, by simpa [passMs] using h.grant_holder,
    by simpa [passMs, attachedMember] using h.holder_attached, by simpa [passMs] using h.count_zero,
    by simpa [passMs] using h.queue_seats, by simpa [passMs, attachedMember] using h.queue_attached,
    by simpa [passMs] using h.holder_not_queued⟩
  pending _ _ h := h.of_eq rfl rfl rfl
  free _ _ h := h.of_eq rfl rfl rfl

/-- Settles O54: the moves keep the floor's laws, and so do detachments, joins and the end of service. -/
theorem everyStepKeepsTheFloorLaw : Obligations.EveryStepKeepsTheFloorLaw := by
  unfold Obligations.EveryStepKeepsTheFloorLaw
  exact fun s t h he => floor_keptByStep.step h he

end Sys2Proof.Machine

/-! O57: the laws of seats, members and notices (R4, R8, R166). -/

namespace Sys2Proof.Machine

/-! ### Seats and members as one relation -/

/-- The seat a member is attached to. -/
def linked (s : State) (m : MemberNo) : Option SeatNo := s.members[m].bind Member.attached

/-- R8: seats and members are attached to each other. -/
def Linked (s : State) : Prop := ∀ x m, attachedMember s x = some m ↔ linked s m = some x

/-- R4: attached members are ACTIVE, one member left out: a member that is suspended is attached still until its
seat is detached. -/
def ActiveBut (out : Option MemberNo) (s : State) : Prop :=
  ∀ m r, some m ≠ out → s.members[m] = some r → r.attached.isSome = true → r.state = .active

theorem seatLaw_iff {s : State} : SeatLaw s ↔ Linked s ∧ ActiveBut none s := by
  constructor
  · intro h
    refine ⟨fun x m => ⟨fun hx => ?_, fun hx => ?_⟩, fun m r _ hr ha => ?_⟩
    · obtain ⟨r, hr, ha, -⟩ := h.seat_member x m hx
      simp [linked, hr, ha]
    · obtain ⟨r, hr, ha⟩ := Option.bind_eq_some_iff.1 hx
      exact h.member_seat m r x hr ha
    · obtain ⟨x, hx⟩ := Option.isSome_iff_exists.1 ha
      obtain ⟨r', hr', -, hs⟩ := h.seat_member x m (h.member_seat m r x hr hx)
      obtain rfl : r = r' := by simpa [hr] using hr'
      exact hs
  · rintro ⟨hl, ha⟩
    refine ⟨fun x m hx => ?_, fun m r x hr hx => (hl x m).2 (by simp [linked, hr, hx])⟩
    obtain ⟨r, hr, hx⟩ := Option.bind_eq_some_iff.1 ((hl x m).1 hx)
    exact ⟨r, hr, hx, ha m r (by simp) hr (by simp [hx])⟩

/-- Two states with the same attachments, on both sides. -/
structure SameLinks (s t : State) : Prop where
  seats   : ∀ x, attachedMember t x = attachedMember s x
  members : t.members = s.members

theorem SameLinks.of_seats {s t : State} (h : t.seats = s.seats) (hm : t.members = s.members) :
    SameLinks s t := ⟨attachedMember_of_seats h, hm⟩

theorem Moves.sameLinks {s t : State} (h : Moves s t) : SameLinks s t := by
  obtain ⟨-, -, -, -, hm, -⟩ := h.frame
  exact ⟨h.seatsKept.attachedMember, hm⟩

theorem SameLinks.trans {s t u : State} (h : SameLinks s t) (h' : SameLinks t u) : SameLinks s u :=
  ⟨fun x => (h'.seats x).trans (h.seats x), h'.members.trans h.members⟩

theorem Linked.of_same {s t : State} (h : Linked s) (hs : SameLinks s t) : Linked t := fun x m => by
  rw [hs.seats]
  simp only [linked, hs.members]
  exact h x m

theorem ActiveBut.of_same {out : Option MemberNo} {s t : State} (h : ActiveBut out s) (hs : SameLinks s t) :
    ActiveBut out t := fun m r hm hr => h m r hm (hs.members ▸ hr)

theorem SeatLaw.of_same {s t : State} (h : SeatLaw s) (hs : SameLinks s t) : SeatLaw t := by
  rw [seatLaw_iff] at h ⊢
  exact ⟨h.1.of_same hs, h.2.of_same hs⟩

theorem SeatLaw.of_eq {s t : State} (h : SeatLaw s) (hs : t.seats = s.seats) (hm : t.members = s.members) :
    SeatLaw t := h.of_same (.of_seats hs hm)

/-! ### Changes of one member's record -/

/-- A change of records that leaves who is attached alone. -/
theorem Linked.of_records {s t : State} (h : Linked s) (hs : t.seats = s.seats)
    (hm : ∀ m, linked t m = linked s m) : Linked t := fun x m => by
  rw [attachedMember_of_seats hs, hm]
  exact h x m

theorem linked_setMember (m x : MemberNo) (r : Option Member) (s : State) :
    linked (setMember m r s) x = if x = m then r.bind Member.attached else linked s x := by
  unfold linked
  rw [setMember_getElem]
  split <;> rfl

/-- A record replaced by one that is attached as it was. -/
theorem Linked.setMember {s : State} (h : Linked s) {m : MemberNo} {r : Option Member}
    (hr : r.bind Member.attached = linked s m) : Linked (setMember m r s) :=
  h.of_records rfl fun x => by
    rw [linked_setMember]
    split
    · next e => rw [e]; exact hr
    · rfl

theorem ActiveBut.setMember {s : State} {out out' : Option MemberNo} (h : ActiveBut out s) {m : MemberNo}
    {r : Option Member} (ho : ∀ k, some k ≠ out' → k ≠ m → some k ≠ out)
    (hr : some m ≠ out' → ∀ q, r = some q → q.attached.isSome = true → q.state = .active) :
    ActiveBut out' (setMember m r s) := fun k q hk hq ha => by
  rw [setMember_getElem] at hq
  split at hq
  · next e => subst e; exact hr hk q hq ha
  · next e => exact h k q (ho k hk e) hq ha

/-- A change of a record that leaves its attachment and its state alone. -/
theorem SeatLaw.modMember {s : State} (h : SeatLaw s) (m : MemberNo) {f : Member → Member}
    (hf : ∀ r, (f r).attached = r.attached ∧ (f r).state = r.state) : SeatLaw (modMember m f s) := by
  rw [seatLaw_iff] at h ⊢
  refine ⟨h.1.setMember ?_, h.2.setMember (fun _ _ _ => by simp) fun _ q hq ha => ?_⟩
  · unfold linked
    cases s.members[m] with
    | none => rfl
    | some r => exact (hf r).1
  · obtain ⟨r, hr, rfl⟩ := Option.map_eq_some_iff.1 hq
    rw [(hf r).2]
    exact h.2 m r (by simp) hr (by rw [← (hf r).1]; exact ha)

/-! ### Detachment -/

theorem vacated_members (seat : SeatNo) (m : MemberNo) (cause : SeatCause) (s : State) :
    (vacated seat m cause s).members
      = (modMember m (fun r => { r with attached := none }) s).members := by
  simp [vacated, modMember, setMember]

theorem linked_vacated (seat : SeatNo) (m k : MemberNo) (cause : SeatCause) (s : State) :
    linked (vacated seat m cause s) k = if k = m then none else linked s k := by
  unfold linked
  rw [vacated_members, modMember_getElem]
  split
  · cases s.members[m] <;> rfl
  · rfl

theorem Linked.vacated {s : State} (h : Linked s) {seat : SeatNo} {m : MemberNo}
    (hm : attachedMember s seat = some m) (cause : SeatCause) : Linked (vacated seat m cause s) := by
  intro x k
  have hl := (h seat m).1 hm
  rw [attachedMember_vacated, linked_vacated]
  by_cases hx : x = seat
  · subst hx
    simp only [if_true, reduceCtorEq, false_iff]
    split
    · simp
    · next hk => exact fun e => hk (Option.some.inj (((h x k).2 e).symm.trans hm))
  · rw [if_neg hx, h x k]
    split
    · next hk =>
      subst hk
      simpa [hl] using fun e => hx e.symm
    · rfl

theorem ActiveBut.vacated {s : State} {out : Option MemberNo} (h : ActiveBut out s) (seat : SeatNo)
    (m : MemberNo) (cause : SeatCause) (ho : out = none ∨ out = some m) :
    ActiveBut none (vacated seat m cause s) := by
  intro k q _ hq ha
  rw [vacated_members, modMember_getElem] at hq
  split at hq
  · obtain ⟨r, -, rfl⟩ := Option.map_eq_some_iff.1 hq
    cases ha
  · next hk => exact h k q (by rcases ho with rfl | rfl <;> simp [hk]) hq ha

theorem SeatLaw.detachSeat {s : State} (h : SeatLaw s) (seat : SeatNo) (cause : SeatCause) :
    SeatLaw (detachSeat seat cause s) := by
  cases ha : attachedMember s seat with
  | none => rwa [detachSeat_vacant cause ha]
  | some m =>
    rw [seatLaw_iff] at h
    rw [detachSeat_attached cause ha]
    exact (seatLaw_iff.2 ⟨h.1.vacated ha cause, h.2.vacated seat m cause (.inl rfl)⟩).of_same
      (floorDetached_moves ..).sameLinks

theorem memberOf_attached (s : State) (m : MemberNo) : (memberOf s m).attached = linked s m := by
  unfold memberOf linked
  cases s.members[m] <;> rfl

/-- R4: with its seat detached a suspended member breaks no law. -/
theorem revoke_seatLaw {s : State} {m : MemberNo} (hl : Linked s) (ha : ActiveBut (some m) s) :
    SeatLaw (revoke m s) := by
  unfold revoke
  rw [memberOf_attached]
  split
  · next x hx =>
    have hm := (hl x m).2 hx
    rw [detachSeat_attached _ hm]
    exact (seatLaw_iff.2 ⟨hl.vacated hm _, ha.vacated x m _ (.inr rfl)⟩).of_same
      (floorDetached_moves ..).sameLinks
  · next hn =>
    refine seatLaw_iff.2 ⟨hl, fun k r _ hr hs => ?_⟩
    by_cases hk : k = m
    · subst hk
      simp only [linked, hr, Option.bind_some] at hn
      simp [hn] at hs
    · exact ha k r (by simp [hk]) hr hs

theorem SeatLaw.suspend {s : State} (h : SeatLaw s) (m : MemberNo) : SeatLaw (suspend m s) := by
  rw [seatLaw_iff] at h
  refine revoke_seatLaw (h.1.setMember ?_) (h.2.setMember (fun _ _ _ => by simp) fun e => absurd rfl e)
  unfold linked
  cases s.members[m] <;> rfl

/-! ### Orders -/

theorem SeatLaw.attachSeat {s : State} (h : SeatLaw s) {seat : SeatNo} {m : MemberNo} {r : Member}
    (hv : attachedMember s seat = none) (hm : s.members[m] = some r) (hr : r.attached = none)
    (hs : r.state = .active) : SeatLaw (attachSeat seat m s) := by
  rw [seatLaw_iff] at h ⊢
  have hmem (k : MemberNo) : (Machine.attachSeat seat m s).members[k]
      = if k = m then some { r with attached := some seat, misses := 0 } else s.members[k] := by
    have : (Machine.attachSeat seat m s).members
        = (Machine.modMember m (fun r => { r with attached := some seat, misses := 0 }) s).members := by
      simp [Machine.attachSeat, Machine.modMember, Machine.setMember]
    rw [this, modMember_getElem, hm]
    rfl
  refine ⟨fun x k => ?_, fun k q _ hq ha => ?_⟩
  · have hl : linked (Machine.attachSeat seat m s) k = if k = m then some seat else linked s k := by
      unfold linked
      rw [hmem]
      split <;> rfl
    have hn : linked s m = none := by simp [linked, hm, hr]
    rw [attachedMember_attachSeat, hl]
    by_cases hx : x = seat <;> by_cases hk : k = m
    · simp [hx, hk]
    · have := (h.1 x k).not.1 (by simp [hx, hv])
      simpa [hx, hk, Ne.symm hk] using this
    · have := (h.1 x k).not.2 (by simp [hk, hn])
      simpa [hx, hk, Ne.symm hx] using this
    · simpa [hx, hk] using h.1 x k
  · rw [hmem] at hq
    split at hq
    · obtain rfl := Option.some.inj hq
      exact hs
    · exact h.2 k q (by simp) hq ha

theorem doAttach_seatLaw (seat : SeatNo) (s : State) (h : SeatLaw s) : SeatLaw (doAttach seat s).1 := by
  unfold doAttach wrongCode
  split
  · exact h
  · next hv =>
    split
    · exact h
    · split
      · exact h
      · next m _ _ r hm =>
        split
        · exact h
        · next hns =>
          split
          · split
            · exact h.suspend m
            · exact h.modMember m fun _ => ⟨rfl, rfl⟩
          · split
            · exact h
            · next hna =>
              refine h.attachSeat (by simpa using hv) hm (by simpa using hna) ?_
              cases hst : r.state
              · rfl
              · exact absurd hst hns

theorem doChangeCode_seatLaw (seat : SeatNo) (s : State) (h : SeatLaw s) :
    SeatLaw (doChangeCode seat s).1 := by
  unfold doChangeCode
  simp only
  (repeat' split) <;> try exact h
  exact h.modMember _ fun _ => ⟨rfl, rfl⟩

theorem doMemberWrite_seatLaw (seat : SeatNo) (s : State) (h : SeatLaw s) :
    SeatLaw (doMemberWrite seat s).1 := by
  unfold doMemberWrite
  split
  · next m f _ _ =>
    split
    · exact h
    · rw [seatLaw_iff] at h
      have hl : Linked (setMember m (some (writtenMember s.members[m] f)) s) := by
        refine h.1.setMember ?_
        unfold linked
        cases s.members[m] <;> rfl
      simp only
      split
      · exact revoke_seatLaw hl (h.2.setMember (fun _ _ _ => by simp) fun e => absurd rfl e)
      · next hs =>
        refine seatLaw_iff.2 ⟨hl, h.2.setMember (fun _ _ _ => by simp) fun _ q hq _ => ?_⟩
        obtain rfl := Option.some.inj hq
        cases hst : f.state
        · exact hst
        · exact absurd hst hs
  · exact h

/-- R7: a member that is suspended has no seat, so that its record can be cleared. -/
theorem suspend_linked {s : State} (h : SeatLaw s) (m : MemberNo) : linked (suspend m s) m = none := by
  have hl (k : MemberNo) : linked (modMember m (fun r => { r with state := .suspended, misses := 0 }) s) k
      = linked s k := by
    unfold linked
    rw [modMember_getElem]
    split
    · next e => subst e; cases s.members[k] <;> rfl
    · rfl
  unfold suspend revoke
  rw [memberOf_attached, hl]
  split
  · next x hx =>
    have ha : attachedMember (modMember m (fun r => { r with state := .suspended, misses := 0 }) s) x
        = some m := ((seatLaw_iff.1 h).1 x m).2 hx
    rw [detachSeat_attached _ ha]
    have hm := linked_vacated x m m .suspended
      (modMember m (fun r => { r with state := .suspended, misses := 0 }) s)
    simpa [linked] using hm
  · next hn => rw [hl, hn]

theorem doMemberRemove_seatLaw (seat : SeatNo) (s : State) (h : SeatLaw s) :
    SeatLaw (doMemberRemove seat s).1 := by
  unfold doMemberRemove
  (repeat' split) <;> try exact h
  next m _ _ _ =>
  have hs := seatLaw_iff.1 (h.suspend m)
  exact seatLaw_iff.2 ⟨hs.1.setMember (by simp [suspend_linked h m]),
    hs.2.setMember (fun _ _ _ => by simp) fun _ q hq => by cases hq⟩

theorem doDayRoll_seatLaw (seat : SeatNo) (s : State) (h : SeatLaw s) :
    SeatLaw (doDayRoll seat s).1 := by
  rw [seatLaw_iff] at h ⊢
  refine ⟨h.1.of_records rfl fun m => ?_, fun m r hm hr ha => ?_⟩
  · simp only [doDayRoll, linked, withMembers_members, Fin.getElem_fin, Vector.getElem_map]
    cases s.members[m.val] <;> rfl
  · simp only [doDayRoll, withMembers_members, Fin.getElem_fin, Vector.getElem_map] at hr
    obtain ⟨q, hq, rfl⟩ := Option.map_eq_some_iff.1 hr
    exact h.2 m q hm hq ha

theorem SeatsKept.joinQueue (e : Entry) (s : State) : SeatsKept s (joinQueue e s) :=
  have h : SeatsKept s (s.withQueue (insertEntry (s.floor.state == .resting) e s.queue)) := .of_eq rfl
  h.trans (joinQueue_moves e s).seatsKept

theorem SeatsKept.enterIdle (s : State) : SeatsKept s (enterIdle s) :=
  (setFloorState_seatsKept .idle s).trans (serve_moves (.inl (by simp))).seatsKept

/-- A request changes no attachment and no answer. -/
theorem Requested.seatsKept {s t : State} (h : Requested s t) : SeatsKept s t := by
  cases h with
  | moves hm => exact hm.seatsKept
  | joined e _ => exact (SeatsKept.joinQueue e s).trans (queueChanged_moves _).seatsKept
  | rejoined e _ _ =>
    exact ((endTurnCore_seatsKept _ _ s).trans (.joinQueue e _)).trans (.enterIdle _)

theorem doEndService_seatLaw (seat : SeatNo) (s : State) (h : SeatLaw s) :
    SeatLaw (doEndService seat s).1 := by
  unfold doEndService
  (repeat' split) <;> try exact h
  have hd : SeatLaw (detachOthers seat s) :=
    detachOthers_induct (fun x _ h => h.detachSeat x _) h
  have he := hd.of_same (endEntries_moves .serviceEnd (detachOthers seat s).queue _).sameLinks
  unfold endService
  simp only
  split
  · exact he.of_eq rfl rfl
  · exact (he.of_same ⟨(SeatsKept.enterIdle _).attachedMember, by simp⟩).of_eq rfl rfl

theorem orderBody_seatLaw {carryOut : SeatNo → State → State × Reply} (hb : OrderBody carryOut)
    (seat : SeatNo) (s : State) (h : SeatLaw s) : SeatLaw (carryOut seat s).1 := by
  have tables (f : SeatNo → State → State × Reply) (hs : ∀ seat s, (f seat s).1.seats = s.seats)
      (hm : ∀ seat s, (f seat s).1.members = s.members) (seat : SeatNo) (s : State) (h : SeatLaw s) :
      SeatLaw (f seat s).1 := h.of_eq (hs seat s) (hm seat s)
  cases hb with
  | attach => exact doAttach_seatLaw seat s h
  | detach =>
    unfold doDetach
    split
    · exact h.detachSeat seat _
    · exact h
  | changeCode => exact doChangeCode_seatLaw seat s h
  | memberWrite => exact withAuthority_kept doMemberWrite_seatLaw seat s h
  | memberRemove => exact withAuthority_kept doMemberRemove_seatLaw seat s h
  | dayRoll => exact withAuthority_kept doDayRoll_seatLaw seat s h
  | request => exact h.of_same ⟨(doRequest_requested seat s).seatsKept.attachedMember, by simp⟩
  | withdraw => exact h.of_same (doWithdraw_moves seat s).sameLinks
  | release => exact h.of_same (doRelease_moves seat s).sameLinks
  | forceRelease =>
    exact withAuthority_kept (fun seat s h => h.of_same (doForceRelease_moves seat s).sameLinks) seat s h
  | ampRestore =>
    exact withAuthority_kept (fun seat s h => h.of_same (doAmpRestore_moves seat s).sameLinks) seat s h
  | endService => exact withAuthority_kept doEndService_seatLaw seat s h
  | unknown => exact h
  | presence => exact tables _ (by simp) (by simp) seat s h
  | check => exact tables _ (by simp) (by simp) seat s h
  | bandWrite | bandRemove | stationWrite | beginService =>
    exact withAuthority_kept (tables _ (by simp) (by simp)) seat s h

theorem renewPresence_attachedMember (seat x : SeatNo) (s : State) :
    attachedMember (renewPresence seat s) x = attachedMember s x := by
  simp only [attachedMember, renewPresence, modSeat_getElem]
  split
  · next e => subst e; cases s.seats[x].attachment <;> rfl
  · rfl

theorem placeAnswer_attachedMember (seat x : SeatNo) (a : Answer) (s : State) :
    attachedMember (placeAnswer seat a s) x = attachedMember s x := by
  simp only [attachedMember, placeAnswer, modSeat_getElem]
  split
  · next e => subst e; rfl
  · rfl

theorem takeAudioCell_sameLinks (seat : SeatNo) (cell : AudioCellNo) (s : State) :
    SameLinks s (takeAudioCell seat cell s) := by
  have hr : SameLinks s (renewPresence seat s) := ⟨(renewPresence_attachedMember seat · s), by simp⟩
  unfold takeAudioCell
  simp only
  split
  · exact hr.trans (placeFrame_moves ..).sameLinks
  · exact hr.trans (raiseCounter_moves ..).sameLinks

theorem writeToHandover_sameLinks (c : CellRef) (v : Byte) (s : State) :
    SameLinks s (writeToHandover c v s) := by
  have hw (d : CellRef) (v : Byte) (s : State) : SameLinks s (writeHandover d v s) := .of_seats rfl rfl
  unfold writeToHandover
  split
  · unfold acceptHandover
    simp only
    split
    · exact .of_seats rfl rfl
    · exact hw _ _ s
    · exact ((hw _ _ s).trans (takeAudioCell_sameLinks ..)).trans (hw ..)
    · exact (hw _ _ s).trans (judgeBusCell_moves ..).sameLinks
  · exact .of_seats (by simp) (by simp)

theorem ramWrite_sameLinks (a : Nat) (v : Byte) (s : State) : SameLinks s (ramWrite a v s) := by
  unfold ramWrite
  split
  · exact .of_seats (by simp) (by simp)
  · split
    · exact writeToHandover_sameLinks ..
    · split
      · exact .of_seats (by simp) (by simp)
      · exact .of_seats rfl rfl

theorem useMs_seatLaw (s : State) (h : SeatLaw s) : SeatLaw (useMs s) := by
  unfold useMs
  split
  · exact h.modMember _ fun _ => ⟨rfl, rfl⟩
  · exact h

theorem Deed.keeps_seats {c : Instr} {s t : State} (hd : Deed c s t) (h : SeatLaw s) : SeatLaw t := by
  cases hd with
  | moves hm => exact h.of_same hm.sameLinks
  | order _ hb =>
    exact takeOrder_kept (fun _ _ h => h.of_eq rfl rfl)
      (fun seat s h => h.of_same ⟨(renewPresence_attachedMember seat · s), by simp⟩)
      (orderBody_seatLaw hb)
      (fun seat a s h => h.of_same ⟨(placeAnswer_attachedMember seat · a s), by simp⟩) h
  | presenceExpired seat =>
    unfold Machine.presenceExpired
    split
    · exact h.detachSeat seat _
    · exact h
  | keyedMs =>
    unfold Machine.keyedMs
    split
    · exact h
    · exact useMs_seatLaw _ (h.of_eq (by simp) (by simp))
  | dutyExpired =>
    have hu : SeatLaw (updateHeat s) := h.of_eq rfl rfl
    exact (hu.of_same (dutyReport_moves (dutyExcess s) _).sameLinks).of_eq
      (by simp [Machine.dutyExpired]) (by simp [Machine.dutyExpired])
  | inhibitTaken =>
    have hu : SeatLaw (unkey (setInhibit true s)) :=
      (h.of_eq (t := setInhibit true s) rfl rfl).of_same (Moves.unkey _).sameLinks
    exact hu.of_same (inhibitReport_moves (by simp)).sameLinks
  | inhibitCleared =>
    have hc : SeatLaw (setInhibit false s) := h.of_eq rfl rfl
    unfold Machine.inhibitCleared
    simp only
    split
    · next hi => exact hc.of_same (serve_moves (.inl hi)).sameLinks
    · exact hc
  | ampFaultTaken =>
    exact (h.of_eq (t := setAmpFault true s) rfl rfl).of_same (ampFault_moves _).sameLinks
  | ramWrite a v => exact h.of_same (ramWrite_sameLinks a v s)
  | handOver c => exact h.of_same (writeToHandover_sameLinks c 1 s)

/-- With no seat attached and no member attached the law holds. -/
theorem SeatLaw.of_vacant {s : State} (hs : ∀ x, attachedMember s x = none)
    (hm : ∀ (m : MemberNo) (r : Member), s.members[m] = some r → r.attached = none) : SeatLaw s :=
  ⟨fun x m e => by simp [hs x] at e, fun m r x hr e => by simp [hm m r hr] at e⟩

theorem attachedMember_reset (x : SeatNo) : attachedMember State.reset x = none := by
  simp [attachedMember, State.reset, Seat.vacant]

theorem powerOnState_seatLaw (s : State) : SeatLaw (powerOnState s) :=
  .of_vacant (fun x => (attachedMember_of_seats rfl x).trans (attachedMember_reset x)) fun m r hr => by
    simp [powerOnState, State.reset] at hr

theorem restartState_seatLaw (s : State) : SeatLaw (restartState s) := by
  refine .of_vacant (fun x => (attachedMember_of_seats rfl x).trans (attachedMember_reset x))
    fun m r hr => ?_
  have hr' : (s.members.map keepMember)[m] = some r := hr
  simp only [Fin.getElem_fin, Vector.getElem_map, keepMember] at hr'
  obtain ⟨q, -, rfl⟩ := Option.map_eq_some_iff.1 hr'
  rfl

theorem seats_keptByStep : KeptByStep SeatLaw where
  act := act_kept (fun _ _ _ hm h => h.of_same hm.sameLinks) (fun _ _ _ _ hd => hd.keeps_seats)
    (fun b s h => h.of_same ⟨closeAct_attachedMember b s, by simp⟩) fun _ _ _ hd => hd.resetLow
  registers _ _ h := h.of_eq rfl rfl
  ampFaultLine _ _ h := h.of_eq rfl rfl
  inhibitLine _ _ _ h := h.of_eq rfl rfl
  powerOn := powerOnState_seatLaw
  restart s _ := restartState_seatLaw s
  holdReset _ h := h.of_eq (by simp [holdReset]) (by simp [holdReset])
  pass _ _ h := h.of_eq (by simp [passMs]) (by simp [passMs])
  pending _ _ h := h.of_eq rfl rfl
  free _ _ h := h.of_eq rfl rfl

/-- Settles O57: who is attached is changed by attachments, detachments and records alone, and the pending
notices by notices, detachments and reports alone. -/
theorem everyStepKeepsTheSeatAndNoticeLaws : Obligations.EveryStepKeepsTheSeatAndNoticeLaws := by
  unfold Obligations.EveryStepKeepsTheSeatAndNoticeLaws
  exact ⟨fun s t h he => seats_keptByStep.step h he, fun s t h he => notices_keptByStep.step h he⟩

end Sys2Proof.Machine

/-! O52, O58: the exchange memory's form, and the law of the orders held (R160, R161, R164). -/

namespace Sys2Proof.Machine

/-! ### Where the memory is written -/

/-- The memory keeps its canonical form, and its bytes but for some. -/
structure RamKept (W : Nat → Prop) (s t : State) : Prop where
  canonical : Memory.wf s.ram = true → Memory.wf t.ram = true
  reads     : ∀ a, ¬ W a → Memory.read t.ram a = Memory.read s.ram a

namespace RamKept

variable {W : Nat → Prop} {s t u : State}

theorem of_eq (h : t.ram = s.ram) : RamKept W s t := ⟨by rw [h]; exact id, fun _ _ => by rw [h]⟩

theorem trans (h : RamKept W s t) (h' : RamKept W t u) : RamKept W s u :=
  ⟨fun hs => h'.canonical (h.canonical hs), fun a ha => (h'.reads a ha).trans (h.reads a ha)⟩

theorem mono {V : Nat → Prop} (h : RamKept W s t) (hw : ∀ a, W a → V a) : RamKept V s t :=
  ⟨h.canonical, fun a ha => h.reads a fun e => ha (hw a e)⟩

theorem writeBlock {base : Nat} {bytes : List Byte} (ht : t.ram = Memory.writeBlock base bytes s.ram)
    (hw : ∀ i, i < bytes.length → W (base + i)) : RamKept W s t := by
  refine ⟨fun hs => by rw [ht]; exact Memory.wf_writeBlock hs, fun a ha => ?_⟩
  rw [ht]
  refine Memory.read_writeBlock_outside ?_
  by_contra hc
  have := hw (a - base) (by omega)
  rw [show base + (a - base) = a by omega] at this
  exact ha this

theorem write {a : Nat} {v : Byte} (ht : t.ram = Memory.write a v s.ram) (hw : W a) : RamKept W s t :=
  writeBlock (base := a) (bytes := [v]) ht fun i hi => by
    obtain rfl : i = 0 := by simpa using hi
    exact hw

end RamKept

/-- R158: where the outcome of a bus cell is written. -/
def busWrites (a : Nat) : Prop :=
  ∃ n : BusCellNo, (CellRef.bus n).base + 36 ≤ a ∧ a < (CellRef.bus n).base + 70
    ∨ a = (CellRef.bus n).handoverAddress

theorem partWrites_of_busWrites {a : Nat} (h : busWrites a) : partWrites a := .inr (.inr h)

theorem returnBusCell_ramKept (n : BusCellNo) (r : CellResult) (reply : List Byte) (s : State) :
    RamKept busWrites s (returnBusCell n r reply s) := by
  have hr : RamKept busWrites s
      (writeCell (.bus n) 36 ([byteOf r.code, byteOf reply.length] ++ reply.take 32) s) :=
    .writeBlock rfl fun i hi => ⟨n, .inl ⟨by omega, by
      simp only [List.length_append, List.length_cons, List.length_nil, List.length_take] at hi
      omega⟩⟩
  have hw (u : State) : RamKept busWrites u (writeHandover (.bus n) 0 u) := .write rfl ⟨n, .inr rfl⟩
  exact (hr.trans (hw _)).trans (.of_eq (by simp [returnBusCell]))

/-- The moves write the memory where the outcome of a bus cell stands, and nowhere else. -/
theorem Moves.ramKept {s t : State} (h : Moves s t) : RamKept busWrites s t := by
  induction h with
  | trans _ _ ih ih' => exact ih.trans ih'
  | cellBack n r reply s => exact returnBusCell_ramKept n r reply s
  | turnOver _ _ _ _ _ _ _ _ ih ih' => exact ih.trans (.trans (.of_eq (by rfl)) (ih'.trans (.of_eq (by simp))))
  | turnBegun _ _ _ _ _ _ ih ih' => exact ih.trans (.trans (.of_eq (by rfl)) (ih'.trans (.of_eq (by simp))))
  | _ => exact .of_eq (by simp)

/-- R167: where a report is written. -/
def reportWrites (a : Nat) : Prop :=
  (∃ seat : SeatNo, (CellRef.report seat).base ≤ a ∧ a < (CellRef.report seat).base + 256)
    ∨ ∃ seat : SeatNo, a = (CellRef.order seat).handoverAddress

theorem partWrites_of_reportWrites {a : Nat} (h : reportWrites a) : partWrites a := h.imp_right .inl

/-- R167: a report writes its cell and the hand-over byte of the order it answers. -/
theorem composeReport_ramKept (x : SeatNo) (s : State) : RamKept reportWrites s (composeReport x s) := by
  have hreport : RamKept reportWrites s (s.withRam (Memory.write (CellRef.report x).handoverAddress 0
      (Memory.writeBlock (CellRef.report x).base (reportBytes s.stamp s.seats[x]) s.ram))) := by
    have hb : RamKept reportWrites s (s.withRam (Memory.writeBlock (CellRef.report x).base
        (reportBytes s.stamp s.seats[x]) s.ram)) :=
      .writeBlock rfl fun i hi => .inl ⟨x, by omega, by
        simp only [reportBytes, padTo_length] at hi
        omega⟩
    exact hb.trans (.write rfl (.inl ⟨x, by simp [CellRef.handoverAddress, CellRef.size],
      by simp only [CellRef.handoverAddress, CellRef.size]; omega⟩))
  unfold composeReport
  split
  · have hw := writeReport_ram x s
    simp only at hw
    split at hw
    · exact hreport.trans (.write hw (.inr ⟨x, rfl⟩))
    · exact hreport.trans (.of_eq hw)
  · exact .of_eq rfl

theorem composeReports_ramKept (s : State) : RamKept reportWrites s (composeReports s) := by
  unfold composeReports
  generalize List.finRange 12 = l
  induction l generalizing s with
  | nil => exact .of_eq rfl
  | cons x rest ih => exact (composeReport_ramKept x s).trans (ih _)

/-- R167: the close of an act writes the memory where its reports stand. -/
theorem closeAct_reportsKept (before s : State) : RamKept reportWrites s (closeAct before s) :=
  (RamKept.of_eq (t := settleBoard before (settleLines (settlePoll (settleClosing before s))))
    (by simp)).trans (composeReports_ramKept _)

theorem closeAct_ramKept (before s : State) : RamKept partWrites s (closeAct before s) :=
  (closeAct_reportsKept before s).mono fun _ => partWrites_of_reportWrites

/-! ### Where the host writes -/

/-- A located address is the cell's base and the offset. -/
theorem locate_eq_some {a offset : Nat} {c : CellRef} (h : locate a = some (c, offset)) :
    a = c.base + offset ∧ offset < c.size := by
  unfold locate at h
  simp only at h
  split at h
  · cases h
  · split at h
    · obtain ⟨rfl, rfl⟩ := Prod.mk.inj (Option.some.inj h)
      simp only [CellRef.base, CellRef.size, Fin.val_ofNat]
      omega
    · split at h
      · split at h
        · obtain ⟨rfl, rfl⟩ := Prod.mk.inj (Option.some.inj h)
          simp only [CellRef.base, CellRef.size, seatArea, Fin.val_ofNat]
          omega
        · split at h
          · obtain ⟨rfl, rfl⟩ := Prod.mk.inj (Option.some.inj h)
            simp only [CellRef.base, CellRef.size, seatArea, Fin.val_ofNat]
            omega
          · split at h
            · obtain ⟨rfl, rfl⟩ := Prod.mk.inj (Option.some.inj h)
              simp only [CellRef.base, CellRef.size, seatArea, Fin.val_ofNat]
              rw [Nat.mod_eq_of_lt (show (a - 0x1000) / 2048 < 12 by omega),
                Nat.mod_eq_of_lt (show ((a - 0x1000) % 2048 - 0x180) / 0x180 < 4 by omega)]
              omega
            · cases h
      · cases h

theorem writeToHandover_ramKept (c : CellRef) (v : Byte) (s : State) :
    RamKept (fun a => busWrites a ∨ a = c.handoverAddress) s (writeToHandover c v s) := by
  have hw (v : Byte) (s : State) :
      RamKept (fun a => busWrites a ∨ a = c.handoverAddress) s (writeHandover c v s) :=
    .write rfl (.inr rfl)
  unfold writeToHandover
  split
  · unfold acceptHandover
    simp only
    split
    · exact (hw _ s).trans (.of_eq rfl)
    · exact hw _ s
    · exact ((hw 1 s).trans (.of_eq (by simp))).trans (hw ..)
    · exact (hw _ s).trans ((judgeBusCell_moves ..).ramKept.mono fun a ha => .inl ha)
  · exact .of_eq (by simp)

theorem ramWrite_ramKept (a : Nat) (v : Byte) (s : State) :
    RamKept (fun b => busWrites b ∨ b = a) s (ramWrite a v s) := by
  unfold ramWrite
  split
  · exact .of_eq (by simp)
  · next c offset hl =>
    obtain ⟨ha, -⟩ := locate_eq_some hl
    split
    · next ho =>
      refine (writeToHandover_ramKept c v s).mono fun b hb => ?_
      rw [show c.handoverAddress = a by simp only [CellRef.handoverAddress]; omega] at hb
      exact hb
    · split
      · exact .of_eq (by simp)
      · exact .write rfl (.inr rfl)

/-- Every order leaves the memory and the hand-over list alone. -/
theorem orderBody_ram {carryOut : SeatNo → State → State × Reply} (hb : OrderBody carryOut)
    (seat : SeatNo) (s : State) :
    (carryOut seat s).1.ram = s.ram ∧ (carryOut seat s).1.handovers = s.handovers := by
  cases hb <;> simp [withAuthority] <;> split <;> simp

theorem takeOrder_ram {accepts : Byte → Bool} {carryOut : SeatNo → State → State × Reply}
    (hb : OrderBody carryOut) (s : State) : (takeOrder accepts carryOut s).ram = s.ram :=
  takeOrder_kept (P := fun u => u.ram = s.ram) (fun _ _ h => h) (fun _ _ h => by simpa using h)
    (fun seat u h => by rw [(orderBody_ram hb seat u).1]; exact h) (fun _ _ _ h => by simpa using h) rfl

theorem Deed.canonical {c : Instr} {s t : State} (hd : Deed c s t) (h : Memory.wf s.ram = true) :
    Memory.wf t.ram = true := by
  cases hd with
  | moves hm => exact hm.ramKept.canonical h
  | order _ hb => rwa [takeOrder_ram hb]
  | ramWrite a v => exact (ramWrite_ramKept a v s).canonical h
  | handOver c => exact (writeToHandover_ramKept c 1 s).canonical h
  | presenceExpired | keyedMs | dutyExpired | inhibitTaken | inhibitCleared | ampFaultTaken =>
    simpa using h

theorem canonical_keptByStep : KeptByStep fun s => Memory.wf s.ram = true where
  act := act_kept (fun _ _ _ hm => hm.ramKept.canonical) (fun _ _ _ _ hd => hd.canonical)
    (fun b s => (closeAct_ramKept b s).canonical) fun _ _ _ hd => hd.resetLow
  registers _ _ h := h
  ampFaultLine _ _ h := h
  inhibitLine _ _ _ h := h
  powerOn _ := wf_initialRam
  restart _ _ := wf_initialRam
  holdReset _ h := by simpa [holdReset] using h
  pass _ _ h := by simpa [passMs] using h
  pending _ _ h := h
  free _ _ h := h

/-- Settles O52: every write of the memory keeps its canonical form. -/
theorem everyStepKeepsMemoryCanonical : Obligations.EveryStepKeepsMemoryCanonical := by
  unfold Obligations.EveryStepKeepsMemoryCanonical
  exact fun s t h he => canonical_keptByStep.step h he

/-! ### The orders held (R164) -/

/-- Two states with the same orders: on the hand-over list, answered, and by their cells. -/
structure SameOrders (s t : State) : Prop where
  handovers : t.handovers = s.handovers
  answer    : ∀ x : SeatNo, t.seats[x].answer = s.seats[x].answer
  held      : ∀ x, partHeld t (.order x) = partHeld s (.order x)

theorem SameOrders.trans {s t u : State} (h : SameOrders s t) (h' : SameOrders t u) : SameOrders s u :=
  ⟨h'.handovers.trans h.handovers, fun x => (h'.answer x).trans (h.answer x),
    fun x => (h'.held x).trans (h.held x)⟩

theorem SameOrders.of_eq {s t : State} (hh : t.handovers = s.handovers) (hs : t.seats = s.seats)
    (hr : t.ram = s.ram) : SameOrders s t :=
  ⟨hh, fun x => by rw [hs], fun x => by simp only [partHeld, hr]⟩

theorem OrderLaw.of_same {s t : State} (h : OrderLaw s) (hs : SameOrders s t) : OrderLaw t :=
  ⟨by rw [hs.handovers]; exact h.once, fun x => by rw [hs.held, hs.handovers, hs.answer]; exact h.held x,
    fun x => by rw [hs.handovers, hs.answer]; exact h.one x⟩

theorem OrderLaw.of_eq {s t : State} (h : OrderLaw s) (hh : t.handovers = s.handovers)
    (hs : t.seats = s.seats) (hr : t.ram = s.ram) : OrderLaw t := h.of_same (.of_eq hh hs hr)

/-- The hand-over byte of an order cell is none of a bus cell's bytes. -/
theorem not_busWrites_order (x : SeatNo) : ¬ busWrites (CellRef.order x).handoverAddress := by
  rintro ⟨n, h⟩
  simp only [CellRef.handoverAddress, CellRef.base, CellRef.size, seatArea] at h
  omega

theorem Moves.sameOrders {s t : State} (h : Moves s t) : SameOrders s t := by
  obtain ⟨-, -, -, -, -, -, -, -, -, hh⟩ := h.frame
  exact ⟨hh, h.seatsKept.answer, fun x => by
    simp only [partHeld, h.ramKept.reads _ (not_busWrites_order x)]⟩

theorem vacated_answer (seat x : SeatNo) (m : MemberNo) (cause : SeatCause) (s : State) :
    (vacated seat m cause s).seats[x].answer = s.seats[x].answer := by
  have hs : (vacated seat m cause s).seats = (modSeat seat (fun r =>
      { r with attachment := none, notices := [⟨.seat cause m, s.stamp⟩] }) s).seats := by
    simp [vacated]
  rw [hs, modSeat_getElem]
  split
  · next e => subst e; rfl
  · rfl

theorem detachSeat_sameOrders (seat : SeatNo) (cause : SeatCause) (s : State) :
    SameOrders s (detachSeat seat cause s) := by
  cases hm : attachedMember s seat with
  | none =>
    rw [detachSeat_vacant cause hm]
    exact .of_eq rfl rfl rfl
  | some m =>
    rw [detachSeat_attached cause hm]
    have hv : SameOrders s (vacated seat m cause s) :=
      ⟨by simp [vacated], fun x => vacated_answer seat x m cause s, fun x => by simp [partHeld, vacated]⟩
    exact hv.trans (floorDetached_moves ..).sameOrders

theorem revoke_sameOrders (m : MemberNo) (s : State) : SameOrders s (revoke m s) := by
  unfold revoke
  split
  · exact detachSeat_sameOrders ..
  · exact .of_eq rfl rfl rfl

theorem setMember_sameOrders (m : MemberNo) (r : Option Member) (s : State) :
    SameOrders s (setMember m r s) := .of_eq rfl rfl rfl

theorem suspend_sameOrders (m : MemberNo) (s : State) : SameOrders s (suspend m s) :=
  (setMember_sameOrders m _ s).trans (revoke_sameOrders ..)

theorem SeatsKept.sameOrders {s t : State} (h : SeatsKept s t) (hh : t.handovers = s.handovers)
    (hr : t.ram = s.ram) : SameOrders s t := ⟨hh, h.answer, fun x => by simp only [partHeld, hr]⟩

theorem attachSeat_sameOrders (seat : SeatNo) (m : MemberNo) (s : State) :
    SameOrders s (attachSeat seat m s) := by
  have hs : (attachSeat seat m s).seats = (modSeat seat (fun r =>
      { r with attachment := some ⟨m, renewedDeadline s⟩ }) s).seats := by
    simp [attachSeat]
  refine ⟨by simp, fun x => ?_, fun x => by simp [partHeld]⟩
  rw [hs, modSeat_getElem]
  split
  · next e => subst e; rfl
  · rfl

theorem doAttach_sameOrders (seat : SeatNo) (s : State) : SameOrders s (doAttach seat s).1 := by
  unfold doAttach wrongCode
  (repeat' split) <;> try exact .of_eq rfl rfl rfl
  · exact suspend_sameOrders ..
  · exact attachSeat_sameOrders ..

theorem doMemberWrite_sameOrders (seat : SeatNo) (s : State) : SameOrders s (doMemberWrite seat s).1 := by
  unfold doMemberWrite
  split
  · split
    · exact .of_eq rfl rfl rfl
    · simp only
      split
      · exact (setMember_sameOrders ..).trans (revoke_sameOrders ..)
      · exact setMember_sameOrders ..
  · exact .of_eq rfl rfl rfl

theorem doMemberRemove_sameOrders (seat : SeatNo) (s : State) :
    SameOrders s (doMemberRemove seat s).1 := by
  unfold doMemberRemove
  (repeat' split) <;> try exact .of_eq rfl rfl rfl
  exact (suspend_sameOrders ..).trans (setMember_sameOrders ..)

theorem doEndService_sameOrders (seat : SeatNo) (s : State) : SameOrders s (doEndService seat s).1 := by
  unfold doEndService
  (repeat' split) <;> try exact .of_eq rfl rfl rfl
  have hd : SameOrders s (detachOthers seat s) :=
    detachOthers_induct (P := SameOrders s) (fun x u h => h.trans (detachSeat_sameOrders x _ u))
      (.of_eq rfl rfl rfl)
  have he := hd.trans (endEntries_moves .serviceEnd (detachOthers seat s).queue _).sameOrders
  unfold endService
  simp only
  split
  · exact he.trans (.of_eq rfl rfl rfl)
  · have hi := he.trans ((SeatsKept.enterIdle
      (endEntries .serviceEnd (detachOthers seat s).queue (detachOthers seat s))).sameOrders
      (by simp) (by simp))
    exact hi.trans (.of_eq rfl rfl rfl)

theorem withAuthority_sameOrders {f : SeatNo → State → State × Reply}
    (h : ∀ seat s, SameOrders s (f seat s).1) (seat : SeatNo) (s : State) :
    SameOrders s (withAuthority f seat s).1 := by
  unfold withAuthority
  split
  · exact h seat s
  · exact .of_eq rfl rfl rfl

theorem orderBody_sameOrders {carryOut : SeatNo → State → State × Reply} (hb : OrderBody carryOut)
    (seat : SeatNo) (s : State) : SameOrders s (carryOut seat s).1 := by
  cases hb with
  | attach => exact doAttach_sameOrders seat s
  | detach =>
    unfold doDetach
    split
    · exact detachSeat_sameOrders ..
    · exact .of_eq rfl rfl rfl
  | memberWrite => exact withAuthority_sameOrders doMemberWrite_sameOrders seat s
  | memberRemove => exact withAuthority_sameOrders doMemberRemove_sameOrders seat s
  | request => exact (doRequest_requested seat s).seatsKept.sameOrders (by simp) (by simp)
  | withdraw => exact (doWithdraw_moves seat s).sameOrders
  | release => exact (doRelease_moves seat s).sameOrders
  | forceRelease => exact withAuthority_sameOrders (fun x u => (doForceRelease_moves x u).sameOrders) seat s
  | ampRestore => exact withAuthority_sameOrders (fun x u => (doAmpRestore_moves x u).sameOrders) seat s
  | endService => exact withAuthority_sameOrders doEndService_sameOrders seat s
  | unknown => exact .of_eq rfl rfl rfl
  | presence | changeCode | check => exact .of_eq (by simp) (by simp) (by simp)
  | dayRoll | bandWrite | bandRemove | stationWrite | beginService =>
    exact withAuthority_sameOrders (fun _ _ => .of_eq (by simp) (by simp) (by simp)) seat s

theorem renewPresence_sameOrders (seat : SeatNo) (s : State) : SameOrders s (renewPresence seat s) := by
  refine ⟨by simp, fun x => ?_, fun x => by simp [partHeld]⟩
  simp only [renewPresence, modSeat_getElem]
  split
  · next e => subst e; rfl
  · rfl

/-- R164, R165: the front order is answered, and waits for its report. -/
theorem takeOrder_orders {accepts : Byte → Bool} {carryOut : SeatNo → State → State × Reply}
    (hb : OrderBody carryOut) {s : State} (h : OrderLaw s) : OrderLaw (takeOrder accepts carryOut s) := by
  unfold takeOrder
  split
  · exact h
  · next seat rest hl =>
    simp only
    split
    · set v := renewPresence seat (s.withHandovers rest)
      generalize ha : (⟨_, _, _, _⟩ : Answer) = a
      have hv : SameOrders (s.withHandovers rest) (carryOut seat v).1 :=
        (renewPresence_sameOrders seat _).trans (orderBody_sameOrders hb seat v)
      have hnd := h.once
      rw [hl, List.nodup_cons] at hnd
      obtain ⟨hnot, hrest⟩ := hnd
      have hanswer (x : SeatNo) : (placeAnswer seat a (carryOut seat v).1).seats[x].answer
          = if x = seat then some a else s.seats[x].answer := by
        simp only [placeAnswer, modSeat_getElem]
        split
        · rfl
        · exact hv.answer x
      have hhand : (placeAnswer seat a (carryOut seat v).1).handovers = rest := by
        rw [← show (carryOut seat v).1.handovers = rest from hv.handovers]
        simp
      have hheld (x : SeatNo) : partHeld (placeAnswer seat a (carryOut seat v).1) (.order x)
          = partHeld s (.order x) := (hv.held x ▸ by simp [partHeld])
      refine ⟨by rw [hhand]; exact hrest, fun x => ?_, fun x hx => ?_⟩
      · rw [hheld, h.held x, hhand, hanswer, hl]
        by_cases hx : x = seat <;> simp [hx]
      · rw [hhand] at hx
        rw [hanswer, if_neg (by rintro rfl; exact hnot hx)]
        exact h.one x (by rw [hl]; exact List.mem_cons_of_mem _ hx)
    · exact h

theorem takeAudioCell_sameOrders (seat : SeatNo) (cell : AudioCellNo) (s : State) :
    SameOrders s (takeAudioCell seat cell s) := by
  unfold takeAudioCell
  simp only
  split
  · exact (renewPresence_sameOrders seat s).trans (placeFrame_moves ..).sameOrders
  · exact (renewPresence_sameOrders seat s).trans (raiseCounter_moves ..).sameOrders

theorem writeHandover_sameOrders {c : CellRef} (v : Byte) (s : State) (h : ∀ x, c ≠ .order x) :
    SameOrders s (writeHandover c v s) :=
  ⟨rfl, fun _ => rfl, fun x => partHeld_writeHandover_other v s (h x).symm⟩

/-- R164: an order cell handed over joins the list at its back. -/
theorem OrderLaw.handOver {s : State} (h : OrderLaw s) {seat : SeatNo}
    (hp : partHeld s (.order seat) = false) :
    OrderLaw ((writeHandover (.order seat) 1 s).withHandovers (s.handovers ++ [seat])) := by
  have hn := (h.held seat).not.1 (by simp [hp])
  rw [not_or] at hn
  have hheld (x : SeatNo) : partHeld ((writeHandover (.order seat) 1 s).withHandovers
      (s.handovers ++ [seat])) (.order x) = (decide (x = seat) || partHeld s (.order x)) := by
    by_cases hx : x = seat
    · subst hx
      simpa [partHeld] using partHeld_writeHandover_same (.order x) 1 s
    · have := partHeld_writeHandover_other (c := .order seat) (d := .order x) 1 s (by simpa using hx)
      simpa [partHeld, hx] using this
  refine ⟨?_, fun x => ?_, fun x hx => ?_⟩
  · rw [withHandovers_handovers, List.nodup_append]
    exact ⟨h.once, by simp, fun a ha b hb => by
      rw [List.mem_singleton.1 hb]
      rintro rfl
      exact hn.1 ha⟩
  · rw [hheld, Bool.or_eq_true, h.held x]
    by_cases hx : x = seat <;> simp [hx, writeHandover]
  · rcases List.mem_append.1 hx with hx | hx
    · exact h.one x hx
    · obtain rfl := List.mem_singleton.1 hx
      simpa [writeHandover] using hn.2

theorem writeToHandover_orders (c : CellRef) (v : Byte) {s : State} (h : OrderLaw s) :
    OrderLaw (writeToHandover c v s) := by
  unfold writeToHandover
  split
  · next hc =>
    unfold acceptHandover
    simp only
    split
    · exact h.handOver hc.2
    · exact h.of_same (writeHandover_sameOrders _ _ (by simp))
    · exact h.of_same (((writeHandover_sameOrders _ _ (by simp)).trans (takeAudioCell_sameOrders ..)).trans
        (writeHandover_sameOrders _ _ (by simp)))
    · exact h.of_same ((writeHandover_sameOrders _ _ (by simp)).trans (judgeBusCell_moves ..).sameOrders)
  · exact h.of_eq (by simp) (by simp) (by simp)

/-- A byte of a cell other than its hand-over byte is no cell's hand-over byte. -/
theorem ne_handoverAddress {a offset : Nat} {c : CellRef} (hl : locate a = some (c, offset))
    (ho : offset + 1 ≠ c.size) (d : CellRef) : d.handoverAddress ≠ a := by
  obtain ⟨ha, hs⟩ := locate_eq_some hl
  have hd := d.size_pos
  by_cases hcd : c = d
  · subst hcd
    simp only [CellRef.handoverAddress]
    omega
  · have := CellRef.disjoint hcd
    simp only [CellRef.handoverAddress]
    omega

theorem ramWrite_orders (a : Nat) (v : Byte) {s : State} (h : OrderLaw s) : OrderLaw (ramWrite a v s) := by
  unfold ramWrite
  split
  · exact h.of_eq (by simp) (by simp) (by simp)
  · next c offset hl =>
    split
    · exact writeToHandover_orders c v h
    · next ho =>
      split
      · exact h.of_eq (by simp) (by simp) (by simp)
      · exact h.of_same ⟨rfl, fun _ => rfl, fun x => by
          simp only [partHeld, withRam_ram, Memory.read_write_other (ne_handoverAddress hl ho _)]⟩

theorem Deed.keeps_orders {c : Instr} {s t : State} (hd : Deed c s t) (h : OrderLaw s) : OrderLaw t := by
  cases hd with
  | moves hm => exact h.of_same hm.sameOrders
  | order _ hb => exact takeOrder_orders hb h
  | presenceExpired seat =>
    unfold Machine.presenceExpired
    split
    · exact h.of_same (detachSeat_sameOrders ..)
    · exact h
  | keyedMs => exact h.of_eq (by simp) (by simp) (by simp)
  | dutyExpired =>
    have hu : OrderLaw (updateHeat s) := h.of_eq rfl rfl rfl
    exact (hu.of_same (dutyReport_moves (dutyExcess s) _).sameOrders).of_eq
      (by simp [Machine.dutyExpired]) (by simp [Machine.dutyExpired]) (by simp [Machine.dutyExpired])
  | inhibitTaken =>
    have hu : OrderLaw (unkey (setInhibit true s)) :=
      (h.of_eq (t := setInhibit true s) rfl rfl rfl).of_same (Moves.unkey _).sameOrders
    exact hu.of_same (inhibitReport_moves (by simp)).sameOrders
  | inhibitCleared =>
    have hc : OrderLaw (setInhibit false s) := h.of_eq rfl rfl rfl
    unfold Machine.inhibitCleared
    simp only
    split
    · next hi => exact hc.of_same (serve_moves (.inl hi)).sameOrders
    · exact hc
  | ampFaultTaken =>
    exact (h.of_eq (t := setAmpFault true s) rfl rfl rfl).of_same (ampFault_moves _).sameOrders
  | ramWrite a v => exact ramWrite_orders a v h
  | handOver c => exact writeToHandover_orders c 1 h

/-- R164, R167: what the reports of an act leave of a seat's order. -/
theorem composeReports_order (s : State) (x : SeatNo) :
    (composeReports s).seats[x].answer = s.seats[x].answer
        ∧ partHeld (composeReports s) (.order x) = partHeld s (.order x)
      ∨ s.seats[x].answer.isSome = true ∧ (composeReports s).seats[x].answer = none
        ∧ partHeld (composeReports s) (.order x) = false := by
  obtain ⟨u, hu, ht⟩ := composeReports_agrees x s
  unfold composeReport at ht
  split at ht
  · have hn : (writeReport x u).seats[x].answer = none := by rw [writeReport_seats, if_pos rfl]
    cases ha : s.seats[x].answer with
    | some a =>
      refine .inr ⟨rfl, by rw [ht.record, hn], ?_⟩
      rw [ht.partHeld_order]
      exact partHeld_order_writeReport (by rw [hu.record, ha]; rfl)
    | none =>
      refine .inl ⟨by rw [ht.record, hn], ?_⟩
      have hr := writeReport_ram x u
      rw [hu.record, ha] at hr
      rw [ht.partHeld_order, ← hu.partHeld_order]
      simp only [partHeld, hr, Option.isSome_none, Bool.false_eq_true, if_false]
      rw [Memory.read_write_other, Memory.read_writeBlock_outside]
      · simp only [CellRef.handoverAddress, CellRef.base, CellRef.size]
        omega
      · exact fun e => by cases CellRef.handoverAddress_injective e
  · exact .inl ⟨by rw [ht.record, hu.record], by rw [ht.partHeld_order, hu.partHeld_order]⟩

/-- R164, R167: a report that carries an answer gives the order's cell back with it. -/
theorem OrderLaw.composeReports {s : State} (h : OrderLaw s) : OrderLaw (composeReports s) := by
  refine ⟨by simpa using h.once, fun x => ?_, fun x hx => ?_⟩
  · rcases composeReports_order s x with ⟨ha, hp⟩ | ⟨ha, hn, hp⟩
    · rw [ha, hp, h.held x]
      simp
    · have hx : x ∉ s.handovers := fun hx => by
        rw [h.one x hx] at ha
        cases ha
      rw [hn, hp]
      simpa using hx
  · have hn := h.one x (by simpa using hx)
    rcases composeReports_order s x with ⟨ha, -⟩ | ⟨-, ha, -⟩
    · rw [ha, hn]
    · exact ha

theorem OrderLaw.closeAct {s : State} (h : OrderLaw s) (before : State) : OrderLaw (closeAct before s) := by
  have hs : OrderLaw (settleBoard before (settleLines (settlePoll (settleClosing before s)))) :=
    h.of_eq (by simp) (by simp) (by simp)
  exact hs.composeReports

theorem partHeld_order_reset (x : SeatNo) : partHeld State.reset (.order x) = false := by
  revert x
  decide

theorem orderLaw_reset : OrderLaw State.reset :=
  ⟨List.nodup_nil, fun x => by
    rw [partHeld_order_reset]
    simp [State.reset, Seat.vacant],
    fun x hx => by simp [State.reset] at hx⟩

theorem orders_keptByStep : KeptByStep OrderLaw where
  act := act_kept (fun _ _ _ hm h => h.of_same hm.sameOrders) (fun _ _ _ _ hd => hd.keeps_orders)
    (fun b _ h => h.closeAct b) fun _ _ _ hd => hd.resetLow
  registers _ _ h := h.of_eq rfl rfl rfl
  ampFaultLine _ _ h := h.of_eq rfl rfl rfl
  inhibitLine _ _ _ h := h.of_eq rfl rfl rfl
  powerOn _ := orderLaw_reset.of_eq rfl rfl rfl
  restart _ _ := orderLaw_reset.of_eq rfl rfl rfl
  holdReset _ h := h.of_eq (by simp [holdReset]) (by simp [holdReset]) (by simp [holdReset])
  pass _ _ h := h.of_eq (by simp [passMs]) (by simp [passMs]) (by simp [passMs])
  pending _ _ h := h.of_eq rfl rfl rfl
  free _ _ h := h.of_eq rfl rfl rfl

/-- Settles O58: an order is held from its hand-over to the report of its answer. -/
theorem everyStepKeepsTheOrderLaw : Obligations.EveryStepKeepsTheOrderLaw := by
  unfold Obligations.EveryStepKeepsTheOrderLaw
  exact fun s t h he => orders_keptByStep.step h he

end Sys2Proof.Machine

/-! O60: what holds at the close of every act (R95, R116, R138, R167). -/

namespace Sys2Proof.Machine

/-- What the law of the close reads: the identification record, the keying unit, the floor, the queue, the
believed setting and the two flags of the station record that switch the poll. -/
structure SettledSame (s t : State) : Prop where
  ident    : t.ident = s.ident
  keying   : t.keying = s.keying
  floor    : t.floor = s.floor
  queue    : t.queue = s.queue
  believed : t.bus.believed = s.bus.believed
  station  : t.station = s.station
  source   : t.source = s.source
  playout  : t.playout = s.playout
  board    : t.page.boardDue = s.page.boardDue
  seats    : t.seats = s.seats
  ram      : t.ram = s.ram

theorem Settled.of_same {s t : State} (h : Settled s) (e : SettledSame s t) : Settled t where
  closing hc := by
    have := h.closing (by rw [← e.ident]; exact hc)
    simpa only [closingRuns, e.ident, e.floor, e.queue] using this
  poll := by simpa only [pollRuns, e.keying, e.believed, e.station] using h.poll
  source := by
    have hs : selectSource t = selectSource s := by
      unfold selectSource overlayInProgress grantIsCw grantIsTune
      rw [e.keying, e.floor, e.ident]
    rw [e.source, hs]
    exact h.source
  key := by
    have hk : selectKey t = selectKey s := by
      unfold selectKey overlayInProgress grantIsCw senderGate
      rw [e.keying, e.floor, e.ident, e.playout]
    rw [e.keying, hk]
    exact h.key
  board := by rw [e.board]; exact h.board
  reports x := by simpa only [reportDue, partHeld, e.seats, e.ram] using h.reports x

/-! ### The close of an act settles the state -/

/-- R116. -/
theorem settleClosing_closing (before s : State) (h : (settleClosing before s).ident.closing.isSome = true) :
    closingRuns s = true := by
  unfold settleClosing at h
  split at h
  · assumption
  · simp at h

/-- The closing timer is none of its own conditions. -/
theorem closingRuns_settleClosing (before s : State) :
    closingRuns (settleClosing before s) = closingRuns s := by
  unfold settleClosing
  (repeat' split) <;> rfl

/-- R138. -/
theorem settlePoll_poll (s : State) : (settlePoll s).keying.poll.isSome = pollRuns (settlePoll s) := by
  unfold settlePoll
  by_cases hr : pollRuns s = true
  · rw [if_pos hr]
    split
    · next hp => rw [hp, hr]
    · exact hr.symm
  · have hf : pollRuns s = false := by simpa using hr
    rw [if_neg hr]
    split
    · exact hf.symm
    · next hp => rw [hf]; simpa using hp

/-- R167: behind the reports of an act none is due. -/
theorem composeReports_reportDue (s : State) (x : SeatNo) : reportDue (composeReports s) x = false := by
  obtain ⟨u, -, ht⟩ := composeReports_agrees x s
  have hd : reportDue (composeReport x u) x = false := by
    unfold composeReport
    split
    · simp [reportDue, partHeld_report_writeReport]
    · next h => simpa using h
  simpa only [reportDue, ht.partHeld_report, ht.record] using hd

theorem closeAct_settled (before s : State) : Settled (closeAct before s) where
  closing h := by
    have hc := settleClosing_closing before s (by simpa [closeAct] using h)
    rw [← closingRuns_settleClosing before s] at hc
    simpa [closingRuns, closeAct] using hc
  poll := by
    have := settlePoll_poll (settleClosing before s)
    simpa [pollRuns, closeAct, settleLines] using this
  source := by
    simp [closeAct, settleLines, selectSource, overlayInProgress, grantIsCw, grantIsTune]
  key := by
    simp [closeAct, settleLines, selectKey, overlayInProgress, grantIsCw, senderGate]
  board := by
    have := settleBoard_boardDue before (settleLines (settlePoll (settleClosing before s)))
    simpa [closeAct] using this
  reports := composeReports_reportDue _

/-! ### The other things a step can do -/

theorem unkey_poll (s : State) (h : s.keying.poll.isSome = pollRuns s) :
    (unkey s).keying.poll = none := by
  by_cases hk : s.keying.state = .unkeyed
  · have hu : unkey s = s := by simp [unkey, hk]
    have hp : pollRuns s = false := by simp [pollRuns, hk]
    rw [hp] at h
    rw [hu]
    simpa using h
  · simp [unkey, hk]

theorem unkey_closing (s : State) : (unkey s).ident.closing = s.ident.closing
    ∧ (unkey s).ident.window = s.ident.window := by
  unfold unkey
  split
  · exact ⟨rfl, rfl⟩
  · simp [quietSender]

theorem holdReset_settled (s : State) (h : Settled s) : Settled (holdReset s) where
  closing hc := by
    have := h.closing (by rw [← (unkey_closing s).1]; simpa [holdReset] using hc)
    simpa [closingRuns, holdReset, unkey_closing] using this
  poll := by simp [holdReset, pollRuns, unkey_poll s h.poll]
  source := by simp [holdReset, selectSource]
  key := by simp [holdReset, selectKey]
  board := by simpa [holdReset] using h.board
  reports x := by simpa [holdReset, reportDue, partHeld] using h.reports x

theorem passMs_settled (s : State) (h : Settled s) : Settled (passMs s) where
  closing hc := by
    have := h.closing (by simpa [passMs, countDown] using hc)
    simpa [closingRuns, passMs] using this
  poll := by simpa [pollRuns, passMs, countDown] using h.poll
  source := by
    have := h.source
    cases hs : s.ident.sender <;>
      simpa [selectSource, passMs, overlayInProgress, grantIsCw, grantIsTune, hs] using this
  key := by
    have := h.key
    cases hs : s.ident.sender <;>
      simpa [selectKey, passMs, overlayInProgress, grantIsCw, senderGate, hs] using this
  board := by simpa [passMs] using h.board
  reports x := by simpa [passMs, reportDue, partHeld] using h.reports x

/-- R182: at the power-on values the station is unkeyed and nothing waits. -/
theorem settled_of_reset {t : State} (hi : t.ident = Ident.initial) (hk : t.keying = Keying.initial)
    (hs : t.source = .silence) (hb : t.page.boardDue = false) (hx : t.seats = State.reset.seats) :
    Settled t where
  closing hc := by simp [hi, Ident.initial] at hc
  poll := by simp [pollRuns, hk, Keying.initial]
  source := by simp [selectSource, hk, hs, Keying.initial]
  key := by simp [selectKey, hk, Keying.initial]
  board := hb
  reports x := by simp [reportDue, hx, State.reset, Seat.vacant]

theorem settled_keptByStep : KeptByStep Settled where
  act _ s _ _ _ _ := closeAct_settled s _
  registers _ _ h := h.of_same (by constructor <;> rfl)
  ampFaultLine _ _ h := h.of_same (by constructor <;> rfl)
  inhibitLine _ _ _ h := h.of_same (by constructor <;> rfl)
  powerOn _ := settled_of_reset rfl rfl rfl rfl rfl
  restart _ _ := settled_of_reset rfl rfl rfl rfl rfl
  holdReset := holdReset_settled
  pass s _ := passMs_settled s
  pending _ _ h := h.of_same (by constructor <;> rfl)
  free _ _ h := h.of_same (by constructor <;> rfl)

/-- Settles O60: the close of an act settles the state, and nothing between two acts unsettles it. -/
theorem everyStepKeepsTheSettledLaw : Obligations.EveryStepKeepsTheSettledLaw := by
  unfold Obligations.EveryStepKeepsTheSettledLaw
  exact fun s t h he => settled_keptByStep.step h he

end Sys2Proof.Machine

/-! O16, O20, O23, O25, O27: orders that leave the floor alone. -/

namespace Sys2Proof.Machine

/-! ### What the take leaves as it was -/

@[simp] theorem cellBytes_orderTaken (seat : SeatNo) (rest : List SeatNo) (s : State) (c : CellRef)
    (i n : Nat) : cellBytes (orderTaken seat rest s) c i n = cellBytes s c i n := by
  simp [cellBytes]

@[simp] theorem parseRequest_orderTaken (seat x : SeatNo) (rest : List SeatNo) (s : State) :
    parseRequest (orderTaken seat rest s) x = parseRequest s x := by
  unfold parseRequest body32 body16
  rw [bodyByte_orderTaken, cellBytes_orderTaken, cellBytes_orderTaken]

@[simp] theorem parseBand_orderTaken (seat x : SeatNo) (rest : List SeatNo) (s : State) :
    parseBand (orderTaken seat rest s) x = parseBand s x := by
  simp only [parseBand, bodyByte_orderTaken, body32, body16, cellBytes_orderTaken]

@[simp] theorem parseMember_orderTaken (seat x : SeatNo) (rest : List SeatNo) (s : State) :
    parseMember (orderTaken seat rest s) x = parseMember s x := by
  simp only [parseMember, bodyByte_orderTaken, body16, cellBytes_orderTaken]

@[simp] theorem parseStation_orderTaken (seat x : SeatNo) (rest : List SeatNo) (s : State) :
    parseStation (orderTaken seat rest s) x = parseStation s x := by
  simp only [parseStation, bodyByte_orderTaken, body32, body16, cellBytes_orderTaken]

@[simp] theorem grantInputs_orderTaken (seat : SeatNo) (rest : List SeatNo) (s : State) (m : MemberNo) :
    grantInputs (orderTaken seat rest s) m = grantInputs s m := by
  simp [grantInputs, memberOf]

/-- An order that leaves the floor and the memory alone: what holds behind the close of its act. -/
theorem execOrder_gives {kind : Nat} {carryOut : SeatNo → State → State × Reply} {s d : State}
    {seat : SeatNo} {rest : List SeatNo} {reply : Reply} {P : State → Prop} (h : OrderReady kind seat rest s)
    (hd : carryOut seat (orderTaken seat rest s) = (d, reply)) (hf : d.floor = s.floor)
    (hP : P (orderClosed s seat (answerWith s seat reply.result reply.data) d)) :
    Gives (execOrder kind carryOut s) P := ⟨_, execOrder_floor_kept h hd hf, hP⟩

/-! ### Orders that are turned away (R3, R165) -/

/-- The orders that need management authority, by their kinds. -/
theorem exec_authority {c : Instr} {kind : Nat}
    (h : (c, kind) ∈ [(Instr.memberWrite, 5), (.memberRemove, 6), (.dayRoll, 7), (.bandWrite, 8),
      (.bandRemove, 9), (.forceRelease, 14), (.ampRestore, 15), (.stationWrite, 16),
      (.beginService, 17), (.endService, 18)]) :
    ∃ f, ∀ s, exec c s = execOrder kind (withAuthority f) s := by
  simp only [List.mem_cons, Prod.mk.injEq, List.not_mem_nil, or_false] at h
  rcases h with ⟨rfl, rfl⟩ | ⟨rfl, rfl⟩ | ⟨rfl, rfl⟩ | ⟨rfl, rfl⟩ | ⟨rfl, rfl⟩ | ⟨rfl, rfl⟩ |
    ⟨rfl, rfl⟩ | ⟨rfl, rfl⟩ | ⟨rfl, rfl⟩ | ⟨rfl, rfl⟩ <;> exact ⟨_, fun _ => rfl⟩

/-- R165: the kinds a take command accepts are those of its own order. -/
theorem exec_orderTake {c : Instr} (h : orderTake c = true) :
    ∃ accepts f, (∀ s, exec c s = .next (act (takeOrder accepts f) s))
      ∧ ∀ k : Byte, accepts k = true → orderCommand k = c := by
  have key (n : Nat) (k : Byte) (hk : (k.toNat == n) = true) : k.toNat = n := by simpa using hk
  have kinds (n : Nat) (d : Instr) (f : SeatNo → State → State × Reply)
      (hd : ∀ k : Byte, k.toNat = n → orderCommand k = d) :
      ∃ accepts g, (∀ s, execOrder n f s = .next (act (takeOrder accepts g) s))
        ∧ ∀ k : Byte, accepts k = true → orderCommand k = d :=
    ⟨fun k => k.toNat == n, f, fun _ => rfl, fun k hk => hd k (key n k hk)⟩
  cases c <;> simp only [orderTake, Bool.false_eq_true] at h
  case unknownOrder =>
    refine ⟨_, _, fun _ => rfl, fun k hk => ?_⟩
    have hk' : k.toNat = 0 ∨ 18 < k.toNat := by simpa using hk
    unfold orderCommand
    split <;> first | omega | rfl
  all_goals exact kinds _ _ _ fun k hk => by simp [orderCommand, hk]

/-- R165: a command whose kind is not accepted takes nothing. -/
theorem takeOrder_other {accepts : Byte → Bool} {f : SeatNo → State → State × Reply} {s : State}
    (h : ∀ seat rest, s.handovers = seat :: rest → accepts (orderKind s seat) = false) :
    takeOrder accepts f s = s := by
  unfold takeOrder
  split
  · rfl
  · next seat rest hl => simp [h seat rest hl]

/-- In a settled state an act that does nothing leaves the state. -/
theorem act_same {f : State → State} {s : State} (hs : Settled s) (h : f s = s) : act f s = s := by
  unfold act
  split
  · rfl
  · rw [h, finishSetup_self, closeAct_self hs]

/-- Settles O16: an order without authority, or of no known kind, leaves the state of its take; a take command
for another kind takes nothing. -/
theorem ordersAreTurnedAway : Obligations.OrdersAreTurnedAway := by
  unfold Obligations.OrdersAreTurnedAway
  refine ⟨fun c kind s seat rest hc h hm ha => ?_, fun s seat rest kind h hk => ?_, fun c s hc hs hn => ?_⟩
  · obtain ⟨f, hf⟩ := exec_authority hc
    rw [hf]
    exact execOrder_refused h (withAuthority_refused (by simp [hasAuthority, hm, ha]))
  · have hexec : exec .unknownOrder s = execOrder kind (fun _ s => (s, plain .unknownOrder)) s := by
      have hk' : ((orderKind s seat).toNat = 0 ∨ 18 < (orderKind s seat).toNat) := by rw [h.kind]; exact hk
      show Host.Outcome.next _ = _
      rw [execOrder_running h, act_running h.running]
      simp [takeOrder, h.front, hk']
    rw [hexec]
    exact execOrder_refused h rfl
  · obtain ⟨accepts, f, he, ha⟩ := exec_orderTake hc
    rw [he, act_same hs (takeOrder_other fun seat rest hl => ?_)]
    by_contra hacc
    exact hn seat rest hl (ha _ (by simpa using hacc))

/-! ### CHANGE_CODE (R15) -/

/-- Settles O20: the checks of CHANGE_CODE in turn; past them the member's code is the one given. -/
theorem changeCodeStoresACode : Obligations.ChangeCodeStoresACode := by
  unfold Obligations.ChangeCodeStoresACode
  intro s seat rest h
  have refused (r : Result) (hd : doChangeCode seat (orderTaken seat rest s)
      = (orderTaken seat rest s, plain r)) :
      Gives (exec .changeCode s) fun t => OrderRefused s t seat rest r := execOrder_refused h hd
  refine ⟨fun hm => refused _ ?_, fun m hm => ⟨fun hx ha => refused _ ?_, fun hx => ⟨fun hr => refused _ ?_,
    fun r hr => ⟨fun hz => refused _ ?_, fun hz => ?_⟩⟩⟩⟩
  · simp [doChangeCode, hm]
  · simp [doChangeCode, hm, hx, ha]
  · have hr' : (orderTaken seat rest s).members[m] = none := by simpa using hr
    simp only [doChangeCode, bodyByte_orderTaken, hm, attachedMember_orderTaken, hasAuthority_orderTaken,
      if_pos hx, hr']
  all_goals
    have hr' : (orderTaken seat rest s).members[m] = some r := by simpa using hr
  · have hz' : zeroCode (cellBytes s (.order seat) 5 8) = true := by simpa [zeroCode] using hz
    simp only [doChangeCode, bodyByte_orderTaken, hm, attachedMember_orderTaken, hasAuthority_orderTaken,
      if_pos hx, hr', cellBytes_orderTaken, if_pos hz']
  · have hz' : ¬ zeroCode (cellBytes s (.order seat) 5 8) = true := by simpa [zeroCode] using hz
    have hd : doChangeCode seat (orderTaken seat rest s)
        = (modMember m (fun r => { r with code := cellBytes s (.order seat) 5 8 }) (orderTaken seat rest s),
            plain .done) := by
      simp only [doChangeCode, bodyByte_orderTaken, hm, attachedMember_orderTaken, hasAuthority_orderTaken,
        if_pos hx, hr', cellBytes_orderTaken, if_neg hz']
    refine execOrder_gives h hd (by simp) ⟨by simp, fun x => ?_, orderClosed_renewed (rest := rest) _ (by simp),
      orderClosed_answered seat _ (by simp)⟩
    have hk := modMember_getElem m x (fun r => { r with code := cellBytes s (.order seat) 5 8 })
      (orderTaken seat rest s)
    rw [hr'] at hk
    simpa using hk

/-! ### BAND_WRITE (R19) -/

/-- R19: checks 4 to 7. -/
theorem bandFieldsOk_iff (f : BandFields) : bandFieldsOk f = true ↔ f.low < f.high ∧ 1 ≤ f.minGrade
    ∧ f.minGrade ≤ 4 ∧ f.modes &&& 0xC0 = 0 ∧ 1 ≤ f.port ∧ f.port ≤ 8 ∧ f.amp ≤ 1 := by
  simp only [bandFieldsOk, Bool.and_eq_true, decide_eq_true_eq, beq_iff_eq]
  tauto

/-- The present segments, by their slots. -/
theorem mem_presentSegments {plan : Vector (Option Segment) 32} {x : SlotNo × Segment} :
    x ∈ presentSegments plan ↔ plan[x.1] = some x.2 := by
  obtain ⟨i, g⟩ := x
  simp only [presentSegments, List.mem_filterMap, List.mem_finRange, true_and, Option.map_eq_some_iff,
    Prod.mk.injEq]
  exact ⟨fun ⟨_, _, hp, hi, hg⟩ => by subst hi hg; exact hp, fun hp => ⟨i, g, hp, rfl, rfl⟩⟩

/-- R19: check 8. -/
theorem overlapsOther_iff (plan : Vector (Option Segment) 32) (i : SlotNo) (low high : Nat) :
    overlapsOther plan i low high = true ↔ ∃ j : SlotNo, j ≠ i ∧
      (plan[j].any fun g => decide (g.low < high) && decide (low < g.high)) = true := by
  simp only [overlapsOther, List.any_eq_true, Bool.and_eq_true, bne_iff_ne, ne_eq, Option.any_eq_true]
  constructor
  · rintro ⟨⟨j, g⟩, hx, ⟨hne, hl⟩, hh⟩
    exact ⟨j, hne, g, mem_presentSegments.1 hx, hl, hh⟩
  · rintro ⟨j, hne, g, hg, hl, hh⟩
    exact ⟨(j, g), mem_presentSegments.2 hg, ⟨hne, hl⟩, hh⟩

theorem clampTo_ceiling (n : Nat) : clampTo 1 1500 n = max 1 (min 1500 n) := by
  simp only [clampTo]

/-- R19: a ceiling counts as changed when it lay outside its range. -/
theorem clampTo_ceiling_eq (n : Nat) : clampTo 1 1500 n = n ↔ ¬ (n = 0 ∨ 1500 < n) := by
  rw [clampTo_ceiling]
  omega

/-- Settles O23: the checks of BAND_WRITE in turn; past them the slot holds the segment written. -/
theorem bandWriteFillsASlot : Obligations.BandWriteFillsASlot := by
  unfold Obligations.BandWriteFillsASlot
  rintro s seat rest f h ha rfl
  have hauth : withAuthority doBandWrite seat (orderTaken seat rest s)
      = doBandWrite seat (orderTaken seat rest s) := withAuthority_of_authority (by simpa using ha)
  have refused (r : Result) (hd : doBandWrite seat (orderTaken seat rest s)
      = (orderTaken seat rest s, plain r)) :
      Gives (exec .bandWrite s) fun t => OrderRefused s t seat rest r :=
    execOrder_refused h (hauth.trans hd)
  refine ⟨fun hi => refused _ (by simp [doBandWrite, hi]), fun i hi => ?_⟩
  simp only [← admitsBandEdit_iff, ← bandFieldsOk_iff, ← overlapsOther_iff]
  have hd : doBandWrite seat (orderTaken seat rest s) =
      if !s.floor.state.admitsBandEdit then (orderTaken seat rest s, plain .floorBusy)
      else if !bandFieldsOk (parseBand s seat) then (orderTaken seat rest s, plain .badField)
      else if overlapsOther s.plan i (parseBand s seat).low (parseBand s seat).high then
        (orderTaken seat rest s, plain .overlap)
      else (setSlot i (some (writtenSegment (parseBand s seat))) (orderTaken seat rest s),
        ⟨.done, [byteOf i.val, if clampTo 1 1500 (parseBand s seat).ceiling = (parseBand s seat).ceiling
          then 0 else 1]⟩) := by
    simp only [doBandWrite, bodyByte_orderTaken, hi, parseBand_orderTaken]
    simp
  by_cases hf : s.floor.state.admitsBandEdit = true
  swap
  · simp only [hf]
    exact refused _ (hd.trans (by simp [hf]))
  by_cases hg : bandFieldsOk (parseBand s seat) = true
  swap
  · simp only [hf, hg, not_true_eq_false, if_false]
    exact refused _ (hd.trans (by simp [hf, hg]))
  by_cases ho : overlapsOther s.plan i (parseBand s seat).low (parseBand s seat).high = true
  · simp only [hf, hg, ho, not_true_eq_false, if_true, if_false]
    exact refused _ (hd.trans (by simp [hf, hg, ho]))
  · simp only [hf, hg, ho, not_true_eq_false, if_false]
    have hd' : withAuthority doBandWrite seat (orderTaken seat rest s)
        = (setSlot i (some (writtenSegment (parseBand s seat))) (orderTaken seat rest s), ⟨.done, [byteOf i.val,
            if clampTo 1 1500 (parseBand s seat).ceiling = (parseBand s seat).ceiling then 0 else 1]⟩) := by
      rw [hauth, hd, if_neg (by simp [hf]), if_neg (by simp [hg]), if_neg ho]
    refine execOrder_gives h hd' (by simp) ⟨by simp, fun j => ?_, ?_⟩
    · have hs := setSlot_getElem i j (some (writtenSegment (parseBand s seat))) (orderTaken seat rest s)
      have hw : writtenSegment (parseBand s seat) =
          { low := (parseBand s seat).low, high := (parseBand s seat).high
            minGrade := (parseBand s seat).minGrade, modes := (parseBand s seat).modes
            ceiling := max 1 (min 1500 (parseBand s seat).ceiling), port := (parseBand s seat).port
            amp := decide ((parseBand s seat).amp = 1) } := by
        rw [← clampTo_ceiling]
        rfl
      rw [← hw]
      simpa using hs
    · have hans := orderClosed_answered (s := s) (d := setSlot i (some (writtenSegment (parseBand s seat)))
        (orderTaken seat rest s)) seat (answerWith s seat .done [byteOf i.val,
          if clampTo 1 1500 (parseBand s seat).ceiling = (parseBand s seat).ceiling then 0 else 1]) (by simp)
      simpa only [clampTo_ceiling_eq, ite_not] using hans

/-! ### CHECK (R35, R36) -/

/-- R33, R36: the figures of a grant are those the computation carried. -/
theorem computeGrant_grant {inp : GrantInputs} {r : Request} {f : Figures} {h : Option Nat} {g : Grant}
    (hc : computeGrant inp r = .grant f h g) :
    admission inp r = .ok f ∧ h = headroom inp.station inp.q f.power
      ∧ g = { freq := r.freq, mode := r.mode, power := f.power, ampUsed := f.ampUsed, port := f.port
              duration := grantDuration inp.station r.mode f.aRem h
              limit := limitingTerm inp.station f.aRem h (grantDuration inp.station r.mode f.aRem h) }
      ∧ ∀ n, h = some n → grantThreshold inp.station r.mode ≤ n := by
  unfold computeGrant at hc
  split at hc
  · cases hc
  · next f' ha =>
    unfold finishGrant at hc
    simp only at hc
    split at hc
    · next hh =>
      simp only [GrantOutcome.grant.injEq] at hc
      obtain ⟨rfl, rfl, rfl⟩ := hc
      exact ⟨ha, rfl, rfl, fun n e => by rw [hh] at e; cases e⟩
    · next n hh =>
      split at hc
      · cases hc
      · next hn =>
        simp only [GrantOutcome.grant.injEq] at hc
        obtain ⟨rfl, rfl, rfl⟩ := hc
        refine ⟨ha, rfl, rfl, fun k e => ?_⟩
        obtain rfl : n = k := by simpa [hh] using e
        omega

/-- Settles O25: CHECK reads the computation's outcome and leaves the state of its take. -/
theorem checkReadsTheTables : Obligations.CheckReadsTheTables := by
  unfold Obligations.CheckReadsTheTables
  intro s seat rest h
  have refused (r : Result) (hd : doCheck seat (orderTaken seat rest s)
      = (orderTaken seat rest s, plain r)) :
      Gives (exec .check s) fun t => OrderRefused s t seat rest r := execOrder_refused h hd
  have answered (data : List Byte) (hd : doCheck seat (orderTaken seat rest s)
      = (orderTaken seat rest s, ⟨.done, data⟩)) :
      Gives (exec .check s) fun t =>
        t.handovers = rest ∧ RenewedAtTake s t seat
          ∧ (∀ p : Part, p ≠ .handovers → p ≠ .attachments → Kept s t p)
          ∧ Answered s t seat (answerWith s seat .done data) :=
    execOrder_gives h hd (by simp) ⟨by simp, orderClosed_renewed _ rfl,
      fun p hh ha => (orderTaken_kept seat rest s hh ha).trans (orderClosed_kept ..),
      orderClosed_answered seat _ (by simp)⟩
  refine ⟨fun hm => refused _ (by simp [doCheck, hm]), fun m hm => ⟨fun hq => refused _ (by
    simp [doCheck, hm, hq]), fun q hq => ⟨fun e hc => refused _ (by simp [doCheck, hm, hq, hc]),
    fun f n hc => ?_, fun f n g hc => ?_⟩⟩⟩
  · exact answered _ (by simp [doCheck, hm, hq, hc, checkData, flagByte, LimitTerm.code, byteOf])
  · obtain ⟨-, -, hg, -⟩ := computeGrant_grant hc
    refine answered _ ?_
    simp [doCheck, hm, hq, hc, checkData, flagByte, hg]

/-! ### AMP_RESTORE (R137) -/

/-- Settles O27: AMP_RESTORE changes the service state alone, once AMP_FAULT is deasserted. -/
theorem ampRestoreReturnsTheAmplifier : Obligations.AmpRestoreReturnsTheAmplifier := by
  unfold Obligations.AmpRestoreReturnsTheAmplifier
  intro s seat rest h
  refine ⟨fun ha => execOrder_refused h (withAuthority_refused (by simpa using ha)), fun ha hf => ?_,
    fun ha hf => ?_⟩
  all_goals
    have hauth : withAuthority doAmpRestore seat (orderTaken seat rest s)
        = doAmpRestore seat (orderTaken seat rest s) := withAuthority_of_authority (by simpa using ha)
  · exact execOrder_refused h (hauth.trans (by simp [doAmpRestore, hf]))
  · have hd := hauth.trans (show doAmpRestore seat (orderTaken seat rest s)
        = ((orderTaken seat rest s).withKeying { s.keying with ampInService := true },
            ⟨.done, [flagByte s.keying.ampInService]⟩) by simp [doAmpRestore, hf])
    have hkept (p : Part) (hp : p ≠ .keying) : Kept (orderTaken seat rest s)
        ((orderTaken seat rest s).withKeying { s.keying with ampInService := true }) p := by
      cases p
      case keying => exact absurd rfl hp
      all_goals simp [Kept]
    set d := (orderTaken seat rest s).withKeying { s.keying with ampInService := true } with hdd
    obtain ⟨hs, hl, hi⟩ := orderClosed_kept s seat (answerWith s seat .done [flagByte s.keying.ampInService])
      d .keying
    refine execOrder_gives h hd (by simp [hdd]) ⟨by simp [hdd], orderClosed_renewed (rest := rest) _
      (by simp [hdd]), ?_, ?_, ?_, fun p hh ha hk => ((orderTaken_kept seat rest s hh ha).trans
        (hkept p hk)).trans (orderClosed_kept ..), orderClosed_answered seat _ (by simp [hdd])⟩
    · rw [hi, hdd]; rfl
    · rw [hs, hdd]; rfl
    · rw [hl, hdd]; rfl

end Sys2Proof.Machine

/-! O26: a grant stays within its limits (R24 to R32). -/

namespace Sys2Proof.Machine

/-! ### The span walk (R25, R26) -/

/-- R26: a run covers the span from its first segment's low edge up to `b`, by present segments that admit the
grade and the mode. -/
theorem walk_covers {plan : List (SlotNo × Segment)} {grade b n : Nat} {mode : TxMode} {x : SlotNo × Segment}
    {run : List (SlotNo × Segment)} (h : walk plan grade mode b n x = .ok run) (hx : x ∈ plan) :
    (∀ y ∈ run, y ∈ plan ∧ y.2.permits mode = true ∧ y.2.minGrade ≤ grade)
      ∧ ∀ f, x.2.low ≤ f → f ≤ b → ∃ y ∈ run, y.2.low ≤ f ∧ f < y.2.high := by
  induction n generalizing x run with
  | zero => simp [walk] at h
  | succ n ih =>
    obtain ⟨i, g⟩ := x
    unfold walk at h
    split at h
    · cases h
    · next hgrade =>
      split at h
      · cases h
      · next hmode =>
        have hfirst : (i, g) ∈ plan ∧ g.permits mode = true ∧ g.minGrade ≤ grade :=
          ⟨hx, by simpa using hmode, by omega⟩
        split at h
        · obtain rfl : [(i, g)] = run := by simpa using h
          exact ⟨by simpa using hfirst, fun f hl hb => ⟨(i, g), by simp, hl, by dsimp only; omega⟩⟩
        · split at h
          · cases h
          · next next hnext =>
            split at h
            · cases h
            · next rest hrest =>
              obtain rfl : (i, g) :: rest = run := by simpa using h
              have hlow : next.2.low = g.high := by simpa using List.find?_some hnext
              obtain ⟨hall, hcov⟩ := ih hrest (List.mem_of_find?_eq_some hnext)
              refine ⟨fun y hy => ?_, fun f hl hb => ?_⟩
              · rcases List.mem_cons.1 hy with rfl | hy
                · exact hfirst
                · exact hall y hy
              · by_cases hf : f < g.high
                · exact ⟨(i, g), by simp, hl, hf⟩
                · obtain ⟨y, hy, hyl, hyh⟩ := hcov f (by omega) hb
                  exact ⟨y, List.mem_cons_of_mem _ hy, hyl, hyh⟩

/-- R25, R26: the run of a span covers it. -/
theorem spanRun_covers {plan : List (SlotNo × Segment)} {grade a b : Nat} {mode : TxMode}
    {run : List (SlotNo × Segment)} (h : spanRun plan grade mode a b = .ok run) :
    (∀ y ∈ run, y ∈ plan ∧ y.2.permits mode = true ∧ y.2.minGrade ≤ grade)
      ∧ ∀ f, a ≤ f → f ≤ b → ∃ y ∈ run, y.2.low ≤ f ∧ f < y.2.high := by
  unfold spanRun at h
  split at h
  · cases h
  · next first hfirst =>
    obtain ⟨hall, hcov⟩ := walk_covers h (List.mem_of_find?_eq_some hfirst)
    have hlow : first.2.low ≤ a ∧ a < first.2.high := by
      simpa [Segment.contains] using List.find?_some hfirst
    exact ⟨hall, fun f hl hb => hcov f (by omega) hb⟩

/-- R27: no segment of a run has a lower ceiling than the run. -/
theorem runCeiling_le {run : List (SlotNo × Segment)} {y : SlotNo × Segment} (hy : y ∈ run) :
    runCeiling run ≤ y.2.ceiling := by
  induction run with
  | nil => cases hy
  | cons x rest ih =>
    cases rest with
    | nil =>
      obtain rfl : y = x := by simpa using hy
      exact Nat.le_refl _
    | cons z more =>
      rcases List.mem_cons.1 hy with rfl | hy
      · exact Nat.min_le_left ..
      · exact (Nat.min_le_right ..).trans (ih hy)

/-! ### Power and duration (R28 to R32) -/

theorem limitByPreq_le (preq p : Nat) :
    limitByPreq preq p ≤ p ∧ (preq ≠ 0 → limitByPreq preq p ≤ preq) := by
  unfold limitByPreq
  split
  · next h => exact ⟨Nat.le_refl _, fun hn => absurd h hn⟩
  · omega

/-- R28: a grant's power is within the request, the member's and the station's ceilings and the run's. -/
theorem grantPower_le (inp : GrantInputs) (r : Request) (carrier : Segment) (cs : Nat) :
    grantPower inp r carrier cs ≤ inp.member.ceiling ∧ grantPower inp r carrier cs ≤ cs
      ∧ grantPower inp r carrier cs ≤ inp.station.cst
      ∧ (r.preq ≠ 0 → grantPower inp r carrier cs ≤ r.preq)
      ∧ (ampUsable inp carrier r.mode = false → grantPower inp r carrier cs ≤ inp.station.cb)
      ∧ (r.mode = .tune → grantPower inp r carrier cs ≤ inp.station.tuneCeiling) := by
  obtain ⟨hp, hq⟩ := limitByPreq_le r.preq (min inp.member.ceiling (min cs inp.station.cst))
  unfold grantPower
  simp only
  generalize limitByPreq r.preq (min inp.member.ceiling (min cs inp.station.cst)) = p at hp hq
  refine ⟨?_, ?_, ?_, fun h => ?_, fun h => ?_, fun h => ?_⟩
  · split <;> split <;> omega
  · split <;> split <;> omega
  · split <;> split <;> omega
  · have := hq h
    split <;> split <;> omega
  · rw [h]
    split <;> simp only [Bool.false_eq_true, if_false] <;> omega
  · rw [if_pos h]
    split <;> omega

/-- R32: a grant's duration is within each of its terms. -/
theorem grantDuration_le (station : StationRecord) (mode : TxMode) (aRem : Nat) (h : Option Nat) :
    grantDuration station mode aRem h ≤ station.keyLimit ∧ grantDuration station mode aRem h ≤ aRem
      ∧ (∀ n, h = some n → grantDuration station mode aRem h ≤ n)
      ∧ (mode = .tune → grantDuration station mode aRem h ≤ station.tuneLimit) := by
  unfold grantDuration
  cases h with
  | none =>
    refine ⟨?_, ?_, by simp, fun e => ?_⟩
    · simp only; split <;> omega
    · simp only; split <;> omega
    · simp only [if_pos e]; omega
  | some n =>
    refine ⟨?_, ?_, fun k hk => ?_, fun e => ?_⟩
    · simp only; split <;> omega
    · simp only; split <;> omega
    · obtain rfl : n = k := by simpa using hk
      simp only; split <;> omega
    · simp only [if_pos e]; omega

/-- R31: within its headroom a grant does not lift the heat above its limit. -/
theorem headroom_heat {station : StationRecord} {q power d : Nat} (hq : q ≤ station.qmax)
    (hd : ∀ n, headroom station q power = some n → d ≤ n) :
    q + d * power ≤ station.qmax + d * station.cool := by
  by_cases hc : station.cool < power
  · have hn := hd ((station.qmax - q) / (power - station.cool)) (by simp [headroom, hc])
    have hm : d * (power - station.cool) ≤ station.qmax - q :=
      (Nat.le_div_iff_mul_le (by omega)).1 hn
    have hs : d * power = d * (power - station.cool) + d * station.cool := by
      rw [← Nat.mul_add, Nat.sub_add_cancel (by omega)]
    omega
  · have : d * power ≤ d * station.cool := Nat.mul_le_mul_left d (by omega)
    omega

/-! ### The computation as a whole -/

/-- R24 to R30: what a request that is admitted has come through. -/
theorem admission_ok {inp : GrantInputs} {r : Request} {f : Figures} (h : admission inp r = .ok f) :
    ∃ a b run slot carrier, guardedSpan inp.station.guard r = some (a, b)
      ∧ spanRun inp.plan inp.member.grade r.mode a b = .ok run
      ∧ run.find? (fun x => x.2.contains r.freq) = some (slot, carrier)
      ∧ grantThreshold inp.station r.mode ≤ remainingAllowance inp.member
      ∧ f = { slot := slot, port := carrier.port, ceiling := runCeiling run
              power := grantPower inp r carrier (runCeiling run)
              ampUsed := grantAmp inp r carrier (runCeiling run), aRem := remainingAllowance inp.member } := by
  unfold admission at h
  split at h
  · cases h
  · next a b hs =>
    split at h
    · cases h
    · next run hrun =>
      split at h
      · cases h
      · next slot carrier hc =>
        simp only at h
        split at h
        · cases h
        · next ht =>
          obtain rfl := Except.ok.inj h
          exact ⟨a, b, run, slot, carrier, hs, hrun, hc, by omega, rfl⟩

/-- Settles O26: each limit is that of its stage. -/
theorem grantStaysWithinItsLimits : Obligations.GrantStaysWithinItsLimits := by
  unfold Obligations.GrantStaysWithinItsLimits
  intro inp r f h g hc
  obtain ⟨ha, hh, rfl, -⟩ := computeGrant_grant hc
  obtain ⟨a, b, run, slot, carrier, hspan, hrun, -, ht, hf⟩ := admission_ok ha
  obtain ⟨hmember, hrunC, hcst, hpreq, hcb, htune⟩ := grantPower_le inp r carrier (runCeiling run)
  obtain ⟨hkey, hall, hroom, hlimit⟩ := grantDuration_le inp.station r.mode f.aRem h
  have hpower : f.power = grantPower inp r carrier (runCeiling run) := by rw [hf]
  have hamp : f.ampUsed = grantAmp inp r carrier (runCeiling run) := by rw [hf]
  have harem : f.aRem = inp.member.allowance * 60 - inp.member.used / 1000 := by rw [hf]; rfl
  obtain ⟨hcover, hfreqs⟩ := spanRun_covers hrun
  have hguard : r.mode.below + inp.station.guard ≤ r.freq
      ∧ a = r.freq - (r.mode.below + inp.station.guard) ∧ b = r.freq + r.mode.above + inp.station.guard := by
    unfold guardedSpan at hspan
    split at hspan
    · next hg =>
      simp only [Option.some.injEq, Prod.mk.injEq] at hspan
      exact ⟨hg.1, hspan.1.symm, hspan.2.symm⟩
    · cases hspan
  obtain ⟨hbelow, rfl, rfl⟩ := hguard
  simp only [hpower, hamp]
  rw [harem] at hall hlimit hkey hroom ⊢
  refine ⟨trivial, trivial, hmember, hcst, hpreq, fun hn => ?_, fun hu => ?_,
    fun e => ⟨htune e, hlimit e⟩, hkey, hall, ht, fun hq => ?_, hbelow, fun x hl hu => ?_⟩
  · by_cases hus : ampUsable inp carrier r.mode = true
    · simpa [grantAmp, hus] using hn
    · exact hcb (by simpa using hus)
  · simp only [grantAmp, ampUsable, Bool.and_eq_true, bne_iff_ne, decide_eq_true_eq] at hu
    obtain ⟨⟨⟨⟨hp, hs⟩, -⟩, hm⟩, hcbl⟩ := hu
    exact ⟨hp, hs, hcbl, hm⟩
  · exact headroom_heat hq fun n hn => hroom n (by rw [hh, hpower, hn])
  · obtain ⟨y, hy, hyl, hyh⟩ := hfreqs x hl hu
    obtain ⟨hplan, hpermits, hgrade⟩ := hcover y hy
    exact ⟨y, hplan, hyl, hyh, hpermits, hgrade, hrunC.trans (runCeiling_le hy)⟩

end Sys2Proof.Machine

/-! O7, O8: the host's writes into the exchange memory (R159 to R162). -/

namespace Sys2Proof.Machine

/-! ### An act that disturbs nothing that its close reads -/

/-- What the close of an act reads and shows, but for the seats and the memory, is as it was. -/
structure Undisturbed (s t : State) : Prop where
  ident    : t.ident = s.ident
  keying   : t.keying = s.keying
  floor    : t.floor = s.floor
  queue    : t.queue = s.queue
  believed : t.bus.believed = s.bus.believed
  station  : t.station = s.station
  source   : t.source = s.source
  playout  : t.playout = s.playout
  page     : t.page = s.page
  pins     : t.pins = s.pins
  mode     : t.mode = s.mode

theorem Undisturbed.closingRuns {s t : State} (h : Undisturbed s t) :
    closingRuns t = closingRuns s := by
  simp only [Machine.closingRuns, h.ident, h.floor, h.queue]

theorem Undisturbed.pollRuns {s t : State} (h : Undisturbed s t) : pollRuns t = pollRuns s := by
  simp only [Machine.pollRuns, h.keying, h.believed, h.station]

theorem Undisturbed.selectSource {s t : State} (h : Undisturbed s t) :
    selectSource t = selectSource s := by
  unfold Machine.selectSource overlayInProgress grantIsCw grantIsTune
  rw [h.keying, h.floor, h.ident]

theorem Undisturbed.selectKey {s t : State} (h : Undisturbed s t) : selectKey t = selectKey s := by
  unfold Machine.selectKey overlayInProgress grantIsCw senderGate
  rw [h.keying, h.floor, h.ident, h.playout]

theorem Undisturbed.floorBoard {s t : State} (h : Undisturbed s t) : floorBoard t = floorBoard s := by
  simp only [Machine.floorBoard, h.ident, h.keying, h.floor, h.queue, h.believed, h.pins, h.mode]

theorem settleClosing_undisturbed {s t : State} (hs : Settled s) (h : Undisturbed s t) :
    settleClosing s t = t := by
  unfold settleClosing
  rw [h.closingRuns, h.page, hs.board]
  by_cases hc : closingRuns s = true
  · simp [hc]
  · have hn : t.ident.closing = none := by
      rw [h.ident]
      by_contra hx
      exact hc (hs.closing (Option.isSome_iff_ne_none.2 hx))
    rw [if_neg hc, ← hn]
    rfl

theorem settlePoll_undisturbed {s t : State} (hs : Settled s) (h : Undisturbed s t) :
    settlePoll t = t := by
  unfold settlePoll
  rw [h.pollRuns, h.keying, hs.poll]
  split <;> rfl

theorem settleLines_undisturbed {s t : State} (hs : Settled s) (h : Undisturbed s t) :
    settleLines t = t := by
  unfold settleLines
  rw [h.selectSource, h.selectKey, ← hs.source, ← hs.key, ← h.source, ← h.keying]
  rfl

/-- The close of an act that left alone what the close reads writes the reports that are due. -/
theorem closeAct_undisturbed {s t : State} (hs : Settled s) (h : Undisturbed s t) :
    closeAct s t = composeReports t := by
  rw [closeAct, settleClosing_undisturbed hs h, settlePoll_undisturbed hs h,
    settleLines_undisturbed hs h, settleBoard, if_pos ⟨by rw [h.page, hs.board], h.floorBoard.symm⟩]

theorem act_undisturbed {f : State → State} {s : State} (hr : Running s) (hs : Settled s)
    (h : Undisturbed s (f s)) : act f s = composeReports (f s) := by
  rw [act_floor_kept hr (by rw [h.floor]) (by rw [h.floor]), closeAct_undisturbed hs h]

/-- An act that leaves alone what the close reads, and makes no report due, is only carried out. -/
theorem act_quiet {f : State → State} {s : State} (hr : Running s) (hs : Settled s)
    (h : Undisturbed s (f s)) (hd : ∀ x : SeatNo, reportDue (f s) x = false) : act f s = f s := by
  rw [act_undisturbed hr hs h, composeReports_of_none hd]

/-! ### Where an address lies (R160) -/

/-- Every byte of a cell lies in it. -/
theorem locate_cell (c : CellRef) {i : Nat} (h : i < c.size) : locate (c.base + i) = some (c, i) := by
  cases c with
  | bus n =>
    simp only [CellRef.base, CellRef.size] at h ⊢
    unfold locate
    have hn : Fin.ofNat 4 ((0x0C00 + 256 * n.val + i - 0x0C00) / 256) = n :=
      Fin.ext (by simp only [Fin.val_ofNat]; omega)
    rw [if_neg (by omega), if_pos (by omega), hn,
      show (0x0C00 + 256 * n.val + i - 0x0C00) % 256 = i by omega]
  | order seat =>
    simp only [CellRef.base, CellRef.size, seatArea] at h ⊢
    unfold locate
    have hn : Fin.ofNat 12 ((0x1000 + 2048 * seat.val + i - 0x1000) / 2048) = seat :=
      Fin.ext (by simp only [Fin.val_ofNat]; omega)
    rw [if_neg (by omega), if_neg (by omega), if_pos (by omega), hn,
      show (0x1000 + 2048 * seat.val + i - 0x1000) % 2048 = i by omega, if_pos (by omega)]
  | report seat =>
    simp only [CellRef.base, CellRef.size, seatArea] at h ⊢
    unfold locate
    have hn : Fin.ofNat 12 ((0x1000 + 2048 * seat.val + 0x080 + i - 0x1000) / 2048) = seat :=
      Fin.ext (by simp only [Fin.val_ofNat]; omega)
    rw [if_neg (by omega), if_neg (by omega), if_pos (by omega), hn,
      show (0x1000 + 2048 * seat.val + 0x080 + i - 0x1000) % 2048 = 0x080 + i by omega,
      if_neg (by omega), if_pos (by omega), Nat.add_sub_cancel_left]
  | audio seat cell =>
    simp only [CellRef.base, CellRef.size, seatArea] at h ⊢
    unfold locate
    have hseat : (0x1000 + 2048 * seat.val + 0x180 + 0x180 * cell.val + i - 0x1000) / 2048 = seat.val := by
      omega
    have hn : Fin.ofNat 12 ((0x1000 + 2048 * seat.val + 0x180 + 0x180 * cell.val + i - 0x1000) / 2048)
        = seat := Fin.ext (by rw [Fin.val_ofNat, hseat, Nat.mod_eq_of_lt seat.isLt])
    have hc : Fin.ofNat 4 ((0x180 + 0x180 * cell.val + i - 0x180) / 0x180) = cell :=
      Fin.ext (by simp only [Fin.val_ofNat]; omega)
    rw [if_neg (by omega), if_neg (by omega), if_pos (by omega), hn,
      show (0x1000 + 2048 * seat.val + 0x180 + 0x180 * cell.val + i - 0x1000) % 2048
        = 0x180 + 0x180 * cell.val + i by omega,
      if_neg (by omega), if_neg (by omega), if_pos (by omega), hc,
      show (0x180 + 0x180 * cell.val + i - 0x180) % 0x180 = i by omega]

theorem CellRef.end_le (c : CellRef) : c.base + c.size ≤ 0x7000 := by
  cases c <;> simp only [CellRef.base, CellRef.size, seatArea] <;> omega

theorem CellRef.handoverAddress_eq (c : CellRef) : c.handoverAddress = c.base + (c.size - 1) := by
  have := c.size_pos
  simp only [handoverAddress]
  omega

/-! ### One byte of the host (R159 to R162) -/

/-- A byte of a host-held cell below its hand-over byte is stored. -/
theorem ramWrite_hostHeld {c : CellRef} {i : Nat} {s : State} (v : Byte) (h : i + 1 < c.size)
    (hp : partHeld s c = false) :
    ramWrite (c.base + i) v s = s.withRam (Memory.write (c.base + i) v s.ram) := by
  rw [ramWrite, locate_cell c (by omega)]
  simp only
  rw [if_neg (by omega), if_neg (by rw [hp]; exact Bool.false_ne_true)]

/-- A byte below the hand-over byte of a cell changes the holding of no cell. -/
theorem partHeld_write {c : CellRef} {i : Nat} (d : CellRef) (v : Byte) (s : State)
    (h : i + 1 < c.size) :
    partHeld (s.withRam (Memory.write (c.base + i) v s.ram)) d = partHeld s d := by
  have hne := ne_handoverAddress (locate_cell c (i := i) (by omega)) (by omega) d
  simp only [partHeld, withRam_ram, Memory.read_write_other hne]

/-- A byte below the hand-over byte of a cell leaves the state settled. -/
theorem settled_write {c : CellRef} {i : Nat} {s : State} (v : Byte) (hs : Settled s)
    (h : i + 1 < c.size) : Settled (s.withRam (Memory.write (c.base + i) v s.ram)) where
  closing := hs.closing
  poll := hs.poll
  source := hs.source
  key := hs.key
  board := hs.board
  reports x := by
    have := hs.reports x
    rw [reportDue] at this ⊢
    rwa [partHeld_write _ v s h]

theorem hostByte_ram {s : State} {a : Nat} (v : Byte) (hp : PortTakes s) (ha : a < registerBase) :
    hostByte a v s = act (ramWrite a v) s := by
  obtain ⟨hr, hph⟩ := hp
  rw [hostByte, if_pos (by simp [portOpen, hr, hph]), if_neg (by omega)]

theorem hostByte_stored {c : CellRef} {i : Nat} {s : State} (v : Byte) (hp : PortTakes s)
    (hs : Settled s) (h : i + 1 < c.size) (hc : partHeld s c = false) :
    hostByte (c.base + i) v s = s.withRam (Memory.write (c.base + i) v s.ram) := by
  have hend := c.end_le
  rw [hostByte_ram v hp (by simp only [registerBase]; omega)]
  have hw := ramWrite_hostHeld v h hc
  rw [act_quiet hp.1 hs (by rw [hw]; constructor <;> rfl)
    (fun x => by rw [hw]; exact (settled_write v hs h).reports x), hw]

/-- Bytes stored one at each successive address. -/
def storeBytes : Nat → List Byte → Memory → Memory
  | _, [], m => m
  | a, v :: rest, m => storeBytes (a + 1) rest (Memory.write a v m)

theorem read_storeBytes_outside {a b : Nat} {data : List Byte} {m : Memory}
    (h : b < a ∨ a + data.length ≤ b) : Memory.read (storeBytes a data m) b = Memory.read m b := by
  induction data generalizing a m with
  | nil => rfl
  | cons v rest ih =>
    rw [List.length_cons] at h
    rw [storeBytes, ih (by omega), Memory.read_write_other (by omega)]

theorem read_storeBytes_inside {a i : Nat} {data : List Byte} {m : Memory} (h : i < data.length) :
    Memory.read (storeBytes a data m) (a + i) = data[i] := by
  induction data generalizing a i m with
  | nil => simp at h
  | cons v rest ih =>
    cases i with
    | zero => rw [storeBytes, read_storeBytes_outside (by omega)]; simp
    | succ i =>
      rw [storeBytes, List.getElem_cons_succ, ← ih (a := a + 1) (m := Memory.write a v m)
        (by simpa using h), show a + (i + 1) = a + 1 + i by omega]

theorem nextAddress_below {a : Nat} (h : a + 1 < registerBase) : nextAddress a = a + 1 := by
  simp only [registerBase] at h
  rw [nextAddress, if_neg (by simp only [registerBase]; omega), if_neg (by omega)]

/-- A burst below the hand-over byte of a host-held cell is stored. -/
theorem hostBytes_stored {c : CellRef} {i : Nat} {data : List Byte} {s : State} (hp : PortTakes s)
    (hs : Settled s) (h : i + data.length < c.size) (hc : partHeld s c = false) :
    hostBytes (c.base + i) data s = s.withRam (storeBytes (c.base + i) data s.ram) := by
  induction data generalizing i s with
  | nil => rfl
  | cons v rest ih =>
    rw [List.length_cons] at h
    have hend := c.end_le
    rw [hostBytes, hostByte_stored v hp hs (by omega) hc,
      nextAddress_below (by simp only [registerBase]; omega), Nat.add_assoc,
      ih (s := s.withRam (Memory.write (c.base + i) v s.ram)) hp (settled_write v hs (by omega)) (by omega)
        (by rw [partHeld_write _ v s (by omega), hc])]
    rfl

/-- R159: a write transaction that the port takes. -/
theorem exec_hostWrite {s : State} {command : Byte} {address : BitVec 16} (data : List Byte)
    (hp : PortTakes s) (hw : IsWrite command) :
    exec (.hostWrite command address data) s
      = .next (hostBytes (address.toNat % 0x8000) data s) := by
  obtain ⟨hr, hph⟩ := hp
  obtain ⟨hok, hbit⟩ := hw
  show Host.Outcome.next _ = _
  simp only [transaction, hr, hph, readCommand, hok, hbit]
  rfl

/-- Settles O7: each byte of the burst is an act that stores it and disturbs nothing. -/
theorem hostWriteStoresItsBurst : Obligations.HostWriteStoresItsBurst := by
  unfold Obligations.HostWriteStoresItsBurst
  intro s command address data cell offset hp hs hw hc ha hlen
  refine ⟨_, exec_hostWrite data hp hw, ?_⟩
  rw [ha, hostBytes_stored hp hs hlen hc]
  exact ⟨rfl, fun i => read_storeBytes_inside i.isLt, fun a h => read_storeBytes_outside h⟩

/-! ### Refused writes (R160 to R162) -/

theorem refuseWrite_latched {a : Nat} {s : State} (h : s.port.summary.getLsbD 14 = true) :
    refuseWrite a s = s := by
  rw [refuseWrite, if_pos h]

theorem refuseWrite_first {a : Nat} {s : State} (h : s.port.summary.getLsbD 14 = false) :
    refuseWrite a s
      = setSummary 14 (s.withPort { s.port with refused := BitVec.ofNat 16 a }) := by
  rw [refuseWrite, if_neg (by rw [h]; exact Bool.false_ne_true)]

/-- A refused write disturbs nothing and makes no report due. -/
theorem act_refuseWrite {f : State → State} {a : Nat} {s : State} (hr : Running s) (hs : Settled s)
    (hf : f s = refuseWrite a s) : act f s = refuseWrite a s := by
  rw [← hf]
  refine act_quiet hr hs (by rw [hf]; constructor <;> simp) fun x => ?_
  rw [hf]
  simpa [reportDue, partHeld] using hs.reports x

/-- R160 to R162: the bytes that are not taken. -/
theorem ramWrite_refused {a : Nat} {v : Byte} {s : State}
    (h : (∀ c : CellRef, ¬ (c.base ≤ a ∧ a < c.base + c.size))
      ∨ ∃ c : CellRef, c.base ≤ a ∧ a < c.base + c.size
          ∧ (partHeld s c = true ∨ a = c.handoverAddress ∧ v ≠ 1)) :
    ramWrite a v s = refuseWrite a s := by
  rcases h with h | ⟨c, hl, hr, hc⟩
  · cases hloc : locate a with
    | none => rw [ramWrite, hloc]
    | some x =>
      obtain ⟨hx, hlt⟩ := locate_eq_some hloc
      exact absurd ⟨by omega, by omega⟩ (h x.1)
  · have hloc : locate a = some (c, a - c.base) := by
      rw [← locate_cell c (i := a - c.base) (by omega), Nat.add_sub_cancel' hl]
    rw [ramWrite, hloc]
    simp only
    split
    · next ho =>
      have hno : ¬ (v = 1 ∧ partHeld s c = false) := by
        rintro ⟨hv, hp⟩
        rcases hc with hc | ⟨-, hc⟩
        · rw [hp] at hc
          exact Bool.false_ne_true hc
        · exact hc hv
      have ha : c.handoverAddress = a := by
        rw [CellRef.handoverAddress_eq]
        omega
      rw [writeToHandover, if_neg hno, ha]
    · next ho =>
      have hp : partHeld s c = true := by
        refine hc.resolve_right fun ⟨ha, _⟩ => ho ?_
        have := c.size_pos
        rw [CellRef.handoverAddress_eq] at ha
        omega
      rw [if_pos hp]

/-- Settles O8: a byte that is not taken is refused by the act of its write, which does nothing else. -/
theorem refusedWriteIsLatched : Obligations.RefusedWriteIsLatched := by
  unfold Obligations.RefusedWriteIsLatched
  intro s command address v hp hs hw ha hcase
  have hexec : exec (.hostWrite command address [v]) s
      = .next (refuseWrite (address.toNat % 0x8000) s) := by
    rw [exec_hostWrite [v] hp hw]
    show Host.Outcome.next (hostByte _ v s) = _
    rw [hostByte_ram v hp ha, act_refuseWrite hp.1 hs (ramWrite_refused hcase)]
  rw [hexec]
  split
  · next hb => rw [refuseWrite_latched hb]
  · next hb =>
    refine ⟨_, rfl, ?_⟩
    rw [refuseWrite_first (by simpa using hb)]
    exact ⟨rfl, rfl, rfl, rfl, rfl, rfl⟩

end Sys2Proof.Machine

/-! O9, O10, O51: cells handed over and returned, and where the memory changes (R156, R158, R161, R164,
R167, R168). -/

namespace Sys2Proof.Machine

/-! ### A report (R167, R173) -/

/-- R167: a report that is due is written. -/
theorem composeReports_reported {s : State} {x : SeatNo} (hd : reportDue s x = true) :
    Reported s (composeReports s) x := by
  obtain ⟨u, hu, ht⟩ := composeReports_agrees x s
  have hdue : reportDue u x = true := by
    simpa only [reportDue, hu.partHeld_report, hu.record] using hd
  rw [composeReport, if_pos hdue] at ht
  refine ⟨?_, ?_, ?_, ?_, fun ha => ?_, ?_⟩
  · apply List.ext_getElem (by simp [cellBytes, reportBytes])
    intro i hi hi'
    have hlt : i < 255 := by simpa [cellBytes] using hi
    have hb := ht.cellByte_report (i := i) (by omega)
    rw [writeReport_cellByte _ _ _ hlt, hu.stamp, hu.record] at hb
    simp only [cellBytes, Memory.readBlock_getElem]
    rw [← List.getD_eq_getElem _ 0, ← hb]
    rfl
  · rw [ht.partHeld_report, partHeld_report_writeReport]
  · rw [ht.record, writeReport_seats, if_pos rfl]
  · rw [ht.record, writeReport_seats, if_pos rfl]
  · rw [ht.partHeld_order, partHeld_order_writeReport (by rwa [hu.record])]
  · rw [ht.summary, writeReport_summary, decide_eq_true rfl, Bool.or_true]

/-- Of the state before it, a report reads the stamp and the seat. -/
theorem Reported.of_seat {s s' t : State} {x : SeatNo} (h : Reported s' t x)
    (hst : s'.stamp = s.stamp) (hs : s'.seats = s.seats) : Reported s t x := by
  obtain ⟨bytes, given, notices, answer, order, summary⟩ := h
  exact ⟨by rw [bytes, hst, hs], given, notices, answer, by rwa [hs] at order, summary⟩

/-! ### Cells handed over (R161) -/

theorem ramWrite_handover (c : CellRef) (v : Byte) (s : State) :
    ramWrite c.handoverAddress v s = writeToHandover c v s := by
  have := c.size_pos
  rw [CellRef.handoverAddress_eq, ramWrite, locate_cell c (by omega)]
  simp only
  rw [if_pos (by omega)]

theorem CellRef.handoverAddress_lt (c : CellRef) : c.handoverAddress < registerBase := by
  have := c.size_pos
  have := c.end_le
  rw [handoverAddress_eq]
  simp only [registerBase]
  omega

/-- The command that hands a cell over. -/
theorem exec_handedCell {c : Instr} {cell : CellRef} (h : handedCell c = some cell) (s : State) :
    exec c s = .next (handOver cell s) := by
  cases c <;> simp only [handedCell, Option.some.injEq, reduceCtorEq] at h <;> subst h <;> rfl

/-- R161: the write of 01h to a hand-over byte is the hand-over of its cell. -/
theorem transaction_handOver {s : State} {command : Byte} {address : BitVec 16} {cell : CellRef}
    (hw : IsWrite command) (ha : address.toNat % 0x8000 = cell.handoverAddress) :
    transaction command address [1] s = handOver cell s := by
  obtain ⟨hok, hbit⟩ := hw
  have hlt := cell.handoverAddress_lt
  cases hr : s.pins.resetLow
  · cases hp : s.port.phase
    · have hf : (ramWrite cell.handoverAddress 1) = writeToHandover cell 1 :=
        funext (ramWrite_handover cell 1)
      simp only [transaction, hr, hp, readCommand, hok, hbit, ha, hostBytes,
        hostByte_ram 1 ⟨hr, hp⟩ hlt, hf, handOver, portOpen]
      rfl
    · simp [transaction, hr, hp, handOver, portOpen]
    · have hread : readCommand command = false := by rw [readCommand, hok, hbit]; rfl
      simp [transaction, hr, hp, handOver, portOpen, hread]
  · simp [transaction, hr, handOver, portOpen]

theorem handOver_open {s : State} (c : CellRef) (hp : PortTakes s) :
    handOver c s = act (writeToHandover c 1) s := by
  rw [handOver, if_pos (by simp [portOpen, hp.1, hp.2])]

theorem writeToHandover_hostHeld {c : CellRef} {s : State} (h : partHeld s c = false) :
    writeToHandover c 1 s = acceptHandover c s := by
  rw [writeToHandover, if_pos ⟨rfl, h⟩]

theorem writeToHandover_partHeld {c : CellRef} {s : State} (v : Byte) (h : partHeld s c = true) :
    writeToHandover c v s = refuseWrite c.handoverAddress s := by
  rw [writeToHandover, if_neg (by simp [h])]

/-- A hand-over byte of a cell that is no report cell makes no report due. -/
theorem reportDue_writeHandover {c : CellRef} (v : Byte) (s : State) (x : SeatNo)
    (h : c ≠ .report x) : reportDue (writeHandover c v s) x = reportDue s x := by
  rw [reportDue, partHeld_writeHandover_other v s (Ne.symm h)]
  rfl

/-- R164: an order cell handed over joins the hand-over list. -/
theorem handOver_order {s : State} {seat : SeatNo} (hp : PortTakes s) (hs : Settled s)
    (h : partHeld s (.order seat) = false) :
    handOver (.order seat) s
      = (writeHandover (.order seat) 1 s).withHandovers (s.handovers ++ [seat]) := by
  have hw : writeToHandover (.order seat) 1 s
      = (writeHandover (.order seat) 1 s).withHandovers (s.handovers ++ [seat]) :=
    writeToHandover_hostHeld h
  rw [handOver_open _ hp, ← hw]
  refine act_quiet hp.1 hs (by rw [hw]; constructor <;> rfl) fun x => ?_
  rw [hw]
  exact (reportDue_writeHandover (c := .order seat) 1 s x (by simp)).trans (hs.reports x)

/-- R168: a returned report cell is kept until something waits. -/
theorem handOver_report {s : State} {seat : SeatNo} (hp : PortTakes s) (hs : Settled s)
    (h : partHeld s (.report seat) = false) :
    handOver (.report seat) s = composeReports (writeHandover (.report seat) 1 s) := by
  have hw : writeToHandover (.report seat) 1 s = writeHandover (.report seat) 1 s :=
    writeToHandover_hostHeld h
  rw [handOver_open _ hp, act_undisturbed hp.1 hs (by rw [hw]; constructor <;> rfl), hw]

/-- Settles O9: the hand-over of an order cell disturbs nothing, and that of a report cell makes the reports
of its seat due. -/
theorem cellsAreHandedOver : Obligations.CellsAreHandedOver := by
  unfold Obligations.CellsAreHandedOver
  refine ⟨fun c cell s command address hc hw ha => ?_,
    fun s seat hp hs => ⟨fun h => ?_, fun h => ?_, fun h ha hn => ?_, fun h hwait => ?_⟩⟩
  · rw [exec_handedCell hc]
    exact congrArg Host.Outcome.next (transaction_handOver hw ha)
  · refine ⟨_, exec_handedCell rfl s, ?_⟩
    rw [handOver_order hp hs h]
    exact ⟨rfl, partHeld_writeHandover_same (.order seat) 1 s⟩
  · refine ⟨_, exec_handedCell rfl s, ?_⟩
    rw [handOver_open _ hp, act_refuseWrite hp.1 hs (writeToHandover_partHeld 1 h), refuseWrite]
    split <;> rfl
  · refine ⟨_, exec_handedCell rfl s, ?_⟩
    have hd (x : SeatNo) : reportDue (writeHandover (.report seat) 1 s) x = false := by
      by_cases hx : seat = x
      · subst hx
        rw [reportDue, show (writeHandover (.report seat) 1 s).seats = s.seats from rfl, ha, hn]
        simp
      · rw [reportDue_writeHandover 1 s x (by simpa using hx)]
        exact hs.reports x
    rw [handOver_report hp hs h, composeReports_of_none hd]
    exact ⟨rfl, partHeld_writeHandover_same (.report seat) 1 s⟩
  · refine ⟨_, exec_handedCell rfl s, ?_⟩
    have hd : reportDue (writeHandover (.report seat) 1 s) seat = true := by
      have hn : ((writeHandover (.report seat) 1 s).seats[seat].answer.isSome
          || !(writeHandover (.report seat) 1 s).seats[seat].notices.isEmpty) = true := by
        rcases hwait with ha | hn
        · exact Bool.or_eq_true_iff.2 (.inl ha)
        · exact Bool.or_eq_true_iff.2 (.inr (by rw [Bool.not_eq_true', List.isEmpty_eq_false_iff]; exact hn))
      rw [reportDue, partHeld_writeHandover_same, hn]
      rfl
    rw [handOver_report hp hs h]
    exact ⟨(composeReports_reported hd).of_seat rfl rfl, by simp, by simp, by simp⟩

/-! ### Bus cells (R156, R158) -/

theorem busFieldsOk_iff (station : StationRecord) (f : BusFields) :
    busFieldsOk station f = true ↔ f.direction ≤ 1 ∧ f.address ≤ 63
      ∧ f.address ≠ station.ownAddress ∧ f.length ≤ 32 ∧ ¬ (f.direction = 1 ∧ f.address = 0) := by
  simp only [busFieldsOk, Bool.and_eq_true, decide_eq_true_eq, bne_iff_ne, Bool.not_eq_true',
    Bool.and_eq_false_iff, beq_eq_false_iff_ne, and_assoc, not_and_or]

/-- The hand-over byte is none of a bus cell's fields. -/
theorem busFields_writeHandover (n : BusCellNo) (v : Byte) (s : State) :
    busFields (writeHandover (.bus n) v s) n = busFields s n := by
  have read (i : Nat) (hi : i < 255) :
      cellByte (writeHandover (.bus n) v s) (.bus n) i = cellByte s (.bus n) i :=
    read_writeHandover_other v s (by simp only [CellRef.handoverAddress, CellRef.size]; omega)
  simp only [busFields, read 0 (by decide), read 1 (by decide), read 2 (by decide)]

theorem cellBytes_writeHandover {n : BusCellNo} {i k : Nat} (v : Byte) (s : State) (h : i + k < 256) :
    cellBytes (writeHandover (.bus n) v s) (.bus n) i k = cellBytes s (.bus n) i k :=
  Memory.readBlock_congr fun j hj =>
    read_writeHandover_other v s (by simp only [CellRef.handoverAddress, CellRef.size]; omega)

/-- R158: what the outcome of a bus cell leaves of it. -/
theorem returnBusCell_badField (n : BusCellNo) (s : State) :
    partHeld (returnBusCell n .badField [] s) (.bus n) = false
      ∧ cellBytes (returnBusCell n .badField [] s) (.bus n) 36 2 = [4, 0] := by
  have hram : (returnBusCell n .badField [] s).ram
      = (writeHandover (.bus n) 0 (writeCell (.bus n) 36 [4, 0] s)).ram := rfl
  refine ⟨?_, ?_⟩
  · rw [partHeld, hram]
    exact partHeld_writeHandover_same (.bus n) 0 _
  · rw [cellBytes, hram]
    exact (cellBytes_writeHandover (i := 36) (k := 2) 0 _ (by decide)).trans
      (Memory.readBlock_writeBlock_same (bytes := [4, 0]))

/-- The outcome of a bus cell makes no report due. -/
theorem reportDue_returnBusCell (n : BusCellNo) (r : CellResult) (reply : List Byte) (s : State)
    (x : SeatNo) : reportDue (returnBusCell n r reply s) x = reportDue s x := by
  have hw := (returnBusCell_ramKept n r reply s).reads (CellRef.report x).handoverAddress (by
    rintro ⟨m, hm⟩
    simp only [CellRef.handoverAddress, CellRef.base, CellRef.size, seatArea] at hm
    omega)
  simp [reportDue, partHeld, hw]

/-- Settles O10: the fields are read behind the hand-over, whose byte is none of them; neither outcome
disturbs anything else. -/
theorem busCellIsJudgedAtItsHandOver : Obligations.BusCellIsJudgedAtItsHandOver := by
  unfold Obligations.BusCellIsJudgedAtItsHandOver
  intro s n f hp hs hc hf
  refine ⟨_, exec_handedCell rfl s, ?_⟩
  rw [handOver_open _ hp]
  have hw : writeToHandover (.bus n) 1 s = judgeBusCell n (writeHandover (.bus n) 1 s) :=
    writeToHandover_hostHeld hc
  have hr (x : SeatNo) : reportDue (writeHandover (.bus n) 1 s) x = false :=
    (reportDue_writeHandover 1 s x (by simp)).trans (hs.reports x)
  rw [judgeBusCell, busFields_writeHandover, ← hf] at hw
  simp only [← busFieldsOk_iff]
  split
  · next hok =>
    rw [if_pos (show busFieldsOk (writeHandover (.bus n) 1 s).station f = true from hok)] at hw
    have hlen : f.length ≤ 32 := ((busFieldsOk_iff ..).1 hok).2.2.2.1
    have ht : cellTxn (writeHandover (.bus n) 1 s) n
        = ⟨.cell (f.direction == 1) f.address f.length (cellBytes s (.bus n) 4 f.length),
            .cell n, 0, 0, 0⟩ := by
      rw [cellTxn, busFields_writeHandover, ← hf]
      simp only [newTxn]
      rw [cellBytes_writeHandover 1 s (by omega)]
    rw [ht] at hw
    rw [act_quiet hp.1 hs (by rw [hw]; constructor <;> rfl) (fun x => by rw [hw]; exact hr x), hw]
    exact ⟨partHeld_writeHandover_same (.bus n) 1 s, rfl⟩
  · next hok =>
    rw [if_neg (show ¬ busFieldsOk (writeHandover (.bus n) 1 s).station f = true from hok)] at hw
    rw [act_quiet hp.1 hs (by rw [hw]; constructor <;> simp)
      (fun x => by rw [hw, reportDue_returnBusCell]; exact hr x), hw]
    obtain ⟨hheld, hbytes⟩ := returnBusCell_badField n (writeHandover (.bus n) 1 s)
    refine ⟨hheld, hbytes, ?_, by simp⟩
    show ((s.port.summary ||| BitVec.ofNat 16 (2 ^ 12)).getLsbD 12) = true
    rw [BitVec.getLsbD_or, show (BitVec.ofNat 16 (2 ^ 12)).getLsbD 12 = true by decide, Bool.or_true]

/-! ### Where the memory changes -/

/-- Where a command that restarts nothing writes the memory: where the part does, and at the hand-over byte
of the cell it hands over. -/
def commandWrites (c : Instr) (a : Nat) : Prop :=
  partWrites a ∨ ∃ cell, handedCell c = some cell ∧ a = cell.handoverAddress

theorem Deed.ramKept {c : Instr} {s t : State} (hd : Deed c s t) (hc : restartCommand c = false) :
    RamKept (commandWrites c) s t := by
  cases hd with
  | moves hm => exact hm.ramKept.mono fun a ha => .inl (partWrites_of_busWrites ha)
  | order _ hb => exact .of_eq (takeOrder_ram hb s)
  | ramWrite a v _ h => rw [hc] at h; cases h
  | handOver cell _ h =>
    exact (writeToHandover_ramKept cell 1 s).mono fun a ha =>
      ha.imp partWrites_of_busWrites fun e => ⟨cell, h, e⟩
  | presenceExpired | keyedMs | dutyExpired | inhibitTaken | inhibitCleared | ampFaultTaken =>
    exact .of_eq (by simp)

theorem Does.ramKept {c : Instr} {s t : State} (hd : Does c s t) (hc : restartCommand c = false) :
    RamKept (commandWrites c) s t := by
  induction hd with
  | same => exact .of_eq rfl
  | seq _ _ _ ih ih' => exact ih.trans ih'
  | @act s d _ h =>
    exact (h.ramKept hc).trans (((finishSetup_moves s d).ramKept.mono fun a ha =>
      .inl (partWrites_of_busWrites ha)).trans ((closeAct_ramKept s _).mono fun a ha => .inl ha))
  | registers => exact .of_eq rfl
  | ampFaultLine => exact .of_eq rfl
  | inhibitLine => exact .of_eq rfl
  | powerOn _ h | released _ h | restart _ h => rw [hc] at h; cases h
  | holdReset s => exact .of_eq (t := Machine.holdReset s) (by simp [Machine.holdReset])

/-- Settles O51: of what a command that restarts nothing does, the hand-over of its cell, the outcomes of bus
cells and the reports of the close write the memory. -/
theorem memoryChangesOnlyWhereThePartWrites : Obligations.MemoryChangesOnlyWhereThePartWrites := by
  unfold Obligations.MemoryChangesOnlyWhereThePartWrites
  intro c s t a hc he hp hcell
  obtain ⟨u, hu, hd⟩ := exec_does c s
  obtain rfl : u = t := Host.Outcome.next.inj (hu.symm.trans he)
  refine (hd.ramKept hc).reads a ?_
  rintro (h | ⟨cell, h, rfl⟩)
  · exact hp h
  · exact hcell cell h rfl

end Sys2Proof.Machine

/-! O1, O2: the step (log 2, log 3, log 4). -/

namespace Sys2Proof.Machine

/-- Settles O1. -/
theorem stepRunsTheFrontCommand : Obligations.StepRunsTheFrontCommand := by
  unfold Obligations.StepRunsTheFrontCommand
  exact fun _ _ _ => rfl

/-! ### What is due -/

theorem mem_whenDue {b : Bool} {c d : Instr} : c ∈ whenDue b d ↔ b = true ∧ c = d := by
  cases b <;> simp [whenDue]

theorem ranDown_iff {t : Option Nat} : ranDown t = true ↔ t = some 0 := by
  simp [ranDown]

theorem orderTake_of_mem_dueOrder {c : Instr} {s : State} (h : c ∈ dueOrder s) : orderTake c = true := by
  unfold dueOrder at h
  split at h
  · simp at h
  · obtain rfl := List.mem_singleton.1 h
    exact orderTake_orderCommand _

theorem mem_duePresence {c : Instr} {s : State} :
    c ∈ duePresence s ↔ ∃ x, presenceDue s x = true ∧ c = .presenceExpiry x := by
  simp only [duePresence, List.mem_map, List.mem_filter, List.mem_finRange, true_and, eq_comm (b := c)]

/-- R146, R147, R149, R151: the moves of the bus engine, but for the message that waits. -/
def dueEngine (s : State) : List Instr :=
  whenDue
      (s.bus.engine == .free && (s.bus.inFlight.isSome || (nextWork s).isSome)
        || s.bus.engine == .recovering && s.bus.sbcLow && s.bus.inFlight.isNone
          && (nextWork s).isSome)
      .busTransactionStart
    ++ whenDue (quietRuns s) .busFree
    ++ whenDue (s.bus.engine == .recovering && !s.bus.sbcLow) .busRecovery
    ++ whenDue (s.bus.engine == .following && ranDown s.bus.hold) .inboundHoldTimeout

theorem dueBus_eq (s : State) :
    dueBus s = (s.bus.inbound.map inboundCommand).toList ++ dueEngine s := by
  simp only [dueBus, dueEngine, List.append_assoc]

/-- Where a command that is no order and no message of the panel may come from. -/
theorem mem_due {c : Instr} {s : State} (ho : orderTake c = false)
    (hp : c ∉ [Instr.take, .give, .halt, .resume]) :
    c ∈ due s ↔ (∃ x, presenceDue s x = true ∧ c = .presenceExpiry x) ∨ c ∈ dueFloor s ∨ c ∈ dueTimers s
      ∨ c ∈ dueEngine s := by
  have h1 : c ∉ dueOrder s := fun h => by rw [orderTake_of_mem_dueOrder h] at ho; cases ho
  have h2 : c ∉ (s.bus.inbound.map inboundCommand).toList := fun h => by
    obtain ⟨m, -, rfl⟩ := Option.map_eq_some_iff.1 (Option.mem_toList.1 h)
    exact hp (inboundCommand_cases m)
  rw [due, dueBus_eq]
  simp only [List.mem_append, mem_duePresence, h1, h2, false_or, or_assoc]

/-- R52: the time warning is due with 15,000 ms or less remaining of a grant above 15 s. -/
theorem timeWarning_due_iff (s : State) :
    ((timeWarningDue s = true ∧ s.floor.holder.isSome = true) ∧ keyDownRemaining s ≤ 15000)
      ↔ s.floor.state = .onAir ∧ s.floor.timeWarned = false ∧ s.floor.holder.isSome = true
        ∧ ∃ g, s.floor.grant = some g ∧ 15 < g.duration
          ∧ g.duration * 1000 - s.floor.keyDown ≤ 15000 := by
  cases hg : s.floor.grant with
  | none => simp [timeWarningDue, hg]
  | some g =>
    simp only [timeWarningDue, keyDownRemaining, hg, Option.any_some, Bool.and_eq_true, beq_iff_eq,
      Bool.not_eq_true', decide_eq_true_eq, Option.some.injEq, exists_eq_left']
    tauto

/-! ### The step on an empty queue -/

theorem step_empty {s : State} (h : s.pending = []) : step s = .next (idle s) := by
  rw [step, h]

theorem idle_nothing_due {s : State} (hr : Running s) (h : due s = []) : idle s = tick s := by
  rw [idle, if_neg (by simp [hr]), h]

/-- R16: a keyed station owes the millisecond of its keying. -/
theorem tick_pending {s : State} (hr : Running s) :
    (tick s).pending = if s.keying.state = .unkeyed then [] else [.keyedMillisecond] := by
  have hp : pttOut s = decide (s.keying.state ≠ .unkeyed) := by
    simp only [pttOut, hr]
    cases s.keying.state <;> rfl
  show whenDue (pttOut s) _ = _
  rw [hp]
  by_cases h : s.keying.state = .unkeyed <;> simp [whenDue, h]

/-- Of the events that are due one becomes the next command. -/
theorem idle_chooses {s : State} (hr : Running s) (h : due s ≠ []) :
    (∃ c ∈ due s, (idle s).pending = [c]) ∧ idle s = (s.withFree (idle s).free).withPending (idle s).pending := by
  cases hd : due s with
  | nil => exact absurd hd h
  | cons c rest =>
    have hi : idle s = chooseDue s c rest := by
      rw [idle, if_neg (by simp [hr]), hd]
    rw [hi]
    unfold chooseDue
    split
    · exact ⟨⟨c, List.mem_cons_self, rfl⟩, rfl⟩
    · have hlt : Config.dueChoice s.free % (rest.length + 1) < (c :: rest).length :=
        Nat.mod_lt _ (Nat.succ_pos _)
      refine ⟨⟨(c :: rest)[Config.dueChoice s.free % (rest.length + 1)], List.getElem_mem hlt, ?_⟩, rfl⟩
      show [((c :: rest)[Config.dueChoice s.free % (rest.length + 1)]?).getD c] = _
      rw [List.getElem?_eq_getElem hlt, Option.getD_some]

/-- Settles O2: with nothing due a millisecond passes; otherwise one of the events that are due comes next,
each expiry when its condition holds. -/
theorem emptyQueueLetsTheClockAct : Obligations.EmptyQueueLetsTheClockAct := by
  unfold Obligations.EmptyQueueLetsTheClockAct
  intro s hp
  refine ⟨fun hr => ?low, fun hr hd => ?tick, ?_, ?_, ?_, ?_, ?_, ?_, ?_, ?_, ?_, ?_, ?_, ?_, ?_, ?_, ?_,
    fun x => ?presence, fun hr hd => ⟨_, step_empty hp, idle_chooses hr hd⟩⟩
  case low => rw [step_empty hp, idle, if_pos hr]
  case tick =>
    refine ⟨_, step_empty hp, ?_⟩
    rw [idle_nothing_due hr hd]
    refine ⟨by simp [tick, passMs], by simp [tick, passMs, countDown], by simp [tick, passMs],
      by simp [tick, passMs, countDown], by simp [tick, passMs, countDown],
      by simp [tick, passMs, countDown], by simp [tick, passMs], by simp [tick, passMs],
      fun hg => by simp [tick, passMs, hg], by simp [tick, passMs, countDown],
      by simp [tick, passMs, countDown], by simp [tick, passMs], by simp [tick, passMs],
      by simp [tick, passMs], by simp [tick, passMs], by simp [tick, passMs], ?_, tick_pending hr⟩
    simp [Kept, tick, passMs]
  case presence =>
    rw [mem_due rfl (by simp)]
    simp only [dueFloor, dueTimers, dueEngine, List.mem_append, mem_whenDue, reduceCtorEq, and_false,
      or_false, Instr.presenceExpiry.injEq, presenceDue, Option.any_eq_true, beq_iff_eq,
      exists_eq_right']
  all_goals
    rw [mem_due rfl (by decide)]
    simp only [dueFloor, dueTimers, dueEngine, List.mem_append, mem_whenDue, reduceCtorEq, and_false,
      exists_false, false_or, or_false, and_true, Bool.and_eq_true, beq_iff_eq, ranDown_iff,
      timeWarning_due_iff, Option.any_eq_true, decide_eq_true_eq]

end Sys2Proof.Machine

/-! O3, O4, O5: power-on, the reset line and the registers (R141, R162, R163, R182). -/

namespace Sys2Proof.Machine

/-! ### Power-on (R182) -/

/-- R160: at power-on the hand-over bytes of the report cells read 01h, every other byte 00h. -/
theorem read_initialRam (a : Nat) :
    Memory.read initialRam a
      = if ∃ seat : SeatNo, a = (CellRef.report seat).handoverAddress then 1 else 0 := by
  split
  · next h =>
    obtain ⟨seat, rfl⟩ := h
    exact (by decide : ∀ seat : SeatNo, Memory.read initialRam (CellRef.report seat).handoverAddress = 1)
      seat
  · next h =>
    have hcells : ∀ c ∈ initialRam, ∃ seat : SeatNo, c.1 = (CellRef.report seat).handoverAddress := by
      decide
    have hne : ∀ c ∈ initialRam, c.1 ≠ a := fun c hc e => by
      obtain ⟨seat, hs⟩ := hcells c hc
      exact h ⟨seat, e.symm.trans hs⟩
    simpa [Memory.read] using Memory.read_append_of_absent (m := initialRam) (n := []) hne

theorem heatLaw_reset : HeatLaw State.reset :=
  ⟨by simp [State.reset, Duty.initial], by simp [State.reset, Duty.initial]⟩

theorem seatLaw_reset : SeatLaw State.reset where
  seat_member x m h := by rw [attachedMember_reset] at h; cases h
  member_seat m r x h := by simp [State.reset] at h

theorem settled_reset : Settled State.reset := settled_of_reset rfl rfl rfl rfl rfl

/-- R182: RESTART keeps the member records, the band plan and the station record. -/
theorem exec_restart {s : State} (hp : PortTakes s) : exec .restart s = .next (restartState s) :=
  congrArg Host.Outcome.next (if_pos (by simp [portOpen, hp.1, hp.2]))

/-- R163: a 1 written to CONTROL bit 0 is a RESTART. -/
theorem exec_registerWrite_control {s : State} {v : Byte} (hp : PortTakes s) (hv : v.getLsbD 0 = true) :
    exec (.registerWrite 4 v) s = exec .restart s := by
  rw [exec_restart hp]
  refine congrArg Host.Outcome.next ?_
  rw [if_pos (by simp [portOpen, hp.1, hp.2])]
  exact if_pos hv

/-- Settles O3: power-on and the release of RESET_N take the reset state's blocks, and RESTART too but for
the tables it keeps. -/
theorem powerOnAndRestart : Obligations.PowerOnAndRestart := by
  unfold Obligations.PowerOnAndRestart
  refine ⟨⟨rfl, rfl, fun m => ?_, fun i => ?_, fun x => ?_, rfl, rfl, rfl, rfl, rfl, rfl, rfl, rfl, rfl, rfl,
    rfl, rfl, rfl, rfl, rfl, read_initialRam, rfl, rfl, rfl, rfl, rfl, rfl, by decide, wf_initialRam,
    keyingLaw_reset, floorLaw_reset, identLaw_reset, playoutLaw_reset, heatLaw_reset, seatLaw_reset,
    noticeLaw_reset, orderLaw_reset, busLaw_reset, settled_reset⟩,
    fun s => ⟨rfl, rfl, fun hp v hv => ⟨exec_registerWrite_control hp hv, _, exec_restart hp,
      rfl, rfl, fun m => ?_, rfl, rfl, rfl, rfl, rfl⟩⟩⟩
  · simp [State.reset]
  · simp [State.reset]
  · simp [State.reset]
  · show (s.members.map keepMember)[m] = _
    simp [keepMember]

/-! ### The reset line (R141) -/

theorem portOpen_low {s : State} (h : s.pins.resetLow = true) : portOpen s = false := by
  simp [portOpen, h]

/-- R141: while RESET_N is low no other command does anything. -/
theorem exec_resetLow {c : Instr} {s : State} (h : s.pins.resetLow = true) (hc : lineCommand c = false) :
    exec c s = .next s := by
  have hport {t : State} : Host.Outcome.next (if portOpen s = true then t else s)
      = (Host.Outcome.next s : Host.Outcome State Fault Refusal) := by
    rw [portOpen_low h]
    rfl
  have hact (f : State → State) :
      (Host.Outcome.next (act f s) : Host.Outcome State Fault Refusal) = .next s := by
    rw [act_resetLow h]
  have hcell (cell : CellRef) : (Host.Outcome.next (handOver cell s) : Host.Outcome State Fault Refusal)
      = .next s := hport
  cases c
  case powerOn | resetAsserted | resetReleased | txInhibitAsserted | txInhibitDeasserted |
      ampFaultAsserted | ampFaultDeasserted => cases hc
  case restart | summaryWrite | maskWrite | registerWrite => exact hport
  case hostWrite => exact congrArg Host.Outcome.next (if_pos h)
  case exchangeTransactionClose => exact congrArg Host.Outcome.next (if_pos h)
  case orderCellHandover | reportCellReturn | audioCellTake | busCellHandover => exact hcell _
  all_goals exact hact _

theorem setInhibit_same {level : Bool} {s : State} (h : s.pins.txInhibit = level) :
    s = setInhibit level s := by
  rw [setInhibit, ← h]
  rfl

theorem setAmpFault_same {level : Bool} {s : State} (h : s.pins.ampFault = level) :
    s = setAmpFault level s := by
  rw [setAmpFault, ← h]
  rfl

theorem holdReset_resetLow (s : State) : (holdReset s).pins.resetLow = true := rfl

/-- Settles O4: the reset line brings the outputs to rest, and every act and the port wait for it. -/
theorem resetLineHoldsThePart : Obligations.ResetLineHoldsThePart := by
  unfold Obligations.ResetLineHoldsThePart
  refine ⟨fun s => ⟨_, rfl, holdReset_resetLow s, ?_, ?_, ?_, rfl, rfl, rfl, fun k => ?_, fun a => ?_,
    ?_, ?_, ?_, ?_⟩, fun c s h hc => exec_resetLow h hc, fun s h => ⟨?_, ?_, ?_⟩⟩
  · rw [pttOut, holdReset_resetLow]; rfl
  · rw [keyOut, holdReset_resetLow]; rfl
  · simp [holdReset]
  · rw [dacSample, if_pos (holdReset_resetLow s)]
  · rw [portRead, if_pos (holdReset_resetLow s)]
  · simp [holdReset]
  · simp [holdReset]
  · simp [holdReset]
  · simp [intLine, holdReset]
  · refine congrArg Host.Outcome.next ?_
    split
    · next hi => exact setInhibit_same hi
    · rfl
  · refine congrArg Host.Outcome.next ?_
    split
    · rfl
    · next hi => exact setInhibit_same (by simpa using hi)
  · refine congrArg Host.Outcome.next ?_
    split
    · next hf => exact setAmpFault_same hf
    · rfl

/-! ### The registers (R162, R163) -/

/-- The bits of a byte in its place in a register. -/
theorem atByte_getLsbD (high : Bool) (v : Byte) {i : Nat} (h : i < 16) :
    (atByte high v).getLsbD i = (high == decide (8 ≤ i) && v.getLsbD (i % 8)) := by
  by_cases hi : 8 ≤ i
  · have hmod : i % 8 = i - 8 := by omega
    have hn : ¬ i < 8 := by omega
    cases high <;> simp [atByte, hi, hmod, hn, h]
  · have hmod : i % 8 = i := by omega
    cases high <;> simp [atByte, hi, hmod, h]

/-- R163: INT follows the two registers. -/
theorem intLine_iff (s : State) :
    intLine s = true ↔ ∃ i : Fin 16,
      s.port.summary.getLsbD i.val = true ∧ s.port.mask.getLsbD i.val = true := by
  have hzero : s.port.summary &&& s.port.mask = 0 ↔ ∀ i : Fin 16,
      ¬ (s.port.summary.getLsbD i.val = true ∧ s.port.mask.getLsbD i.val = true) := by
    constructor
    · rintro h i ⟨hs, hm⟩
      have hb := congrArg (fun x => x.getLsbD i.val) h
      simp only [BitVec.getLsbD_and, hs, hm] at hb
      exact absurd hb (by simp)
    · refine fun h => BitVec.eq_of_getLsbD_eq fun i hi => ?_
      rw [BitVec.getLsbD_and, BitVec.ofNat_eq_ofNat, BitVec.getLsbD_zero, ← Bool.not_eq_true, Bool.and_eq_true]
      exact h ⟨i, hi⟩
  rw [intLine, bne_iff_ne, ne_eq, hzero]
  simp

theorem clearSummary_summary (high : Bool) (v : Byte) (s : State) (i : Fin 16) :
    (clearSummary (atByte high v) s).port.summary.getLsbD i.val
      = (s.port.summary.getLsbD i.val && !(high == decide (8 ≤ i.val) && v.getLsbD (i.val % 8))) := by
  rw [clearSummary, withPort_port, BitVec.getLsbD_and, BitVec.getLsbD_not, atByte_getLsbD high v i.isLt]
  simp

theorem clearSummary_refused (high : Bool) (v : Byte) (s : State) :
    (clearSummary (atByte high v) s).port.refused
      = if high = true ∧ v.getLsbD 6 = true then 0x8000 else s.port.refused := by
  rw [clearSummary, withPort_port, atByte_getLsbD high v (by decide)]
  cases high <;> simp

theorem storeMask_mask (high : Bool) (v : Byte) (s : State) (i : Fin 16) :
    (storeMask high v s).port.mask.getLsbD i.val
      = (decide (i.val < 15) && if high = decide (8 ≤ i.val) then v.getLsbD (i.val % 8)
          else s.port.mask.getLsbD i.val) := by
  have hlow : (0x7FFF : BitVec 16).getLsbD i.val = decide (i.val < 15) :=
    (by decide : ∀ i : Fin 16, (0x7FFF : BitVec 16).getLsbD i.val = decide (i.val < 15)) i
  have hones : (0xFF : Byte).getLsbD (i.val % 8) = true :=
    (by decide : ∀ i : Fin 16, (0xFF : Byte).getLsbD (i.val % 8) = true) i
  rw [storeMask, withPort_port, BitVec.getLsbD_and, hlow, BitVec.getLsbD_or, BitVec.getLsbD_and,
    BitVec.getLsbD_not, atByte_getLsbD _ _ i.isLt, atByte_getLsbD _ _ i.isLt, hones]
  by_cases hh : high = decide (8 ≤ i.val)
  · rw [if_pos hh, ← hh, beq_self_eq_true, Bool.and_comm]
    simp
  · have hb : (high == decide (8 ≤ i.val)) = false := beq_eq_false_iff_ne.2 hh
    rw [if_neg hh, hb, Bool.and_comm]
    simp

theorem exec_ported {c : Instr} {s t : State} (hp : PortTakes s)
    (h : exec c s = .next (if portOpen s then t else s)) : exec c s = .next t := by
  rw [h, if_pos (by simp [portOpen, hp.1, hp.2])]

/-- R160, R163: a byte written at a register's address is the write of that register. -/
theorem hostBytes_register {s : State} {a : Nat} (p : Fin 8) (v : Byte) (hp : PortTakes s)
    (ha : a = registerBase + p.val) : hostBytes a [v] s = registerByte p.val v s := by
  show hostByte a v s = _
  rw [hostByte, if_pos (by simp [portOpen, hp.1, hp.2]), if_pos (by omega),
    show a - registerBase = p.val by omega]

/-- Settles O5: each write of a register writes the registers alone, and its bits by the byte's place. -/
theorem registerWritesReachTheirBits : Obligations.RegisterWritesReachTheirBits := by
  unfold Obligations.RegisterWritesReachTheirBits
  intro s high v hp
  have control (h : v.getLsbD 0 = false) : exec (.registerWrite 4 v) s = .next s :=
    (exec_ported hp rfl).trans (congrArg Host.Outcome.next (if_neg (by rw [h]; exact Bool.false_ne_true)))
  refine ⟨⟨_, exec_ported hp rfl, rfl, clearSummary_summary high v s, rfl, rfl, rfl,
      clearSummary_refused high v s, intLine_iff _⟩,
    ⟨_, exec_ported hp rfl, rfl, storeMask_mask high v s, rfl, rfl, rfl, rfl, intLine_iff _⟩,
    rfl, rfl, rfl, rfl, control, fun p h5 => ?_, fun command address p hw ha => ?_⟩
  · refine (exec_ported hp rfl).trans (congrArg Host.Outcome.next ?_)
    unfold registerByte
    split <;> first | omega | rfl
  · rw [exec_hostWrite [v] hp hw, hostBytes_register p v hp ha]
    exact (exec_ported hp rfl).symm

end Sys2Proof.Machine

/-! O6: what the port answers, and what the exchange memory shows (R159, R160, R163, R169, R175, R176). -/

namespace Sys2Proof.Machine

/-! ### Fields of a layout -/

/-- A number in so many bytes, the low byte first. -/
def leBytes : Nat → Nat → List Byte
  | 0, _ => []
  | w + 1, n => byteOf n :: leBytes w (n / 256)

@[simp] theorem leBytes_length (w n : Nat) : (leBytes w n).length = w := by
  induction w generalizing n with
  | zero => rfl
  | succ w ih => simp [leBytes, ih]

theorem fromLE_leBytes (w n : Nat) : fromLE (leBytes w n) = n % 256 ^ w := by
  induction w generalizing n with
  | zero => simp [leBytes, fromLE, Nat.mod_one]
  | succ w ih =>
    rw [leBytes, fromLE, ih, byteOf, BitVec.toNat_ofNat, pow_succ' 256 w, Nat.mod_mul]

/-- Numbers one behind the other, each with its width. -/
def fieldBytes (l : List (Nat × Nat)) : List Byte := l.flatMap fun x => leBytes x.1 x.2

theorem fieldBytes_cons (w n : Nat) (l : List (Nat × Nat)) :
    fieldBytes ((w, n) :: l) = leBytes w n ++ fieldBytes l := List.flatMap_cons

/-- The numbers one behind the other from an offset on, as fields of a layout. -/
def placed : Nat → List (Nat × Nat) → List FieldAt
  | _, [] => []
  | o, (w, n) :: rest => (o, w, n) :: placed (o + w) rest

/-- The memory shows some bytes from an address on. -/
def ShowsBytes (s : State) (a : Nat) (bytes : List Byte) : Prop :=
  ∀ i, i < bytes.length → memoryByte s (a + i) = bytes.getD i 0

theorem ShowsBytes.left {s : State} {a : Nat} {l k : List Byte} (h : ShowsBytes s a (l ++ k)) :
    ShowsBytes s a l := fun i hi => by
  rw [h i (by rw [List.length_append]; omega), List.getD_append _ _ _ _ hi]

theorem ShowsBytes.right {s : State} {a : Nat} {l k : List Byte} (h : ShowsBytes s a (l ++ k)) :
    ShowsBytes s (a + l.length) k := fun i hi => by
  rw [Nat.add_assoc, h _ (by rw [List.length_append]; omega),
    List.getD_append_right _ _ _ _ (by omega), Nat.add_sub_cancel_left]

/-- The bytes that a layout of a fixed length shows; behind the last it shows 00h. -/
theorem showsBytes_padTo {s : State} {a n : Nat} {l : List Byte}
    (h : ∀ i, i < n → memoryByte s (a + i) = (padTo n l).getD i 0) (hl : l.length ≤ n) :
    ShowsBytes s a l := fun i hi => by
  rw [h i (by omega), padTo_getD, if_pos (by omega)]

theorem zero_of_padTo {s : State} {a n i : Nat} {l : List Byte}
    (h : ∀ i, i < n → memoryByte s (a + i) = (padTo n l).getD i 0) (hi : i < n) (hl : l.length ≤ i) :
    memoryByte s (a + i) = 0 := by
  rw [h i hi, padTo_getD, if_pos hi, List.getD_eq_default _ _ hl]

/-- A number stands where its bytes do. -/
theorem shown_leBytes {s : State} {a w n : Nat} (h : ShowsBytes s a (leBytes w n)) :
    shown s a w = n % 256 ^ w := by
  rw [← fromLE_leBytes]
  refine congrArg fromLE (List.ext_getElem (by simp) fun i hi hi' => ?_)
  rw [List.getElem_map, List.getElem_range, h i hi', List.getD_eq_getElem]

/-- Numbers that stand one behind the other are the fields of their layout. -/
theorem shows_placed {s : State} {base o : Nat} {l : List (Nat × Nat)}
    (h : ShowsBytes s (base + o) (fieldBytes l)) : Shows s base (placed o l) := by
  induction l generalizing o with
  | nil => exact fun x hx => absurd hx List.not_mem_nil
  | cons x rest ih =>
    obtain ⟨w, n⟩ := x
    rw [fieldBytes_cons] at h
    have hrest := h.right
    rw [leBytes_length, Nat.add_assoc] at hrest
    intro y hy
    rcases List.mem_cons.1 hy with rfl | hy
    · exact shown_leBytes h.left
    · exact ih hrest y hy

theorem Shows.append {s : State} {base : Nat} {l k : List FieldAt} (h : Shows s base l)
    (h' : Shows s base k) : Shows s base (l ++ k) := fun x hx =>
  (List.mem_append.1 hx).elim (h x) (h' x)

theorem flagByte_eq (b : Bool) : flagByte b = byteOf b.toNat := by cases b <;> rfl

theorem le16_eq (n : Nat) : le16 n = leBytes 2 n := rfl

theorem le32_eq (n : Nat) : le32 n = leBytes 4 n := by
  simp [le32, le16, leBytes, Nat.div_div_eq_div_mul]

theorem byte_eq (n : Nat) : [byteOf n] = leBytes 1 n := rfl

/-! ### Where the memory shows a layout (R160) -/

theorem memoryByte_page (s : State) {i : Nat} (h : i < 0x200) :
    memoryByte s i = (devicePage s).getD i 0 := by
  rw [memoryByte, if_pos h]

theorem memoryByte_board (s : State) (x : SeatNo) {i : Nat} (h : i < 128) :
    memoryByte s (0x1780 + 2048 * x.val + i) = (seatBoard s x).getD i 0 := by
  have hdiv : (0x1780 + 2048 * x.val + i - 0x1000) / 2048 = x.val := by omega
  have hmod : (0x1780 + 2048 * x.val + i - 0x1000) % 2048 = 0x780 + i := by omega
  have hx : Fin.ofNat 12 x.val = x := Fin.ext (by rw [Fin.val_ofNat, Nat.mod_eq_of_lt x.isLt])
  rw [memoryByte, if_neg (by omega), if_neg (by omega), if_neg (by omega), if_neg (by omega),
    if_pos (by omega), hdiv, hmod, if_neg (by omega), hx, Nat.add_sub_cancel_left]

theorem memoryByte_register (s : State) {i : Nat} (h : i < 8) :
    memoryByte s (0x7FF8 + i) = (le16 (registerRead s (i / 2)).toNat).getD (i % 2) 0 := by
  rw [memoryByte, if_neg (by omega), if_neg (by omega), if_neg (by omega), if_neg (by omega),
    if_neg (by omega), if_neg (by simp only [registerBase]; omega),
    show 0x7FF8 + i - registerBase = i by simp only [registerBase]; omega]

theorem memoryByte_cell (s : State) (c : CellRef) {i : Nat} (h : i < c.size) :
    memoryByte s (c.base + i) = Memory.read s.ram (c.base + i) := by
  have bus (a : Nat) (h1 : 0xC00 ≤ a) (h2 : a < 0x1000) : memoryByte s a = Memory.read s.ram a := by
    rw [memoryByte, if_neg (by omega), if_neg (by omega), if_neg (by omega), if_pos h2]
  have area (x : SeatNo) (o : Nat) (ho : o < 0x780) :
      memoryByte s (seatArea x + o) = Memory.read s.ram (seatArea x + o) := by
    have hmod : (seatArea x + o - 0x1000) % 2048 = o := by simp only [seatArea]; omega
    rw [memoryByte, if_neg (by simp only [seatArea]; omega), if_neg (by simp only [seatArea]; omega),
      if_neg (by simp only [seatArea]; omega), if_neg (by simp only [seatArea]; omega),
      if_pos (by simp only [seatArea]; omega), hmod, if_pos ho]
  cases c with
  | bus n => simp only [CellRef.base, CellRef.size] at h ⊢; exact bus _ (by omega) (by omega)
  | order x => simp only [CellRef.base, CellRef.size] at h ⊢; exact area x i (by omega)
  | report x =>
    simp only [CellRef.base, CellRef.size] at h ⊢
    rw [Nat.add_assoc]
    exact area x _ (by omega)
  | audio x n =>
    simp only [CellRef.base, CellRef.size] at h ⊢
    rw [Nat.add_assoc, Nat.add_assoc]
    exact area x _ (by omega)

/-! ### The device page (R175) -/

/-- The numbers of the device page in front of the queue snapshot. -/
def pageFront (s : State) : List (Nat × Nat) :=
  let f := s.floor
  [(2, 0x0C12), (1, 1), (1, s.mode.code), (1, 12), (1, 48), (1, 32), (1, 4), (1, f.state.code),
    (1, (f.holder.map fun h => h.seat.val).getD 0xFF), (1, (f.holder.map fun h => h.member.val).getD 0xFF),
    (1, f.turnCount), (4, (f.grant.map Grant.freq).getD 0), (1, (f.grant.map fun g => g.mode.code).getD 0),
    (1, ((f.grant.map Grant.ampUsed).getD false).toNat), (2, (f.grant.map Grant.power).getD 0),
    (2, (f.grant.map Grant.duration).getD 0), (4, s.page.keyDownRemaining), (1, s.queue.length),
    (1, (f.state == .panelHeld).toNat + 2 * s.pins.txInhibit.toNat
      + 4 * (!s.keying.ampInService).toNat + 8 * s.ident.window.toNat + 16 * s.ident.pending.toNat),
    (4, s.page.q), (2, s.page.idSeconds), (2, 0), (4, s.page.updateCount.toNat), (4, s.page.stamp.toNat),
    (4, 0)]

/-- R175: the queue snapshot. -/
def snapshot (s : State) : List Byte :=
  ((s.queue.flatMap snapshotEntry) ++ List.replicate 24 0xFF).take 24

/-- The numbers of the device page behind the queue snapshot. -/
def pageBack (s : State) : List (Nat × Nat) :=
  let b := s.bus.believed
  [(1, b.port.isSome.toNat + 2 * b.freq.isSome.toNat + 4 * b.mode.isSome.toNat
      + 8 * b.drive.isSome.toNat + 16 * b.amp.isSome.toNat),
    (1, b.port.getD 0), (4, b.freq.getD 0), (1, (b.mode.map TxMode.code).getD 0),
    (1, (b.amp.map AmpState.code).getD 0), (2, b.drive.getD 0)]

theorem byteOf_getD {α : Type} (o : Option α) (f : α → Nat) (d : Nat) :
    (o.map fun x => byteOf (f x)).getD (byteOf d) = byteOf ((o.map f).getD d) := by
  cases o <;> rfl

theorem devicePage_eq (s : State) :
    devicePage s = padTo 512 (fieldBytes (pageFront s) ++ (snapshot s
      ++ (fieldBytes (pageBack s) ++ (List.replicate 46 0 ++ stationImage s.station)))) := by
  have hseat := byteOf_getD s.floor.holder (fun h => h.seat.val) 0xFF
  have hmember := byteOf_getD s.floor.holder (fun h => h.member.val) 0xFF
  have hff : byteOf 0xFF = 0xFF := rfl
  rw [hff] at hseat hmember
  unfold devicePage
  simp only [hseat, hmember, flagByte_eq]
  refine congrArg (padTo 512) ?_
  simp only [pageFront, pageBack, snapshot, fieldBytes, List.flatMap_cons, List.flatMap_nil, ← le16_eq,
    ← le32_eq, ← byte_eq, List.append_assoc, List.append_nil, pageFlags, believedFlags]
  rfl

/-! ### The station record and the seat boards (R100, R176) -/

/-- The numbers of the station record behind the callsign. -/
def stationNumbers (r : StationRecord) : List (Nat × Nat) :=
  [(2, r.cst), (2, r.cb), (2, r.guard), (2, r.keyLimit), (2, r.minGrant), (1, r.hangTime),
    (1, r.turnLimit), (1, r.startWait), (1, r.threshold), (1, r.trimMargin), (1, r.starveLimit),
    (1, r.disorderLimit),
    (1, r.criteria.starve.toNat + 2 * r.criteria.disorder.toNat + 4 * r.criteria.resync.toNat),
    (2, r.rejoin), (1, r.presence), (1, r.lead), (1, r.idInterval), (1, r.closing), (2, r.grace),
    (1, r.idSpeed),
    (1, r.pulsedTune.toNat + 2 * r.wrap.toNat + 4 * r.ampPresent.toNat + 8 * r.pollEnable.toNat),
    (2, r.pitch), (4, r.qmax), (2, r.cool), (1, r.tuneCeiling), (1, r.tuneLimit), (1, r.swrLimit),
    (1, r.ownAddress), (1, r.radioAddress), (1, r.antennaAddress), (1, r.ampAddress), (1, r.panelAddress)]

theorem stationImage_eq (r : StationRecord) :
    stationImage r = leBytes 1 r.callsign.length ++ (padTo 10 r.callsign
      ++ (leBytes 1 0 ++ fieldBytes (stationNumbers r))) := by
  simp only [stationImage, stationNumbers, fieldBytes, List.flatMap_cons, List.flatMap_nil, ← le16_eq,
    ← le32_eq, ← byte_eq, List.append_assoc, List.append_nil, List.map_cons, List.map_nil]
  rfl

/-- The numbers of a seat board. -/
def boardNumbers (s : State) (x : SeatNo) : List (Nat × Nat) :=
  let r := s.seats[x]
  let c := r.counters
  let holds := s.floor.holder.any fun h => h.seat == x
  [(1, if r.attachment.isSome then 1 else 0), (1, (r.attachment.map fun a => a.member.val).getD 0xFF),
    (4, (r.attachment.map fun a => a.deadline.toNat).getD 0), (1, r.saturated.toNat),
    (1, r.criteria.starve.toNat + 2 * r.criteria.disorder.toNat + 4 * r.criteria.resync.toNat),
    (1, r.warned.toNat), (1, if holds then s.playout.frames.length else 0),
    (1, if holds then s.playout.depth else 0), (1, 0), (2, c.taken), (2, c.late), (2, c.early),
    (2, c.duplicate), (2, c.underflow), (2, c.trimmed), (2, c.resync), (2, c.refused)]

theorem seatBoard_eq (s : State) (x : SeatNo) :
    seatBoard s x = padTo 128 (fieldBytes (boardNumbers s x)) := by
  have hown : (holderSeat s == some x) = s.floor.holder.any fun h => h.seat == x := by
    unfold holderSeat
    cases s.floor.holder <;> rfl
  have hmember := byteOf_getD s.seats[x].attachment (fun a => a.member.val) 0xFF
  have hff : byteOf 0xFF = 0xFF := rfl
  have hflag : flagByte s.seats[x].attachment.isSome
      = byteOf (if s.seats[x].attachment.isSome = true then 1 else 0) := by
    cases s.seats[x].attachment.isSome <;> rfl
  have hif (n : Nat) : (if (s.floor.holder.any fun h => h.seat == x) = true then byteOf n else 0)
      = byteOf (if (s.floor.holder.any fun h => h.seat == x) = true then n else 0) := by
    split <;> rfl
  rw [hff] at hmember
  unfold seatBoard
  simp only [hown, hmember, hflag, hif, flagByte_eq, Criteria.byte]
  refine congrArg (padTo 128) ?_
  simp only [boardNumbers, fieldBytes, List.flatMap_cons, List.flatMap_nil, ← le16_eq,
    ← le32_eq, ← byte_eq, List.append_assoc, List.append_nil]
  rfl

/-! ### The images (R176) -/

/-- The numbers of a member image entry in front of the callsign. -/
def memberNumbers (r : Member) : List (Nat × Nat) :=
  [(1, if r.state = .active then 1 else 2), (1, r.grade), (1, r.priority.toNat), (1, r.misses),
    (2, r.ceiling), (2, r.allowance), (1, (r.attached.map fun n => n.val).getD 0xFF),
    (1, r.callsign.length)]

theorem padTo_zeros (n k : Nat) (l : List Byte) : padTo n (l ++ List.replicate k 0) = padTo n l := by
  refine List.ext_getElem (by simp) fun i hi hi' => ?_
  rw [← List.getD_eq_getElem _ 0, ← List.getD_eq_getElem _ 0, padTo_getD, padTo_getD]
  by_cases hl : i < l.length
  · rw [List.getD_append _ _ _ _ hl]
  · rw [List.getD_append_right _ _ _ _ (by omega), List.getD_eq_default l _ (by omega)]
    by_cases hk : i - l.length < k
    · rw [List.getD_replicate 0 hk]
    · rw [List.getD_eq_default _ _ (by simpa using Nat.not_lt.1 hk)]

theorem memberImage_some (r : Member) :
    memberImage (some r) = padTo 32 (fieldBytes (memberNumbers r) ++ (padTo 10 r.callsign
      ++ fieldBytes [(4, r.used / 1000), (4, 0), (4, 0)])) := by
  have hatt := byteOf_getD r.attached (fun n => n.val) 0xFF
  have hff : byteOf 0xFF = 0xFF := rfl
  have hst : byteOf r.state.code = byteOf (if r.state = .active then 1 else 2) := by
    cases r.state <;> rfl
  rw [hff] at hatt
  unfold memberImage
  simp only [hatt, hst, flagByte_eq]
  rw [← padTo_zeros 32 8]
  refine congrArg (padTo 32) ?_
  simp only [memberNumbers, fieldBytes, List.flatMap_cons, List.flatMap_nil, ← le16_eq,
    ← le32_eq, ← byte_eq, List.append_assoc, List.append_nil]
  rfl

/-- The numbers of a band image entry. -/
def bandNumbers (g : Segment) : List (Nat × Nat) :=
  [(1, 1), (1, g.minGrade), (1, g.modes.toNat), (1, g.port), (1, g.amp.toNat), (4, g.low), (4, g.high),
    (2, g.ceiling)]

theorem bandImage_some (g : Segment) :
    bandImage (some g) = padTo 32 (fieldBytes (bandNumbers g)) := by
  have hm : g.modes = byteOf g.modes.toNat := by rw [byteOf, BitVec.ofNat_toNat, BitVec.setWidth_eq]
  unfold bandImage
  simp only [flagByte_eq]
  refine congrArg (padTo 32) ?_
  conv_lhs => rw [hm]
  simp only [bandNumbers, fieldBytes, List.flatMap_cons, List.flatMap_nil, ← le16_eq,
    ← le32_eq, ← byte_eq, List.append_assoc, List.append_nil]
  rfl

/-! ### What the memory shows -/

theorem showsBytes_page (s : State) :
    ShowsBytes s 0 (fieldBytes (pageFront s) ++ (snapshot s
      ++ (fieldBytes (pageBack s) ++ (List.replicate 46 0 ++ stationImage s.station)))) := by
  refine showsBytes_padTo (n := 512) (fun i hi => ?_) ?_
  · rw [Nat.zero_add, memoryByte_page s hi, devicePage_eq]
  · simp [stationImage_eq, snapshot, fieldBytes, pageFront, pageBack, stationNumbers]

theorem snapshot_length (s : State) : (snapshot s).length = 24 := by simp [snapshot]

theorem pageFront_length (s : State) : (fieldBytes (pageFront s)).length = 0x30 := by
  simp [fieldBytes, pageFront]

theorem pageBack_length (s : State) : (fieldBytes (pageBack s)).length = 10 := by
  simp [fieldBytes, pageBack]

theorem showsBytes_snapshot (s : State) : ShowsBytes s 0x30 (snapshot s) := by
  simpa only [pageFront_length] using (showsBytes_page s).right.left

theorem showsBytes_pageBack (s : State) : ShowsBytes s 0x48 (fieldBytes (pageBack s)) := by
  simpa only [pageFront_length, snapshot_length] using (showsBytes_page s).right.right.left

theorem showsBytes_gap (s : State) : ShowsBytes s 0x52 (List.replicate 46 0) := by
  simpa only [pageFront_length, snapshot_length, pageBack_length] using
    (showsBytes_page s).right.right.right.left

theorem showsBytes_station (s : State) :
    ShowsBytes s 0x80 (leBytes 1 s.station.callsign.length ++ (padTo 10 s.station.callsign
      ++ (leBytes 1 0 ++ fieldBytes (stationNumbers s.station)))) := by
  rw [← stationImage_eq]
  simpa only [pageFront_length, snapshot_length, pageBack_length, List.length_replicate] using
    (showsBytes_page s).right.right.right.right

theorem shows_page (s : State) : Shows s 0 (pageFields s) := by
  have hmode : s.mode.code = if s.mode = .serving then 1 else 0 := by
    cases s.mode <;> rfl
  have hamp : ((s.floor.grant.map Grant.ampUsed).getD false).toNat
      = if (s.floor.grant.map Grant.ampUsed).getD false = true then 1 else 0 := by
    cases (s.floor.grant.map Grant.ampUsed).getD false <;> rfl
  have hbel : (s.bus.believed.amp.map AmpState.code).getD 0
      = if s.bus.believed.amp = some .operate then 1 else 0 := by
    rcases s.bus.believed.amp with - | (- | -) <;> rfl
  have h := (shows_placed (o := 0) (showsBytes_page s).left).append
    (shows_placed (base := 0) (o := 0x48) (by simpa using showsBytes_pageBack s))
  simp only [pageFront, pageBack, hmode, hamp, hbel] at h
  exact h

/-- A field of the layout behind a queue entry: its two bytes. -/
theorem snapshotEntry_getD (l : List Entry) (k : List Byte) (i j : Nat) (hj : j < 2) :
    (l.flatMap snapshotEntry ++ k).getD (2 * i + j) 0
      = match l[i]? with
        | some e => (snapshotEntry e).getD j 0
        | none => k.getD (2 * (i - l.length) + j) 0 := by
  induction l generalizing i with
  | nil => simp
  | cons e rest ih =>
    rw [List.flatMap_cons, List.append_assoc]
    cases i with
    | zero =>
      rw [List.getD_append _ _ _ _ (by simp [snapshotEntry]; omega), List.getElem?_cons_zero]
      simp
    | succ i =>
      rw [List.getD_append_right _ _ _ _ (by simp [snapshotEntry]; omega), List.getElem?_cons_succ,
        show 2 * (i + 1) + j - (snapshotEntry e).length = 2 * i + j by simp [snapshotEntry]; omega, ih]
      simp

theorem memoryByte_snapshot (s : State) {i j : Nat} (hi : i < 12) (hj : j < 2) :
    memoryByte s (0x30 + (2 * i + j))
      = match s.queue[i]? with
        | some e => (snapshotEntry e).getD j 0
        | none => 0xFF := by
  have hlt : 2 * i + j < 24 := by omega
  rw [showsBytes_snapshot s (2 * i + j) (by rw [snapshot_length]; exact hlt), snapshot,
    List.getD_eq_getElem?_getD, List.getElem?_take_of_lt hlt, ← List.getD_eq_getElem?_getD,
    snapshotEntry_getD _ _ _ _ hj]
  cases hq : s.queue[i]? with
  | some e => rfl
  | none => exact List.getD_replicate _ (by omega)

theorem showsBytes_board (s : State) (x : SeatNo) :
    ShowsBytes s (0x1780 + 2048 * x.val) (fieldBytes (boardNumbers s x)) :=
  showsBytes_padTo (n := 128) (fun i hi => by rw [memoryByte_board s x hi, seatBoard_eq])
    (by simp [fieldBytes, boardNumbers])

theorem showsBytes_member {s : State} {m : MemberNo} {r : Member} (h : s.members[m] = some r) :
    ShowsBytes s (0x200 + 32 * m.val) (fieldBytes (memberNumbers r) ++ (padTo 10 r.callsign
      ++ fieldBytes [(4, r.used / 1000), (4, 0), (4, 0)])) :=
  showsBytes_padTo (n := 32) (fun i hi => by rw [memoryByte_member s m hi, h, memberImage_some])
    (by simp [fieldBytes, memberNumbers])

theorem showsBytes_band {s : State} {n : SlotNo} {g : Segment} (h : s.plan[n] = some g) :
    ShowsBytes s (0x800 + 32 * n.val) (fieldBytes (bandNumbers g)) :=
  showsBytes_padTo (n := 32) (fun i hi => by rw [memoryByte_band s n hi, h, bandImage_some])
    (by simp [fieldBytes, bandNumbers])

/-- A text of ten places shows its characters, and 00h behind them. -/
theorem callsign_shown {s : State} {a i : Nat} {l : List Byte} (h : ShowsBytes s a (padTo 10 l))
    (hi : i < 10) : memoryByte s (a + i) = l.getD i 0 := by
  rw [h i (by simpa using hi), padTo_getD, if_pos hi]

/-- Fields left out of a layout leave those of the others. -/
theorem Shows.of_skip {s : State} {base n : Nat} {l : List FieldAt} {x : FieldAt}
    (h : Shows s base (l.take n ++ x :: l.drop n)) : Shows s base l := fun y hy => by
  rw [← List.take_append_drop n l, List.mem_append] at hy
  refine h y (List.mem_append.2 (hy.imp_right (List.mem_cons_of_mem _)))

theorem shows_station (s : State) :
    Shows s 0x80 (stationFields s.station) ∧ Shows s 0x80 (stationFlags s.station) := by
  have hall := showsBytes_station s
  have hlen : Shows s 0x80 [(0, 1, s.station.callsign.length)] :=
    shows_placed (base := 0x80) (o := 0) (l := [(1, s.station.callsign.length)]) hall.left
  have hnum : Shows s 0x80 (placed 12 (stationNumbers s.station)) :=
    shows_placed (by simpa using hall.right.right.right)
  refine ⟨(hnum.of_skip (n := 20) (x := (39, 1, _))).of_skip (n := 12) (x := (29, 1, _)), fun x hx => ?_⟩
  · simp only [stationFlags, List.mem_cons, List.not_mem_nil, or_false] at hx
    rcases hx with rfl | rfl | rfl
    · exact hlen _ (List.mem_singleton_self _)
    · exact hnum _ (by simp [stationNumbers, placed])
    · exact hnum _ (by simp [stationNumbers, placed])

theorem unlisted_zero (s : State) {a : Nat}
    (h : 0x52 ≤ a ∧ a < 0x80 ∨ a = 0x8B ∨ 0xB8 ≤ a ∧ a < 0x200) : memoryByte s a = 0 := by
  rcases h with ⟨hl, hr⟩ | rfl | ⟨hl, hr⟩
  · have hi : a - 0x52 < 46 := by omega
    have := showsBytes_gap s (a - 0x52) (by simpa using hi)
    rwa [List.getD_replicate _ hi, Nat.add_sub_cancel' hl] at this
  · have := (showsBytes_station s).right.right.left 0 (by simp)
    simpa [leBytes, byteOf] using this
  · rw [memoryByte_page s hr, devicePage_eq, padTo_getD, if_pos hr]
    refine List.getD_eq_default _ _ ?_
    simpa [stationImage_eq, snapshot, fieldBytes, pageFront, pageBack, stationNumbers] using hl

theorem shows_board (s : State) (x : SeatNo) :
    Shows s (0x1780 + 2048 * x.val) (boardFields s x)
      ∧ ∀ i : Nat, i = 11 ∨ 28 ≤ i ∧ i < 128 → memoryByte s (0x1780 + 2048 * x.val + i) = 0 := by
  have hall := showsBytes_board s x
  refine ⟨(shows_placed (o := 0) hall).of_skip (n := 8) (x := (11, 1, 0)), fun i hi => ?_⟩
  · rcases hi with rfl | ⟨hl, hr⟩
    · rw [hall 11 (by simp [fieldBytes, boardNumbers])]
      simp [fieldBytes, boardNumbers, leBytes, byteOf]
    · exact zero_of_padTo (n := 128) (l := fieldBytes (boardNumbers s x))
        (fun i hi => by rw [memoryByte_board s x hi, seatBoard_eq]) hr
        (by simpa [fieldBytes, boardNumbers] using hl)

theorem shows_member {s : State} {m : MemberNo} {r : Member} (h : s.members[m] = some r) :
    Shows s (0x200 + 32 * m.val) (memberFields r)
      ∧ ∀ i : Nat, i < 10 → memoryByte s (0x200 + 32 * m.val + 10 + i) = r.callsign.getD i 0 := by
  have hall := showsBytes_member h
  have hlen : (fieldBytes (memberNumbers r)).length = 10 := by simp [fieldBytes, memberNumbers]
  have hname := hall.right.left
  have htail := hall.right.right
  rw [hlen] at hname htail
  rw [padTo_length] at htail
  refine ⟨?_, fun i hi => callsign_shown hname hi⟩
  have hfront := shows_placed (o := 0) hall.left
  have hback := shows_placed (base := 0x200 + 32 * m.val) (o := 20) htail
  exact hfront.append hback

theorem memoryByte_noMember {s : State} {m : MemberNo} (h : s.members[m] = none) {i : Nat}
    (hi : i < 32) : memoryByte s (0x200 + 32 * m.val + i) = if i = 8 then 0xFF else 0 := by
  rw [memoryByte_member s m hi, h]
  exact (by decide : ∀ i : Fin 32, (memberImage none).getD i.val 0 = if i.val = 8 then 0xFF else 0)
    ⟨i, hi⟩

theorem shows_band {s : State} {n : SlotNo} {g : Segment} (h : s.plan[n] = some g) :
    Shows s (0x800 + 32 * n.val) (bandFields g)
      ∧ ∀ i : Nat, 15 ≤ i ∧ i < 32 → memoryByte s (0x800 + 32 * n.val + i) = 0 := by
  refine ⟨shows_placed (o := 0) (showsBytes_band h), fun i hi => ?_⟩
  exact zero_of_padTo (n := 32) (l := fieldBytes (bandNumbers g))
    (fun i hi => by rw [memoryByte_band s n hi, h, bandImage_some]) hi.2
    (by simpa [fieldBytes, bandNumbers] using hi.1)

/-- R163: the registers show their 16 bits, the low byte first. -/
theorem shows_registers (s : State) :
    Shows s 0x7FF8
      [(0, 2, s.port.summary.toNat), (2, 2, s.port.mask.toNat),
        (4, 2, if s.mode = .serving then 0x100 else 0), (6, 2, s.port.refused.toNat)] := by
  have hmode : (registerRead s 2).toNat = if s.mode = .serving then 0x100 else 0 := by
    show (BitVec.ofNat 16 (0x100 * s.mode.code)).toNat = _
    cases s.mode <;> rfl
  have hreg : ShowsBytes s (0x7FF8 + 0)
      (fieldBytes [(2, (registerRead s 0).toNat), (2, (registerRead s 1).toNat),
        (2, (registerRead s 2).toNat), (2, (registerRead s 3).toNat)]) := fun i hi => by
    have hi : i < 8 := by simpa [fieldBytes] using hi
    rw [Nat.add_zero, memoryByte_register s hi]
    simp only [fieldBytes, List.flatMap_cons, List.flatMap_nil, List.append_nil, ← le16_eq]
    interval_cases i <;> rfl
  have := shows_placed (o := 0) hreg
  rw [hmode] at this
  exact this

/-- R160: the memory shows the layouts at their places. -/
theorem memoryShows (s : State) : MemoryShows s where
  page := shows_page s
  queued i e hi hq := by
    have h0 := memoryByte_snapshot s hi (j := 0) (by decide)
    have h1 := memoryByte_snapshot s hi (j := 1) (by decide)
    rw [hq] at h0 h1
    exact ⟨h0, by rw [show 0x31 + 2 * i = 0x30 + (2 * i + 1) by omega]; exact h1⟩
  unqueued i hi hq := by
    have h0 := memoryByte_snapshot s hi (j := 0) (by decide)
    have h1 := memoryByte_snapshot s hi (j := 1) (by decide)
    rw [List.getElem?_eq_none hq] at h0 h1
    exact ⟨h0, by rw [show 0x31 + 2 * i = 0x30 + (2 * i + 1) by omega]; exact h1⟩
  station := shows_station s
  callsign i hi := callsign_shown (by simpa using (showsBytes_station s).right.left) hi
  unlisted a ha := unlisted_zero s ha
  board := shows_board s
  member m r h := shows_member h
  noMember m h i hi := memoryByte_noMember h hi
  band n g h := shows_band h
  noBand n h i hi := memoryByte_band_empty h ⟨i, hi⟩
  cells c i hi := memoryByte_cell s c hi
  unused a ha := by
    rw [memoryByte, if_neg (by omega), if_neg (by omega), if_neg (by omega), if_neg (by omega),
      if_neg (by omega), if_pos (by simp only [registerBase]; omega)]
  register := shows_registers s

/-! ### The transactions of the port (R159, R163) -/

/-- R159: a read answers each successive address. -/
theorem portReads_serving {s : State} (hp : PortTakes s) (a n : Nat) :
    (portReads s a n).length = n
      ∧ ∀ i, i < n → (portReads s a n)[i]? = some (memoryByte s (nextAddress^[i] a)) := by
  have hread (a : Nat) : portRead s a = some (memoryByte s a) := by
    rw [portRead, if_neg (by simp [hp.1]), hp.2]
  induction n generalizing a with
  | zero => exact ⟨rfl, fun i hi => absurd hi (Nat.not_lt_zero _)⟩
  | succ n ih =>
    obtain ⟨hlen, hbytes⟩ := ih (nextAddress a)
    rw [portReads, hread]
    refine ⟨by rw [Option.toList_some, List.length_append, hlen, List.length_singleton, Nat.add_comm],
      fun i hi => ?_⟩
    cases i with
    | zero => rfl
    | succ i => exact hbytes i (by omega)

/-- R163: after a RESTART a read answers 00h. -/
theorem portReads_restarted {s : State} (hr : Running s) (hp : s.port.phase = .restarted) (a n : Nat) :
    portReads s a n = List.replicate n 0 := by
  have hread (a : Nat) : portRead s a = some 0 := by
    rw [portRead, if_neg (by simp [hr]), hp]
  induction n generalizing a with
  | zero => rfl
  | succ n ih => rw [portReads, hread, ih]; rfl

/-- A port that does not serve leaves every command of the port but a transaction. -/
theorem exec_notServing {c : Instr} {s : State} (hp : s.port.phase ≠ .serving)
    (hc : portCommand c = true)
    (ht : ∀ command address data, c = .hostWrite command address data →
      transaction command address data s = s) : exec c s = .next s := by
  have hclosed : portOpen s = false := by simp [portOpen, hp]
  have hport {t : State} : Host.Outcome.next (if portOpen s = true then t else s)
      = (Host.Outcome.next s : Host.Outcome State Fault Refusal) := by
    rw [hclosed]
    rfl
  cases c <;> simp only [portCommand, Bool.false_eq_true] at hc
  case hostWrite command address data =>
    exact congrArg Host.Outcome.next (ht command address data rfl)
  all_goals exact hport

/-- Settles O6: the phase of the port decides what a transaction does, and the memory is read by its
layouts. -/
theorem portIgnoresUntilTheClose : Obligations.PortIgnoresUntilTheClose := by
  unfold Obligations.PortIgnoresUntilTheClose
  intro s
  refine ⟨fun command address data hp => ⟨fun hbad => ?_, fun hread => ?_⟩,
    fun hp => ⟨fun a => ?_, fun c hc => ?_⟩,
    fun hp hr => ⟨fun c hc hw => ?_, fun command address data hread => ?_⟩,
    fun hr => congrArg Host.Outcome.next (if_neg (by simp [hr])), memoryShows s⟩
  · refine congrArg Host.Outcome.next ?_
    simp [transaction, hp.1, hp.2, readCommand, hbad]
  · refine ⟨readTransaction (address.toNat % 0x8000) data.length s, congrArg Host.Outcome.next ?_, rfl,
      (portReads_serving hp _ _).1, fun i hi => (portReads_serving hp _ _).2 i (by omega)⟩
    simp [transaction, hp.1, hp.2, hread]
  · rw [portRead, hp]
    split <;> rfl
  · refine exec_notServing (by simp [hp]) hc fun command address data _ => ?_
    simp [transaction, hp]
  · refine exec_notServing (by simp [hp]) hc fun command address data e => ?_
    simp [transaction, hr, hp, hw command address data e]
  · refine congrArg Host.Outcome.next ?_
    rw [← portReads_restarted hr hp (address.toNat % 0x8000)]
    simp [transaction, hr, hp, hread, readTransaction]

end Sys2Proof.Machine

/-! O28: STATION_WRITE (R79, R155, R176, R180, R181). -/

namespace Sys2Proof.Machine

/-! ### The record as written (R176) -/

theorem fromLE_singleton (b : Byte) : fromLE [b] = b.toNat := by simp [fromLE]

theorem fromLE_cellBytes_one (s : State) (c : CellRef) (o : Nat) :
    fromLE (cellBytes s c o 1) = (cellByte s c o).toNat := fromLE_singleton _

/-- The first bytes of some bytes of a cell. -/
theorem cellBytes_take {s : State} {c : CellRef} {o n k : Nat} (h : k ≤ n) :
    (cellBytes s c o n).take k = cellBytes s c o k := by
  refine List.ext_getElem (by simpa [cellBytes] using h) fun i hi hi' => ?_
  rw [List.getElem_take]
  simp only [cellBytes, Memory.readBlock_getElem]

theorem parseCallsign_some {length : Byte} {s : State} {c : CellRef} {o : Nat} {name : List Byte}
    (h : parseCallsign length (cellBytes s c o 10) = some name) :
    length.toNat = name.length ∧ cellBytes s c o name.length = name := by
  unfold parseCallsign at h
  simp only at h
  split at h
  · next hl =>
    obtain ⟨-, hten, -⟩ := hl
    obtain rfl := Option.some.inj h
    rw [cellBytes_take hten]
    simp [cellBytes]
  · cases h

/-- R176: the numeric fields of the record that is written are those of the order cell. -/
theorem parseStation_fields {s : State} {seat : SeatNo} {r : StationRecord}
    (h : parseStation s seat = some r) :
    (∀ x ∈ stationFields r, fromLE (cellBytes s (.order seat) (4 + x.1) x.2.1) = x.2.2)
      ∧ parseCallsign (bodyByte s seat 4) (cellBytes s (.order seat) 5 10) = some r.callsign
      ∧ r.criteria = criteriaOfByte (bodyByte s seat 33)
      ∧ r.pulsedTune = (bodyByte s seat 43).getLsbD 0 ∧ r.wrap = (bodyByte s seat 43).getLsbD 1
      ∧ r.ampPresent = (bodyByte s seat 43).getLsbD 2
      ∧ r.pollEnable = (bodyByte s seat 43).getLsbD 3 := by
  unfold parseStation at h
  obtain ⟨name, hn, rfl⟩ := Option.map_eq_some_iff.1 h
  refine ⟨?_, hn, rfl, rfl, rfl, rfl, rfl⟩
  simp only [stationFields, List.forall_mem_cons, List.not_mem_nil, false_imp_iff, implies_true, and_true,
    fromLE_cellBytes_one, bodyByte, body16, body32]

/-! ### The record as stored (R180, R181) -/

theorem nearestPitch_mem (n : Nat) : nearestPitch n ∈ [500, 600, 700, 800, 1000] := by
  unfold nearestPitch
  split_ifs <;> simp

/-- R181: no pitch is nearer, and none as near is lower. -/
theorem nearestPitch_nearest (n : Nat) : ∀ p ∈ [500, 600, 700, 800, 1000],
    (max (nearestPitch n) n - min (nearestPitch n) n < max p n - min p n)
      ∨ (max (nearestPitch n) n - min (nearestPitch n) n = max p n - min p n) ∧ nearestPitch n ≤ p := by
  intro p hp
  simp only [List.mem_cons, List.not_mem_nil, or_false] at hp
  unfold nearestPitch
  split_ifs <;> omega

/-- The fields of two records that differ are the numbers in them that do. -/
theorem countP_zip_fields (shape : List (Nat × Nat)) (l k : List Nat)
    (hl : shape.length = l.length) (hk : l.length = k.length) :
    ((List.zipWith (fun x n => ((x.1, x.2, n) : FieldAt)) shape l).zip
      (List.zipWith (fun x n => ((x.1, x.2, n) : FieldAt)) shape k)).countP (fun x => x.1 != x.2)
      = differences l k := by
  induction shape generalizing l k with
  | nil =>
    obtain rfl : l = [] := List.length_eq_zero_iff.1 hl.symm
    rfl
  | cons x rest ih =>
    obtain - | ⟨a, as⟩ := l
    · cases hl
    obtain - | ⟨b, bs⟩ := k
    · cases hk
    simp only [List.zipWith_cons_cons, List.zip_cons_cons, List.countP_cons, differences,
      ih as bs (by simpa using hl) (by simpa using hk)]
    by_cases hab : a = b <;> simp [hab, Nat.add_comm]

/-- The offsets and widths of the numeric fields. -/
def stationShape : List (Nat × Nat) :=
  [(12, 2), (14, 2), (16, 2), (18, 2), (20, 2), (22, 1), (23, 1), (24, 1), (25, 1), (26, 1), (27, 1), (28, 1),
    (30, 2), (32, 1), (33, 1), (34, 1), (35, 1), (36, 2), (38, 1), (40, 2), (42, 4), (46, 2), (48, 1), (49, 1),
    (50, 1), (51, 1), (52, 1), (53, 1), (54, 1), (55, 1)]

/-- R181: the fields that had to be changed. -/
theorem countP_stationFields (r k : StationRecord) :
    ((stationFields r).zip (stationFields k)).countP (fun x => x.1 != x.2)
      = differences r.numbers k.numbers :=
  countP_zip_fields stationShape r.numbers k.numbers rfl rfl

/-! ### STATION_WRITE -/

/-- R79: Q is brought down to a lowered Qmax. -/
theorem limitHeat_duty (s : State) :
    (limitHeat s).duty = { s.duty with q := min s.duty.q s.station.qmax } := by
  unfold limitHeat
  split
  · next h => simp [Nat.min_eq_right (Nat.le_of_lt h)]
  · next h => simp [Nat.min_eq_left (Nat.not_lt.1 h)]

/-- R155: what is believed after a STATION_WRITE. -/
theorem forgetMoved_believed (old : StationRecord) (s : State) :
    (forgetMoved old s).bus.believed
      = s.bus.believed.forget (old.radioAddress != s.station.radioAddress)
          (old.antennaAddress != s.station.antennaAddress) (old.ampAddress != s.station.ampAddress) := by
  simp [forgetMoved, setBelieved]

/-- The state of a STATION_WRITE that passed its checks. -/
abbrev stationWritten (r : StationRecord) (s : State) : State :=
  forgetMoved s.station (limitHeat (stampPage (s.withStation r.clamped)))

theorem ite_bne {α : Type} (a b : Nat) (x y : α) :
    (if (a != b) = true then x else y) = if b = a then y else x := by
  by_cases h : a = b
  · simp [h]
  · simp [h, Ne.symm h]

/-- R180, R181: the fields of the record as stored, each in its range. -/
theorem clamped_ranges (r : StationRecord) :
    ∀ x ∈ [(r.clamped.cst, 1, 1500, r.cst), (r.clamped.cb, 1, 200, r.cb),
        (r.clamped.guard, 0, 2000, r.guard), (r.clamped.keyLimit, 30, 600, r.keyLimit),
        (r.clamped.hangTime, 0, 10, r.hangTime), (r.clamped.turnLimit, 1, 8, r.turnLimit),
        (r.clamped.startWait, 1, 30, r.startWait), (r.clamped.threshold, 1, 12, r.threshold),
        (r.clamped.trimMargin, 2, 8, r.trimMargin), (r.clamped.starveLimit, 1, 50, r.starveLimit),
        (r.clamped.disorderLimit, 1, 50, r.disorderLimit),
        (r.clamped.rejoin, 0, 5000, r.rejoin - r.rejoin % 100),
        (r.clamped.presence, 5, 120, r.presence), (r.clamped.lead, 0, 100, r.lead),
        (r.clamped.idInterval, 1, 30, r.idInterval), (r.clamped.closing, 10, 120, r.closing),
        (r.clamped.grace, 0, 300, r.grace), (r.clamped.idSpeed, 10, 30, r.idSpeed),
        (r.clamped.qmax, 1000, 4000000, r.qmax), (r.clamped.cool, 0, 1500, r.cool),
        (r.clamped.tuneCeiling, 5, 100, r.tuneCeiling),
        (r.clamped.tuneLimit, 5, 30, r.tuneLimit), (r.clamped.swrLimit, 15, 50, r.swrLimit),
        (r.clamped.ownAddress, 1, 63, r.ownAddress),
        (r.clamped.radioAddress, 1, 63, r.radioAddress),
        (r.clamped.antennaAddress, 1, 63, r.antennaAddress),
        (r.clamped.ampAddress, 1, 63, r.ampAddress),
        (r.clamped.panelAddress, 1, 63, r.panelAddress)],
      x.1 = max x.2.1 (min x.2.2.1 x.2.2.2) := by
  have hrejoin : r.rejoin / 100 * 100 = r.rejoin - r.rejoin % 100 := by omega
  simp only [List.forall_mem_cons, List.not_mem_nil, false_imp_iff, implies_true,
    StationRecord.clamped, clampTo, hrejoin, and_self]

/-- What a STATION_WRITE that passed its checks leaves. -/
theorem stationWritten_facts (r : StationRecord) (seat : SeatNo) (rest : List SeatNo) (s : State) :
    let d := stationWritten r (orderTaken seat rest s)
    d.station = r.clamped ∧ d.duty = { s.duty with q := min s.duty.q r.clamped.qmax }
      ∧ d.bus.believed = s.bus.believed.forget (s.station.radioAddress != r.clamped.radioAddress)
        (s.station.antennaAddress != r.clamped.antennaAddress)
        (s.station.ampAddress != r.clamped.ampAddress)
      ∧ d.ram = s.ram ∧ d.floor = s.floor ∧ d.queue = s.queue ∧ d.handovers = rest := by
  have hduty := limitHeat_duty (stampPage ((orderTaken seat rest s).withStation r.clamped))
  have hbel := forgetMoved_believed (orderTaken seat rest s).station
    (limitHeat (stampPage ((orderTaken seat rest s).withStation r.clamped)))
  exact ⟨by simp, by simpa using hduty, by simpa [stationWritten] using hbel, by simp, by simp, by simp, by simp⟩

/-- Settles O28: past its checks STATION_WRITE stores the record it reads, each field in its range. -/
theorem stationWriteReplacesTheRecord : Obligations.StationWriteReplacesTheRecord := by
  unfold Obligations.StationWriteReplacesTheRecord
  intro s seat rest h ha
  have hauth : withAuthority doStationWrite seat (orderTaken seat rest s)
      = doStationWrite seat (orderTaken seat rest s) := withAuthority_of_authority (by simpa using ha)
  have hfree : stationFree (orderTaken seat rest s) = stationFree s := by simp [stationFree]
  refine ⟨fun hm hf => ?_, fun hok => ?_⟩
  · refine execOrder_refused h (hauth.trans ?_)
    rw [doStationWrite, if_pos ⟨by simpa using hm, hfree.trans hf⟩]
  have hn : ¬ ((orderTaken seat rest s).mode = .serving ∧ stationFree (orderTaken seat rest s) = false) := by
    rw [hfree]
    rintro ⟨hm, hf⟩
    have hm : s.mode = .serving := by simpa using hm
    rcases hok with hc | hc
    · rw [hc] at hm; cases hm
    · rw [hc] at hf; cases hf
  refine ⟨fun hp => ?_, fun r hp => ?_⟩
  · refine execOrder_refused h (hauth.trans ?_)
    rw [doStationWrite, if_neg hn, parseStation_orderTaken, hp]
  · have hd : withAuthority doStationWrite seat (orderTaken seat rest s)
        = (stationWritten r (orderTaken seat rest s), ⟨.done, [byteOf r.clampCount]⟩) := by
      rw [hauth, doStationWrite, if_neg hn, parseStation_orderTaken, hp]
    obtain ⟨hfields, hname, hcrit, hpulsed, hwrap, hamp, hpoll⟩ := parseStation_fields hp
    obtain ⟨hlen, hchars⟩ := parseCallsign_some hname
    obtain ⟨hst, hduty, hbel, hram, hfloor, hqueue, hhand⟩ := stationWritten_facts r seat rest s
    have kept (p : Part) := orderClosed_kept s seat (answerWith s seat .done [byteOf r.clampCount])
      (stationWritten r (orderTaken seat rest s)) p
    have hcst := Eq.trans (kept .station) hst
    have hcbel := Eq.trans (kept .believed) hbel
    have hcduty := Eq.trans (kept .heat) hduty
    have hcfloor := Eq.trans (kept .floor) hfloor
    have hcqueue := Eq.trans (kept .queue) hqueue
    have hchand := Eq.trans (kept .handovers) hhand
    clear kept
    have hans := orderClosed_answered seat (answerWith s seat .done [byteOf r.clampCount]) hram
    refine execOrder_gives h hd hfloor ?_
    generalize orderClosed s seat (answerWith s seat .done [byteOf r.clampCount])
      (stationWritten r (orderTaken seat rest s)) = t at *
    rw [hcst, hcbel, hcduty]
    refine ⟨hchand, rfl, hfields, hlen, hchars, rfl, clamped_ranges r, rfl,
      ⟨nearestPitch_mem r.pitch, nearestPitch_nearest r.pitch⟩, hcrit, hpulsed, hwrap, hamp, hpoll, rfl,
      ite_bne .., ite_bne .., ite_bne .., ite_bne .., ite_bne .., hcfloor, hcqueue, ?_⟩
    rw [countP_stationFields]
    exact hans

end Sys2Proof.Machine

/-! O14, O38, O44: moments of the stream, the keyed millisecond and the work list (R16, R52, R73, R74, R93,
R94, R103, R126, R151, R154). -/

namespace Sys2Proof.Machine

/-! ### An act that leaves the floor's state and its holder alone -/

theorem gives_act {c : Instr} {f : State → State} {s : State} {P : State → Prop}
    (hc : exec c s = .next (act f s)) (hr : Running s) (hs : (f s).floor.state = s.floor.state)
    (hh : (f s).floor.holder = s.floor.holder) (hP : P (closeAct s (f s))) : Gives (exec c s) P :=
  ⟨_, hc.trans (congrArg Host.Outcome.next (act_floor_kept hr hs hh)), hP⟩

theorem identFields_of_closing {a b : Ident} (h : { a with closing := b.closing } = b) :
    a.window = b.window ∧ a.pending = b.pending ∧ a.overdue = b.overdue ∧ a.periodic = b.periodic
      ∧ a.grace = b.grace ∧ a.lastMode = b.lastMode ∧ a.sender = b.sender := by
  rw [← h]
  exact ⟨rfl, rfl, rfl, rfl, rfl, rfl, rfl⟩

/-- Of the identification record the close of an act may write the closing timer alone. -/
@[simp] theorem closeAct_identFields (before s : State) :
    (closeAct before s).ident.window = s.ident.window
      ∧ (closeAct before s).ident.pending = s.ident.pending
      ∧ (closeAct before s).ident.overdue = s.ident.overdue
      ∧ (closeAct before s).ident.periodic = s.ident.periodic
      ∧ (closeAct before s).ident.grace = s.ident.grace
      ∧ (closeAct before s).ident.lastMode = s.ident.lastMode
      ∧ (closeAct before s).ident.sender = s.ident.sender :=
  identFields_of_closing (closeAct_kept before s .ident)

/-- Of the keying unit the close of an act may write the poll and the requested key state. -/
@[simp] theorem closeAct_keyingFields (before s : State) :
    (closeAct before s).keying.state = s.keying.state
      ∧ (closeAct before s).keying.lead = s.keying.lead
      ∧ (closeAct before s).keying.ampInService = s.keying.ampInService :=
  closeAct_kept before s .keying

@[simp] theorem closeAct_work (before s : State) :
    (closeAct before s).bus.inFlight = s.bus.inFlight
      ∧ (closeAct before s).bus.floorWork = s.bus.floorWork
      ∧ (closeAct before s).bus.cellWork = s.bus.cellWork :=
  closeAct_kept before s .work

@[simp] theorem closeAct_engine (before s : State) :
    (closeAct before s).bus.engine = s.bus.engine
      ∧ (closeAct before s).bus.attemptOpen = s.bus.attemptOpen
      ∧ (closeAct before s).bus.sbcLow = s.bus.sbcLow
      ∧ (closeAct before s).bus.sbdPulses = s.bus.sbdPulses
      ∧ (closeAct before s).bus.pulses = s.bus.pulses
      ∧ (closeAct before s).bus.inbound = s.bus.inbound ∧ (closeAct before s).bus.hold = s.bus.hold
      ∧ (closeAct before s).bus.followed = s.bus.followed
      ∧ (closeAct before s).bus.unfollowed = s.bus.unfollowed
      ∧ (closeAct before s).bus.acked = s.bus.acked ∧ (closeAct before s).bus.closed = s.bus.closed
      ∧ (closeAct before s).bus.reply = s.bus.reply :=
  closeAct_kept before s .engine

@[simp] theorem closeAct_believed (before s : State) :
    (closeAct before s).bus.believed = s.bus.believed := closeAct_kept before s .believed

/-- The close of an act may withdraw a waiting query. -/
theorem closeAct_pollWork (before s : State) :
    (closeAct before s).bus.pollWork = s.bus.pollWork ∨ (closeAct before s).bus.pollWork = none := by
  have h : (closeAct before s).bus = (settlePoll (settleClosing before s)).bus := by simp [closeAct]
  rw [h]
  unfold settlePoll
  (repeat' split) <;> simp [withdrawPoll]

/-- R166, R167: a notice that is pending before the close is noticed behind it. -/
theorem closeAct_noticed {before s d : State} {x : SeatNo} {body : NoticeBody}
    (hn : (⟨body, s.stamp⟩ : Notice) ∈ d.seats[x].notices)
    (hp : partHeld d (.report x) = partHeld s (.report x)) :
    Noticed s (closeAct before d) x body := by
  obtain ⟨u, hu, ht⟩ := composeReports_agrees x
    (settleBoard before (settleLines (settlePoll (settleClosing before d))))
  have hrec : u.seats[x] = d.seats[x] := by rw [hu.record]; simp
  have hheld : partHeld u (.report x) = partHeld s (.report x) := by
    rw [hu.partHeld_report, ← hp]
    simp [partHeld]
  have hne : u.seats[x].notices.isEmpty = false := by
    rw [hrec, List.isEmpty_eq_false_iff]
    exact List.ne_nil_of_mem hn
  rw [Noticed, closeAct]
  by_cases hr : partHeld s (.report x) = true
  · have hdue : reportDue u x = true := by rw [reportDue, hheld, hr, hne]; simp
    rw [composeReport, if_pos hdue] at ht
    rw [if_pos hr]
    exact ⟨by rw [ht.partHeld_report, partHeld_report_writeReport],
      by rw [ht.summary, writeReport_summary, decide_eq_true rfl, Bool.or_true]⟩
  · have hdue : ¬ reportDue u x = true := by rw [reportDue, hheld]; simp [hr]
    rw [composeReport, if_neg hdue] at ht
    rw [if_neg hr, ht.record, hrec]
    exact hn

/-! ### Counters (R97, R99) -/

theorem counted_raiseCounter (seat : SeatNo) (n : CounterName) (s : State) :
    Counted s (raiseCounter seat n s) seat [n] := fun x => by
  simp only [raiseCounter, modSeat_getElem]
  split
  · next h => subst h; exact ⟨rfl, rfl⟩
  · exact ⟨rfl, rfl⟩

/-- What comes behind the counters' figures keeps them. -/
theorem Counted.of_kept {s t u : State} {seat : SeatNo} {names : List CounterName}
    (h : Counted s t seat names) (hk : Kept t u .figures) : Counted s u seat names := fun x => by
  obtain ⟨hc, hs⟩ := h x
  obtain ⟨kc, ks, -, -⟩ := hk x
  exact ⟨kc.trans hc, ks.trans hs⟩

/-- What is counted from, is the station's wrap flag and the seats. -/
theorem Counted.of_seats {s s' t : State} {seat : SeatNo} {names : List CounterName}
    (h : Counted s' t seat names) (hs : s'.seats = s.seats) (hst : s'.station = s.station) :
    Counted s t seat names := fun x => by simpa only [hs, hst] using h x

theorem Counted.close {s t : State} {seat : SeatNo} {names : List CounterName}
    (h : Counted s t seat names) (before : State) : Counted s (closeAct before t) seat names :=
  h.of_kept (closeAct_kept before t .figures)

theorem raiseHolderCounter_of_holder {n : CounterName} {s : State} {h : Holder}
    (hh : s.floor.holder = some h) : raiseHolderCounter n s = raiseCounter h.seat n s := by
  simp [raiseHolderCounter, holderSeat, hh]

/-! ### Moments of the stream (R93, R94, R103, R126) -/

/-- R94, R95: while the stream's own CW is on the air KEY_OUT follows the carried key state. -/
theorem keyOut_of_stream {before d : State} (hr : Running d) (hs : stepsMade d = true)
    (hc : grantIsCw d = true) (ho : overlayInProgress d = false) :
    keyOut (closeAct before d) = d.playout.carriedKey := by
  simp only [stepsMade, Bool.and_eq_true, beq_iff_eq] at hs
  obtain ⟨⟨ha, hk⟩, -⟩ := hs
  have hcc : grantIsCw (closeAct before d) = true := by simpa [grantIsCw] using hc
  have hoo : overlayInProgress (closeAct before d) = false := by simpa [overlayInProgress] using ho
  rw [keyOut, (closeAct_settled before d).key, selectKey, hcc, hoo]
  simp [ha, hk, hr]

/-- Settles O14: each moment is an act of the playout queue, of the watch or of the tone generator alone. -/
theorem momentsOfTheStream : Obligations.MomentsOfTheStream := by
  unfold Obligations.MomentsOfTheStream
  refine fun s hr => ⟨fun np hm hnp ht hd h hh => ?trim, fun hw hst => ?window, fun x rest hk hx => ?key,
    fun ht => ?gate⟩
  case trim =>
    have hf : trimReached s = raiseCounter h.seat .trimmed
        (s.withPlayout { s.playout.drop np with np := some (np + 1), trimRun := 0 }) := by
      rw [trimReached, if_pos (by simp [trimDue, hm, ht, deepEnough, hd]), trimFrame, hnp]
      exact raiseHolderCounter_of_holder hh
    refine gives_act (f := trimReached) rfl hr (by simp) (by simp) ?_
    rw [hf]
    have hc : Counted s (raiseCounter h.seat .trimmed
        (s.withPlayout { s.playout.drop np with np := some (np + 1), trimRun := 0 })) h.seat [.trimmed] :=
      Counted.of_seats (counted_raiseCounter _ _ _) rfl rfl
    exact ⟨by simp [Playout.drop], hc.close s⟩
  case window =>
    have hf : windowEnd s = restartWindow s := by rw [windowEnd, if_pos (by simp [hw, hst])]
    refine gives_act (f := windowEnd) rfl hr (by simp) (by simp) ?_
    rw [hf]
    simp [restartWindow]
  case key =>
    have hf : cwTransition s = s.withPlayout { s.playout with carriedKey := x.down, step := .keying rest } := by
      rw [cwTransition, if_pos hk, hx]
    refine gives_act (f := cwTransition) rfl hr (by simp) (by simp) ?_
    rw [hf]
    exact ⟨by simp, fun hm hc ho => keyOut_of_stream (d := s.withPlayout { s.playout with
      carriedKey := x.down, step := .keying rest }) hr hm hc ho⟩
  case gate =>
    have hf : toggleGate s = s.withTone { s.tone with gate := !s.tone.gate, timer := some 250, age := 0 } := by
      rw [toggleGate, if_pos ht]
    refine gives_act (f := toggleGate) rfl hr (by simp) (by simp) ?_
    rw [hf]
    refine ⟨by simp, fun hsrc => ?_⟩
    have hlow : ¬ (closeAct s (s.withTone { s.tone with
        gate := !s.tone.gate, timer := some 250, age := 0 })).pins.resetLow = true := by simp [hr]
    refine ⟨?_, fun hg k => ?_⟩
    · rw [dacSample, if_neg hlow, hsrc]
      simp [tuneToneSample, burstSample_zero]
    · rw [dacSample, if_neg hlow, hsrc]
      simp [tuneToneSample, hg]

/-! ### The keyed millisecond (R16, R52, R73, R74) -/

theorem countedMs_iff (s : State) : countedMs s = true
    ↔ ¬ (grantIsTune s = true ∧ s.station.pulsedTune = true ∧ s.tone.gate = false) := by
  cases hg : s.tone.gate <;> simp [countedMs, hg, imp_iff_not_or]

theorem grantIsTune_iff {s : State} {g : Grant} (h : s.floor.grant = some g) :
    grantIsTune s = true ↔ g.mode = .tune := by
  simp [grantIsTune, h]

/-- R73, R74: what a keyed millisecond adds to the interval. -/
theorem tallyMs_duty (s : State) : (tallyMs s).duty =
    if (grantIsTune s = true ∧ s.station.pulsedTune = true ∧ s.tone.gate = false) ∨ 1000 ≤ s.duty.tOn
    then s.duty
    else { s.duty with tOn := s.duty.tOn + 1, energy := s.duty.energy + effectivePower s } := by
  have hc : (countedMs s && decide (s.duty.tOn < 1000)) = true ↔
      ¬ ((grantIsTune s = true ∧ s.station.pulsedTune = true ∧ s.tone.gate = false) ∨ 1000 ≤ s.duty.tOn) := by
    rw [Bool.and_eq_true, countedMs_iff, decide_eq_true_eq, not_or, Nat.not_le]
  unfold tallyMs
  by_cases h : (countedMs s && decide (s.duty.tOn < 1000)) = true
  · rw [if_pos h, if_neg (hc.1 h)]
    rfl
  · rw [if_neg h, if_pos (by by_contra hn; exact h (hc.2 hn))]

theorem keyedMs_keyed {s : State} (h : s.keying.state ≠ .unkeyed) :
    keyedMs s = useMs (turnMs (tallyMs s)) := if_neg h

theorem turnMs_granted {s : State} {g : Grant} (h : s.floor.grant = some g) :
    turnMs s = s.withFloor { s.floor with
      keyDown := min (g.duration * 1000) (s.floor.keyDown + 1), keyedMs := s.floor.keyedMs + 1 } := by
  rw [turnMs, h]

/-- R166: a notice raised for an ATTACHED seat is pending. -/
theorem raise_mem {seat : SeatNo} {s : State} (body : NoticeBody)
    (h : s.seats[seat].attachment.isSome = true) :
    (⟨body, s.stamp⟩ : Notice) ∈ (raise seat body s).seats[seat].notices := by
  rw [raise_getElem, if_pos rfl, Seat.receive, if_pos h]
  exact List.mem_append_right _ (List.mem_singleton_self _)

theorem attachment_isSome {s : State} {x : SeatNo} {m : MemberNo} (h : attachedMember s x = some m) :
    s.seats[x].attachment.isSome = true := by
  rw [attachedMember, Option.map_eq_some_iff] at h
  obtain ⟨a, ha, -⟩ := h
  rw [ha]
  rfl

theorem timeWarning_due {s : State} {h : Holder} {g : Grant} (hh : s.floor.holder = some h)
    (hg : s.floor.grant = some g) (ha : s.floor.state = .onAir) (hw : s.floor.timeWarned = false)
    (hd : 15 < g.duration) :
    timeWarning s = raise h.seat .warnTime (s.withFloor { s.floor with timeWarned := true }) := by
  rw [timeWarning, hh]
  simp only
  rw [if_pos (by simp [timeWarningDue, ha, hw, hg, hd])]

/-- Settles O38: a keyed millisecond is an act of the tally, the floor's counts and the member alone, and the
time warning one of the floor's flag. -/
theorem keyedMillisecondIsCounted : Obligations.KeyedMillisecondIsCounted := by
  unfold Obligations.KeyedMillisecondIsCounted
  refine fun s hr => ⟨fun h g hh hg => ⟨fun hk => ?turn, fun hm ha hw hd => ?warning⟩,
    fun p hk hh hg hp => ?ident⟩
  case turn =>
    have hf : keyedMs s = useMs (turnMs (tallyMs s)) := keyedMs_keyed hk
    have hgt : (tallyMs s).floor.grant = some g := by simpa using hg
    have hht : (turnMs (tallyMs s)).floor.holder = some h := by rw [turnMs_granted hgt]; simpa using hh
    have hfloor : (keyedMs s).floor = { s.floor with
        keyDown := min (g.duration * 1000) (s.floor.keyDown + 1), keyedMs := s.floor.keyedMs + 1 } := by
      rw [hf, turnMs_granted hgt]
      simp
    refine gives_act (f := keyedMs) rfl hr (by rw [hfloor]) (by rw [hfloor]) ⟨by simpa using hfloor,
      fun x => ?_, ?_⟩
    · have hu : useMs (turnMs (tallyMs s)) = modMember h.member Member.useMs (turnMs (tallyMs s)) := by
        rw [useMs, hht]
      have hmem := modMember_getElem h.member x Member.useMs (turnMs (tallyMs s))
      rw [show (closeAct s (keyedMs s)).members = (keyedMs s).members by simp, hf, hu, hmem]
      split
      · next hx =>
        subst hx
        simp only [turnMs_frame, tallyMs_frame]
        rfl
      · simp only [turnMs_frame, tallyMs_frame]
    · have hp : effectivePower s = g.power := by rw [effectivePower, hg]
      have ht := tallyMs_duty s
      rw [hp] at ht
      rw [hf]
      simpa [grantIsTune_iff hg] using ht
  case warning =>
    have hf := timeWarning_due hh hg ha hw hd
    refine gives_act (f := timeWarning) rfl hr (by simp [hf]) (by simp [hf]) ?_
    rw [hf]
    exact ⟨by simp, closeAct_noticed (raise_mem (s := s.withFloor { s.floor with timeWarned := true })
      .warnTime (attachment_isSome hm)) (by simp [partHeld])⟩
  case ident =>
    have ht : turnMs (tallyMs s) = tallyMs s := by
      rw [turnMs, show (tallyMs s).floor.grant = none by simpa using hg]
    have hu : useMs (tallyMs s) = tallyMs s := by
      rw [useMs, show (tallyMs s).floor.holder = none by simpa using hh]
    have hf : keyedMs s = tallyMs s := by rw [keyedMs_keyed hk, ht, hu]
    have hpow : effectivePower s = p := by
      rw [effectivePower, hg]
      rcases hp with ⟨rfl, hd⟩ | ⟨d, hd, rfl⟩
      · simp only [identPower, hd]
      · simp only [identPower, hd]
    have hnt : grantIsTune s ≠ true := by simp [grantIsTune, hg]
    have hduty := tallyMs_duty s
    rw [hpow] at hduty
    refine gives_act (f := keyedMs) rfl hr (by simp [hf]) (by simp [hf]) ?_
    rw [hf]
    exact ⟨by simp, by simp, by simpa [hnt] using hduty⟩

/-! ### The work list (R151, R154) -/

theorem startTransaction_inFlight {s : State} {x : Txn} (he : s.bus.engine = .free)
    (hx : s.bus.inFlight = some x) : startTransaction s = openAttempt x s := by
  rw [startTransaction, he, hx]

theorem startTransaction_next {s : State} {x : Txn} {b : Bus} (he : s.bus.engine = .free)
    (hx : s.bus.inFlight = none) (hn : nextWork s = some (x, b)) :
    startTransaction s
      = openAttempt { x with address := x.message.address s.station } (s.withBus b) := by
  rw [startTransaction, he, hx, hn]

theorem startTransaction_nothing {s : State} (he : s.bus.engine = .free)
    (hx : s.bus.inFlight = none) (hn : nextWork s = none) : startTransaction s = s := by
  rw [startTransaction, he, hx, hn]

/-- Settles O44: with the engine FREE the attempt of the transaction in flight opens, else that of the first
in the order of the sections. -/
theorem workListIsTakenInOrder : Obligations.WorkListIsTakenInOrder := by
  unfold Obligations.WorkListIsTakenInOrder
  intro s x more hr he
  have opens {t : Txn} {b : Bus} {P : State → Prop} (hx : s.bus.inFlight = none)
      (hn : nextWork s = some (t, b))
      (hP : P (closeAct s (openAttempt { t with address := t.message.address s.station } (s.withBus b)))) :
      Gives (exec .busTransactionStart s) P := by
    have hf := startTransaction_next he hx hn
    exact gives_act (f := startTransaction) rfl hr (by simp [hf]) (by simp [hf]) (by rw [hf]; exact hP)
  refine ⟨fun hx => ?_, fun hx hfw => ?_, fun hx hfw hpw => ?_, fun hx hfw hpw hcw => ?_⟩
  · have hf := startTransaction_inFlight he hx
    refine gives_act (f := startTransaction) rfl hr (by simp [hf]) (by simp [hf]) ?_
    rw [hf]
    simp [openAttempt]
  · exact opens hx (b := { s.bus with floorWork := more }) (by rw [nextWork, hfw])
      (by simp [openAttempt])
  · refine opens hx (b := { s.bus with pollWork := none }) (by rw [nextWork, hfw, hpw]) ?_
    refine ⟨by simp [openAttempt], by simp [openAttempt], ?_, by simp [openAttempt]⟩
    rcases closeAct_pollWork s (openAttempt { x with address := x.message.address s.station }
      (s.withBus { s.bus with pollWork := none })) with h | h
    · rw [h]; rfl
    · exact h
  · have hn : nextWork s = if cellHeld s x.message then none
        else some (x, { s.bus with cellWork := more }) := by rw [nextWork, hfw, hpw, hcw]
    have hheld : cellHeld s x.message = true ↔
        s.floor.state.holdsCells = true ∧ reachesStation s.station x.message = true := by
      rw [cellHeld, Bool.and_eq_true]
    simp only [← hheld]
    by_cases hc : cellHeld s x.message = true
    · rw [if_pos hc] at hn
      have hf := startTransaction_nothing he hx hn
      refine gives_act (f := startTransaction) rfl hr (by rw [hf]) (by rw [hf]) ?_
      rw [hf]
      simp [hc, hx, he]
    · rw [if_neg hc] at hn
      exact opens hx hn (by simp [hc, openAttempt])

end Sys2Proof.Machine

/-! O49: the STATE reply (R143, R150, R181). -/

namespace Sys2Proof.Machine

theorem foldl_add (x : Byte) (l : List Byte) : l.foldl (· + ·) x = x + l.foldl (· + ·) 0 := by
  induction l generalizing x with
  | nil => simp
  | cons b rest ih => rw [List.foldl_cons, List.foldl_cons, ih (x + b), ih (0 + b),
      BitVec.add_assoc, BitVec.add_assoc, show (0 : Byte) + _ = _ from BitVec.zero_add _]

/-- R143: with its check byte the bytes of a frame sum to 0. -/
theorem add_checkByteOf (address length : Byte) (data : List Byte) :
    address + length + data.foldl (· + ·) 0 + checkByteOf (address :: length :: data) = 0 := by
  rw [checkByteOf, List.foldl_cons, List.foldl_cons,
    show (0 : Byte) + address = address from BitVec.zero_add _, foldl_add (address + length) data]
  exact BitVec.add_right_neg _

/-- Only the engine's own fields changed. -/
def EngineOnly (s t : State) : Prop := ∀ p : Part, p ≠ .engine → Kept s t p

theorem EngineOnly.withBus {s t : State} {b : Bus} (h : EngineOnly s t)
    (hw : b.inFlight = t.bus.inFlight ∧ b.floorWork = t.bus.floorWork ∧ b.cellWork = t.bus.cellWork)
    (hb : b.believed = t.bus.believed) : EngineOnly s (t.withBus b) := by
  intro p hp
  refine (h p hp).trans ?_
  cases p
  case engine => exact absurd rfl hp
  case work => exact hw
  case believed => exact hb
  all_goals simp [Kept]

theorem EngineOnly.refl (s : State) : EngineOnly s s := fun p _ => by cases p <;> simp [Kept]

theorem EngineOnly.closeAct {s t : State} (h : EngineOnly s t) (before : State) :
    EngineOnly s (closeAct before t) := fun p hp => (h p hp).trans (closeAct_kept before t p)

theorem notDriving_of {s : State} (hr : s.bus.engine ≠ .recovering) (ho : s.bus.attemptOpen = false) :
    notDriving s = true := by
  unfold notDriving
  cases he : s.bus.engine <;> simp_all

/-- R174: a query's address byte is odd, a command's even. -/
theorem addressByteOf_direction (a : Nat) (query : Bool) :
    (addressByteOf a query).getLsbD 0 = query := by
  rw [addressByteOf, byteOf, BitVec.getLsbD_ofNat]
  cases query <;> simp [Nat.testBit_zero]

theorem accepts_own (station : StationRecord) (query : Bool) :
    accepts station (addressByteOf station.ownAddress query) = true := by
  cases query <;> simp [accepts]

theorem stateReply_eq (s : State) : stateReply s = [0x14, byteOf s.floor.state.code,
    (s.floor.holder.map fun (h : Holder) => byteOf h.member.val).getD 0xFF,
    if s.floor.state = FloorState.panelHeld then 1 else 0,
    if s.floor.state = FloorState.shut then 1 else 0] := by
  simp only [stateReply, stateKind, flagByte, beq_iff_eq]

/-- R150: the data of the reply, for a length up to 32. -/
theorem stateData_eq {length : Nat} (reply : List Byte) (h : length ≤ 32) :
    stateData length reply = (reply ++ List.replicate 32 0).take length := by
  rw [stateData, List.take_append, List.take_append, List.take_replicate, List.take_replicate]
  congr 2
  omega

/-- R150: a length above 32 is not acknowledged, and nothing is sent. -/
theorem replySent_long {s : State} {asked : ReplyAsked} (h : 32 < asked.length.toNat) :
    replySent asked s = [] := by
  unfold replySent
  exact if_pos h

/-- R143, R150: a reply that is acknowledged throughout ends with its check byte. -/
theorem replySent_whole {s : State} {length : Byte} {q : FollowedFrame} (h : length.toNat ≤ 32)
    (hq : queryFrame s = q) : replySent ⟨length, none⟩ s
      = (q.reply ++ List.replicate 32 0).take length.toNat
        ++ [checkByteOf (q.address :: length :: (q.reply ++ List.replicate 32 0).take length.toNat)] := by
  unfold replySent
  simp only [hq]
  rw [if_neg (Nat.not_lt.2 h), stateData_eq q.reply h]

/-- R150: a reply ends with the first byte that is left unacknowledged. -/
theorem replySent_refused {s : State} {length : Byte} {q : FollowedFrame} {i : Nat} (h : length.toNat ≤ 32)
    (hi : i < length.toNat) (hq : queryFrame s = q) : replySent ⟨length, some i⟩ s
      = ((q.reply ++ List.replicate 32 0).take length.toNat).take (i + 1) := by
  unfold replySent
  simp only [hq]
  rw [if_neg (Nat.not_lt.2 h), stateData_eq q.reply h, if_pos hi]

/-- R150, R181: the query that is answered. -/
theorem queryFrame_eq {s : State} {address : Byte} {formed : List Byte}
    (h : s.bus.followed = none ∧ address = addressByteOf s.station.ownAddress true ∧ formed = stateReply s
      ∨ s.bus.followed = some ⟨address, formed⟩ ∧ address.getLsbD 0 = true) :
    queryFrame s = ⟨address, formed⟩ := by
  unfold queryFrame
  rcases h with ⟨hf, rfl, rfl⟩ | ⟨hf, ha⟩
  · rw [hf, Option.filter_none, Option.getD_none, takeOn, if_pos (addressByteOf_direction _ true)]
  · rw [hf, Option.filter_some, if_pos ha, Option.getD_some]

/-- What answering a query leaves: the reply, and of the rest the engine alone. -/
theorem answerState_gives {s : State} (asked : ReplyAsked) (hr : Running s) :
    Gives (exec (.stateQuery asked) s) fun t =>
      t.bus.reply = replySent asked s ∧ ∀ p : Part, p ≠ .engine → Kept s t p := by
  have hd : EngineOnly s (answerState asked s) ∧ (answerState asked s).bus.reply = replySent asked s := by
    unfold answerState
    have h1 : EngineOnly s (s.withBus { s.bus with reply := replySent asked s }) :=
      (EngineOnly.refl s).withBus ⟨rfl, rfl, rfl⟩ rfl
    simp only
    split
    · exact ⟨h1.withBus ⟨rfl, rfl, rfl⟩ rfl, rfl⟩
    · exact ⟨h1, rfl⟩
  exact gives_act (f := answerState asked) rfl hr (by simp) (by simp)
    ⟨by simp only [closeAct_engine]; exact hd.2, hd.1.closeAct s⟩

/-- Settles O49: the reply is formed where the query's address byte is acknowledged, and answered from what
was formed. -/
theorem stateQueryReportsTheFloor : Obligations.StateQueryReportsTheFloor := by
  unfold Obligations.StateQueryReportsTheFloor
  intro s length address own formed data hr hown
  rw [← stateReply_eq] at hown
  refine ⟨fun he ho => ?_, fun hq hdata => ?_⟩
  · have hf : foreignOpening (.address (addressByteOf s.station.ownAddress true)) s
        = s.withBus { s.bus with
            engine := .following, attemptOpen := false
            hold := holdFor (addressByteOf s.station.ownAddress true) s
            followed := some (takeOn (addressByteOf s.station.ownAddress true) s)
            unfollowed := none, acked := 1, closed := false } := by
      simp only [foreignOpening, notDriving_of he ho, if_true, hear, Option.filter_some,
        accepts_own s.station true]
    have hd : EngineOnly s (foreignOpening (.address (addressByteOf s.station.ownAddress true)) s) := by
      rw [hf]
      exact (EngineOnly.refl s).withBus ⟨rfl, rfl, rfl⟩ rfl
    refine gives_act (f := foreignOpening _) rfl hr (by simp) (by simp) ⟨?_, hd.closeAct s⟩
    simp only [closeAct_engine, hf, withBus_bus, takeOn, addressByteOf_direction, if_true, hown]
  · rw [hown] at hq
    have hquery := queryFrame_eq hq
    refine ⟨fun hl => ⟨?_, fun i hi => ?_⟩, fun hl refused => ?_⟩
    · obtain ⟨t, ht, hrep, hkept⟩ := answerState_gives ⟨length, none⟩ hr
      rw [replySent_whole hl hquery] at hrep
      refine ⟨t, ht, ⟨_, ?_, add_checkByteOf address length data⟩, hkept⟩
      rw [hrep, hdata]
    · obtain ⟨t, ht, hrep, hkept⟩ := answerState_gives ⟨length, some i⟩ hr
      rw [replySent_refused hl hi hquery] at hrep
      exact ⟨t, ht, by rw [hrep, hdata], hkept⟩
    · obtain ⟨t, ht, hrep, hkept⟩ := answerState_gives ⟨length, refused⟩ hr
      rw [replySent_long hl] at hrep
      exact ⟨t, ht, hrep, hkept⟩

end Sys2Proof.Machine

/-! SUPPORT. What becomes of a pending notice as the floor goes on (R166): a notice stays pending until one of
its kind is raised for its seat. -/

namespace Sys2Proof.Machine

/-- Between two states no notice of a kind pending for a seat went. -/
def Silent (k : Nat) (x : SeatNo) (s t : State) : Prop :=
  ∀ n ∈ s.seats[x].notices, n.body.kind = k → n ∈ t.seats[x].notices

/-- What the floor says to a seat: on its way it tells everybody of its state, and of its queue, its grants and
its ends only those on the floor. -/
structure Spared (k : Nat) (x : SeatNo) (s : State) : Prop where
  notFloor : k ≠ 1
  notPanel : k ≠ 8
  off      : k = 2 ∨ k = 3 ∨ k = 4 → OffFloor x s

section

variable {k : Nat} {x : SeatNo} {s t u : State}

theorem Silent.refl (s : State) : Silent k x s s := fun _ h _ => h

theorem Silent.trans (h : Silent k x s t) (h' : Silent k x t u) : Silent k x s u :=
  fun n hn hk => h' n (h n hn hk) hk

theorem Silent.of_seats (h : t.seats = s.seats) : Silent k x s t := fun n hn _ => by rwa [h]

theorem Silent.after (h : Silent k x t u) (hs : t.seats = s.seats) : Silent k x s u := (of_seats hs).trans h

theorem raise_silent {seat : SeatNo} {body : NoticeBody} (h : x ≠ seat ∨ k ≠ body.kind) :
    Silent k x s (raise seat body s) := by
  intro n hn hk
  rw [raise_getElem]
  split
  · next e =>
    subst e
    exact Seat.mem_receive_of_mem hn (hk ▸ h.resolve_left (by simp))
  · exact hn

theorem raiseAll_silent {body : NoticeBody} (h : k ≠ body.kind) : Silent k x s (raiseAll body s) := by
  intro n hn hk
  rw [raiseAll_getElem]
  exact Seat.mem_receive_of_mem hn (hk ▸ h)

theorem setFloorState_silent (new : FloorState) (h : k ≠ 1) (h' : k ≠ 8) :
    Silent k x s (setFloorState new s) := by
  intro n hn hk
  rw [setFloorState_seats]
  have told {r : Seat} (hr : n ∈ r.notices) {o : Notice} (ho : k ≠ o.body.kind) : n ∈ (r.receive o).notices :=
    Seat.mem_receive_of_mem hr (hk ▸ ho)
  split
  · exact hn
  · split
    · simpa using told (told hn (o := ⟨.floor new (holderSeat s), s.stamp⟩) h)
        (o := ⟨.panel (new == .panelHeld) (new == .shut), s.stamp⟩) h'
    · simpa using told hn (o := ⟨.floor new (holderSeat s), s.stamp⟩) h

theorem modSeat_silent {f : Seat → Seat} (seat : SeatNo) (h : FiguresOnly f) :
    Silent k x s (modSeat seat f s) := by
  intro n hn _
  rw [modSeat_getElem]
  split
  · next e =>
    subst e
    obtain ⟨-, hf, -⟩ := h s.seats[x]
    rwa [hf]
  · exact hn

/-! ### The queue -/

theorem noticePositions_silent {p : Nat} {l : List Entry} (h : k = 2 → ∀ e ∈ l, e.seat ≠ x) :
    Silent k x s (noticePositions p l s) := by
  induction l generalizing p s with
  | nil => exact .refl s
  | cons e rest ih =>
    refine .trans (raise_silent ?_) (ih fun hk y hy => h hk y (List.mem_cons_of_mem _ hy))
    by_cases hk : k = 2
    · exact .inl (h hk e List.mem_cons_self).symm
    · exact .inr hk

theorem removeEntry_silent {seat : SeatNo} (h : k = 2 → seat ≠ x ∧ ∀ e ∈ s.queue, e.seat ≠ x) :
    Silent k x s (removeEntry seat s) := by
  unfold removeEntry
  simp only
  refine (Silent.trans (raise_silent ?_) (noticePositions_silent fun hk e he => ?_)).after rfl
  · by_cases hk : k = 2
    · exact .inl (h hk).1.symm
    · exact .inr hk
  · exact (h hk).2 e ((List.dropWhile_sublist _).subset (List.mem_of_mem_drop he))

theorem endEntry_silent {c : EndCause} {d : EndDetail} {e : Entry}
    (h : k = 2 ∨ k = 4 → e.seat ≠ x ∧ ∀ y ∈ s.queue, y.seat ≠ x) : Silent k x s (endEntry c d e s) := by
  refine .trans (raise_silent ?_) (removeEntry_silent fun hk => by simpa using h (.inl hk))
  by_cases hk : k = 4
  · exact .inl (h (.inr hk)).1.symm
  · exact .inr hk

/-! ### Serving the queue -/

theorem Spared.moves (h : Spared k x s) (hm : Moves s t) : Spared k x t :=
  ⟨h.notFloor, h.notPanel, fun hk => hm.keeps_offFloor (h.off hk)⟩

theorem Spared.seat_ne (h : Spared k x s) (hk : k = 2 ∨ k = 3 ∨ k = 4) {e : Entry} (he : e ∈ s.queue) :
    e.seat ≠ x := (h.off hk).queue e he

theorem Spared.endEntry {c : EndCause} {d : EndDetail} {e : Entry} (h : Spared k x s) (he : e ∈ s.queue) :
    Silent k x s (endEntry c d e s) :=
  endEntry_silent fun hk =>
    have hk' : k = 2 ∨ k = 3 ∨ k = 4 := hk.imp_right .inr
    ⟨h.seat_ne hk' he, fun _ hy => h.seat_ne hk' hy⟩

theorem Spared.state (h : Spared k x s) (new : FloorState) : Silent k x s (setFloorState new s) :=
  setFloorState_silent new h.notFloor h.notPanel

theorem Spared.enterIdent (h : Spared k x s) : Silent k x s (enterIdent s) := by
  unfold Machine.enterIdent
  simp only
  exact (Silent.of_seats (by split <;> rfl)).trans (setFloorState_silent _ h.notFloor h.notPanel)

theorem Spared.makeHolder {e : Entry} {g : Grant} (h : Spared k x s) (he : e ∈ s.queue) :
    Silent k x s (makeHolder e g s) := by
  unfold Machine.makeHolder
  refine .trans (.trans ?_ (raise_silent ?_)) (setFloorState_silent _ h.notFloor h.notPanel)
  · have hr : Silent k x s (removeEntry e.seat s) := removeEntry_silent fun hk =>
      ⟨h.seat_ne (.inl hk) he, fun _ hy => h.seat_ne (.inl hk) hy⟩
    exact ((hr.trans (.of_seats rfl)).trans (modSeat_silent e.seat figuresOnly_begin)).trans (.of_seats rfl)
  · by_cases hk : k = 3
    · exact .inl (h.seat_ne (.inr (.inl hk)) he).symm
    · exact .inr hk

theorem Spared.serveEntries {l : List Entry} (h : Spared k x s) (hq : s.queue = l) :
    Silent k x s (serveEntries l s) := by
  induction l generalizing s with
  | nil => exact h.state .idle
  | cons e rest ih =>
    have he : e ∈ s.queue := by simp [hq]
    unfold Machine.serveEntries
    split
    · exact (h.endEntry he).trans (ih (h.moves (endEntry_moves ..)) (endEntry_head_queue hq))
    · exact h.state .resting
    · exact h.makeHolder he

theorem Spared.serve (h : Spared k x s) : Silent k x s (serve s) := by
  unfold Machine.serve
  split
  · exact h.state .idle
  · split
    · exact h.enterIdent
    · exact h.serveEntries rfl

theorem Spared.of_same (h : Spared k x s) (hh : t.floor.holder = s.floor.holder)
    (hq : t.queue = s.queue) : Spared k x t :=
  ⟨h.notFloor, h.notPanel, fun hk => (h.off hk).of_eq hh hq⟩

theorem Spared.enterIdle (h : Spared k x s) : Silent k x s (enterIdle s) :=
  (h.state .idle).trans (Spared.serve (h.of_same (by simp) (by simp)))

/-! ### The end of a turn -/

theorem OffFloor.endTurnCore {c : EndCause} {d : EndDetail} (h : ∀ e ∈ s.queue, e.seat ≠ x) :
    OffFloor x (endTurnCore c d s) :=
  ⟨by simp [Floor.cleared], by simpa using h⟩

theorem Spared.endTurnCore_spared {c : EndCause} {d : EndDetail} (h : Spared k x s) :
    Spared k x (endTurnCore c d s) :=
  ⟨h.notFloor, h.notPanel, fun hk => .endTurnCore (h.off hk).queue⟩

theorem Spared.raiseEnd {c : EndCause} {d : EndDetail} (h : Spared k x s) :
    Silent k x s (raiseEnd c d s) := by
  unfold Machine.raiseEnd
  split
  · next y hy =>
    refine raise_silent ?_
    by_cases hk : k = 4
    · exact .inl ((h.off (.inr (.inr hk))).holder y hy).symm
    · exact .inr hk
  · exact .refl _

theorem Spared.endTurnCore {c : EndCause} {d : EndDetail} (h : Spared k x s) :
    Silent k x s (endTurnCore c d s) := by
  have hc : Spared k x (closeSetup c (unkey s)) := h.of_same (by simp) (by simp)
  have hs : Silent k x s (closeSetup c (unkey s)) := .of_seats (by simp)
  exact (hs.trans hc.raiseEnd).trans (.of_seats rfl)

theorem Spared.endTurn {c : EndCause} {d : EndDetail} (h : Spared k x s) : Silent k x s (endTurn c d s) :=
  h.endTurnCore.trans (Spared.enterIdle h.endTurnCore_spared)

end

/-! ### A TUNE's key request -/

/-- R131: the state in which the news of KEYED is given. -/
def keyedState (s : State) : State :=
  (s.withKeying { s.keying with state := .keyed, lead := none }).withPlayout
    { s.playout with u := 0, carriedKey := false, timer := some 20 }

theorem enterKeyed_tune {s : State} (ha : s.floor.state = .onAir) (ht : grantIsTune s = true) :
    enterKeyed s = startTuneTone (keyedState s) := by
  have ht' : grantIsTune (keyedState s) = true := ht
  have ha' : (keyedState s).floor.state = .onAir := ha
  rw [enterKeyed_eq]
  change keyedNews (keyedState s) = _
  rw [keyedNews, ha']
  simp only [ht', if_true]

/-- R136: an amplifier fault that a key request meets ends the turn. -/
theorem takeAmpFault_onAir {s : State} (ha : s.floor.state = .onAir) :
    takeAmpFault s = endTurn .equipment (.equipment .ampFault) (ampOutOfService (unkey s)) := by
  simp [takeAmpFault, equipmentReport, ha]

/-- R130, R131, R136: what a TUNE's key request comes to. -/
theorem keyRequest_tune {P : State → Prop} {s : State} (ha : s.floor.state = .onAir)
    (ht : grantIsTune s = true) (same : mayKey s = false → P s)
    (leads : mayKey s = true → ampFaultHolds (assertPtt s) = false →
      (assertPtt s).keying.state ≠ .keyed → P (assertPtt s))
    (keyed : mayKey s = true → ampFaultHolds (assertPtt s) = false →
      (assertPtt s).keying.state = .keyed → P (startTuneTone (keyedState (assertPtt s))))
    (fault : mayKey s = true → ampFaultHolds (assertPtt s) = true →
      P (endTurn .equipment (.equipment .ampFault) (ampOutOfService (unkey (assertPtt s))))) :
    P (keyRequest s) := by
  have ha' : (assertPtt s).floor.state = .onAir := by simpa using ha
  have ht' : grantIsTune (assertPtt s) = true := by simpa [grantIsTune] using ht
  unfold keyRequest
  split
  · next hm =>
    simp only
    split
    · next hf =>
      rw [takeAmpFault_onAir ha']
      exact fault hm hf
    · next hf =>
      have hf' : ampFaultHolds (assertPtt s) = false := by simpa using hf
      split
      · next hk =>
        rw [enterKeyed_tune ha' ht']
        exact keyed hm hf' hk
      · next hk => exact leads hm hf' hk
  · next hm => exact same (by simpa using hm)

/-! ### An empty setup -/

/-- R49, R70: an empty setup is complete: into GRANTED, or for TUNE ON_AIR with the key request. -/
theorem setUp_empty {before s : State} (h : emptySetup before s = true) :
    setUp s = setupComplete (placeSetup [] s) := by
  simp only [emptySetup, Bool.and_eq_true, nothingToPlace] at h
  obtain ⟨⟨-, hm⟩, hn⟩ := h
  cases hg : s.floor.grant with
  | none => simp [hg] at hn
  | some g =>
    have he : setupMessages s.station s.bus.believed g = [] := by simpa [hg] using hn
    simp [setUp, hg, hm, he]

theorem emptySetup_state {before s : State} (h : emptySetup before s = true) :
    s.floor.state = .setting ∧ s.floor.grant.isSome = true := by
  simp only [emptySetup, Bool.and_eq_true, enteredSetting, nothingToPlace, beq_iff_eq] at h
  obtain ⟨⟨⟨hs, -⟩, -⟩, hg⟩ := h
  refine ⟨hs, ?_⟩
  cases hx : s.floor.grant with
  | none => simp [hx] at hg
  | some g => rfl

/-- What holds of a state with an empty setup holds behind it, when each such completion keeps it. -/
theorem finishSetup_empty {P : State → Prop} {before s : State} (hs : P s)
    (keep : ∀ t, emptySetup before t = true → P t → P (setUp t)) : P (finishSetup before s) := by
  unfold finishSetup
  generalize s.queue.length + 1 = n
  induction n generalizing s with
  | zero => exact hs
  | succ n ih =>
    unfold finishSetups
    split
    · next h => exact ih (keep s h hs)
    · exact hs

/-- R51, R130: ON_AIR is entered: the timers stop, then the key request is made. -/
def onAirState (s : State) : State :=
  setFloorState .onAir (s.withFloor { s.floor with startWait := none, rejoin := none })

theorem enterOnAir_eq (s : State) : enterOnAir s = keyRequest (onAirState s) := rfl

@[simp] theorem onAirState_floor (s : State) : (onAirState s).floor
    = { s.floor with state := .onAir, startWait := none, rejoin := none } := by
  simp [onAirState]

theorem Spared.setUp {k : Nat} {x : SeatNo} {before s : State} (h : Spared k x s)
    (he : emptySetup before s = true) : Silent k x s (setUp s) := by
  have hp : Spared k x (placeSetup [] s) := h.of_same (by simp [placeSetup]) (by simp)
  rw [setUp_empty he]
  refine .trans (.of_seats (by simp)) (t := placeSetup [] s) ?_
  unfold setupComplete
  split
  · next ht =>
    have ho : Silent k x (placeSetup [] s) (onAirState (placeSetup [] s)) := by
      unfold onAirState
      exact (setFloorState_silent _ h.notFloor h.notPanel).after rfl
    have hs : Spared k x (onAirState (placeSetup [] s)) := hp.of_same (by simp) (by simp [onAirState])
    have ht' : grantIsTune (onAirState (placeSetup [] s)) = true := by simpa [grantIsTune] using ht
    rw [enterOnAir_eq]
    refine ho.trans (keyRequest_tune (by simp) ht' (fun _ => .refl _) (fun _ _ _ => .of_seats (by simp))
      (fun _ _ _ => .of_seats (by simp [keyedState])) fun _ _ => ?_)
    have hs' : Spared k x (ampOutOfService (unkey (assertPtt (onAirState (placeSetup [] s))))) :=
      hs.of_same (by simp [ampOutOfService]) (by simp [ampOutOfService])
    exact (Silent.of_seats (by simp [ampOutOfService])).trans hs'.endTurn
  · unfold enterGranted
    exact (setFloorState_silent _ h.notFloor h.notPanel).after rfl

/-- A pending notice of a kind that the floor does not raise for its seat stays pending while empty setups are
completed. -/
theorem Spared.finishSetup {k : Nat} {x : SeatNo} {before s : State} (h : Spared k x s) :
    Silent k x s (finishSetup before s) :=
  (finishSetup_empty (P := fun t => Silent k x s t ∧ Spared k x t) ⟨.refl s, h⟩ fun t he ht =>
    ⟨ht.1.trans (ht.2.setUp he), ht.2.moves (setUp_moves t)⟩).1

/-- R166, R167: what is told before the empty setups are completed is told by the act. -/
theorem Spared.noticed {s d : State} {x : SeatNo} {body : NoticeBody} (h : Spared body.kind x d)
    (hn : (⟨body, s.stamp⟩ : Notice) ∈ d.seats[x].notices)
    (hp : partHeld d (.report x) = partHeld s (.report x)) :
    Noticed s (closeAct s (Machine.finishSetup s d)) x body :=
  closeAct_noticed (h.finishSetup _ hn rfl) (by simpa [partHeld] using hp)

end Sys2Proof.Machine

/-! SUPPORT. How the floor stands behind a turn's end, and as it goes on (R59, R61, R70). -/

namespace Sys2Proof.Machine

/-- R59: behind a turn's end the station is unkeyed, the turn's timers are stopped, and no setup item is on the
work list. -/
structure TurnClear (t : State) : Prop where
  unkeyed : t.keying.state = .unkeyed
  hang    : t.floor.hang = none
  rejoin  : t.floor.rejoin = none
  waits   : t.floor.startWait = none
  setup   : ∀ x ∈ t.bus.floorWork, x.owner ≠ .setup
  granted : t.floor.grant.isSome = t.floor.holder.isSome

/-- R59, R70: the same of an act that has gone on to the next turn: a TUNE may be keyed already, and a turn in
GRANTED waits for its audio. -/
structure TurnGone (t : State) : Prop where
  unkeyed : t.keying.state = .unkeyed ∨ NextOnAir t
  hang    : t.floor.hang = none
  rejoin  : t.floor.rejoin = none
  waits   : t.floor.startWait = none ∨ t.floor.state = .granted
  setup   : ∀ x ∈ t.bus.floorWork, x.owner ≠ .setup
  granted : t.floor.grant.isSome = t.floor.holder.isSome

section

variable {s : State}

theorem TurnClear.gone (h : TurnClear s) : TurnGone s :=
  ⟨.inl h.unkeyed, h.hang, h.rejoin, .inl h.waits, h.setup, h.granted⟩

theorem TurnGone.clear (h : TurnGone s) (hs : s.floor.state = .setting) : TurnClear s :=
  ⟨h.unkeyed.resolve_right fun e => by simp [NextOnAir, hs] at e, h.hang, h.rejoin,
    h.waits.resolve_right (by simp [hs]), h.setup, h.granted⟩

/-! ### The end itself -/

/-- R59: the work list without the setup items that wait. -/
def setupDropped (s : State) : State :=
  s.withBus { s.bus with floorWork := s.bus.floorWork.filter (fun t => t.owner != .setup) }

/-- R59, R61: the waiting items go, and a STANDBY is placed where one is called for. -/
theorem closeSetup_eq (c : EndCause) (s : State) : closeSetup c s
    = if standbyCalled c (setupDropped s) then placeFloorTxn .standby .standby (cancelSetup s)
      else cancelSetup s := rfl

theorem closeSetup_noSetup (c : EndCause) (s : State) :
    ∀ x ∈ (closeSetup c s).bus.floorWork, x.owner ≠ .setup := by
  intro x hx
  have hmem : x ∈ s.bus.floorWork.filter (fun t => t.owner != .setup) ∨ x = newTxn .standby .standby := by
    rw [closeSetup_eq] at hx
    split at hx
    · exact (List.mem_append.1 hx).imp_right List.mem_singleton.1
    · exact .inl hx
  rcases hmem with hm | rfl
  · simpa using (List.mem_filter.1 hm).2
  · simp [newTxn]

theorem endTurnCore_bus (c : EndCause) (d : EndDetail) (s : State) :
    (endTurnCore c d s).bus = (closeSetup c (unkey s)).bus := by
  simp [endTurnCore]

theorem endTurnCore_clear (c : EndCause) (d : EndDetail) (s : State) : TurnClear (endTurnCore c d s) where
  unkeyed := endTurnCore_unkeyed c d s
  hang := by simp [Floor.cleared]
  rejoin := by simp [Floor.cleared]
  waits := by simp [Floor.cleared]
  setup := by
    rw [endTurnCore_bus]
    exact closeSetup_noSetup c _
  granted := by simp [Floor.cleared]

/-- The items that a turn's end takes off the list are none of the STANDBY that R61 or R64 has placed. -/
theorem standbyOutstanding_cancelSetup (h : standbyOutstanding (setupDropped s) = true) :
    standbyOutstanding (cancelSetup s) = true := by
  simp only [standbyOutstanding, setupDropped, cancelSetup, withBus_bus, Bool.or_eq_true] at h ⊢
  refine h.imp_right fun hi => ?_
  cases hx : s.bus.inFlight with
  | none => simp [hx] at hi
  | some x =>
    simp only [hx, Option.any_some, Option.map_some] at hi ⊢
    split <;> exact hi

theorem standbyOutstanding_placed (s : State) : standbyOutstanding (placeFloorTxn .standby .standby s) = true := by
  simp [standbyOutstanding, placeFloorTxn, newTxn]

/-- R61: a STANDBY that is on the work list stays there when no item of a turn stands there. -/
theorem closeSetup_standby (c : EndCause) (hs : ∀ x ∈ s.bus.floorWork, x.owner ≠ .setup)
    (h : standbyOutstanding s = true) : standbyOutstanding (closeSetup c s) = true := by
  have hd : setupDropped s = s := by
    have hf : s.bus.floorWork.filter (fun t => t.owner != .setup) = s.bus.floorWork :=
      List.filter_eq_self.2 fun x hx => by simpa using hs x hx
    rw [setupDropped, hf]
    rfl
  rw [closeSetup_eq]
  split
  · exact standbyOutstanding_placed _
  · exact standbyOutstanding_cancelSetup (by rwa [hd])

/-- R61: behind a turn's end a STANDBY is outstanding for an amplifier that is believed OPERATE. -/
theorem closeSetup_placesStandby {c : EndCause} (hc : c ≠ .panelHeld) (hc' : c ≠ .shut)
    (hp : s.station.ampPresent = true) (ha : s.bus.believed.amp = some .operate) :
    standbyOutstanding (closeSetup c s) = true := by
  rw [closeSetup_eq]
  split
  · exact standbyOutstanding_placed _
  · next hn =>
    refine standbyOutstanding_cancelSetup ?_
    by_contra hw
    refine hn ?_
    simp only [standbyCalled, Bool.and_eq_true, bne_iff_ne, ne_eq, Bool.not_eq_true', Bool.or_eq_true,
      beq_iff_eq]
    exact ⟨⟨⟨hc, hc'⟩, by simpa using hw⟩, .inl ⟨hp, ha⟩⟩

/-! ### Serving the queue -/

theorem TurnClear.of_eq {t : State} (h : TurnClear s) (hf : t.floor = s.floor)
    (hk : t.keying.state = s.keying.state) (hb : t.bus.floorWork = s.bus.floorWork) : TurnClear t :=
  ⟨by rw [hk]; exact h.unkeyed, by rw [hf]; exact h.hang, by rw [hf]; exact h.rejoin,
    by rw [hf]; exact h.waits, by rw [hb]; exact h.setup, by rw [hf]; exact h.granted⟩

theorem TurnGone.of_eq {t : State} (h : TurnGone s) (hf : t.floor = s.floor)
    (hk : t.keying.state = s.keying.state) (hb : t.bus.floorWork = s.bus.floorWork) : TurnGone t :=
  ⟨by rw [hk, NextOnAir, grantIsTune, hf]; exact h.unkeyed, by rw [hf]; exact h.hang,
    by rw [hf]; exact h.rejoin, by rw [hf]; exact h.waits, by rw [hb]; exact h.setup,
    by rw [hf]; exact h.granted⟩

theorem TurnClear.state (h : TurnClear s) (new : FloorState) : TurnClear (setFloorState new s) :=
  ⟨by simpa using h.unkeyed, by simpa using h.hang, by simpa using h.rejoin, by simpa using h.waits,
    by simpa using h.setup, by simpa using h.granted⟩

theorem placeFloorTxn_noSetup {o : Owner} {m : Message} (hs : ∀ x ∈ s.bus.floorWork, x.owner ≠ .setup)
    (ho : o ≠ .setup) : ∀ x ∈ (placeFloorTxn o m s).bus.floorWork, x.owner ≠ .setup := by
  intro x hx
  rcases List.mem_append.1 hx with hx | hx
  · exact hs x hx
  · rw [List.mem_singleton.1 hx]
    exact ho

/-- R64: what IDENT's entry does before the state changes. -/
def identReady (s : State) : State :=
  let s := s.withFloor { s.floor with identAsked := false }
  if s.station.ampPresent && !standbyOutstanding s
      && (s.bus.believed.amp != some .standby
          || s.bus.inFlight.any (fun t => t.message == .operate)) then
    placeFloorTxn .standby .standby s
  else s

theorem enterIdent_ready (s : State) : enterIdent s = setFloorState .ident (identReady s) := rfl

theorem identReady_floor (s : State) : (identReady s).floor = { s.floor with identAsked := false } := by
  unfold identReady
  simp only
  split <;> rfl

theorem TurnClear.identReady (h : TurnClear s) : TurnClear (identReady s) := by
  have hf : TurnClear (s.withFloor { s.floor with identAsked := false }) :=
    ⟨h.unkeyed, h.hang, h.rejoin, h.waits, h.setup, h.granted⟩
  unfold Machine.identReady
  simp only
  split
  · exact ⟨hf.unkeyed, hf.hang, hf.rejoin, hf.waits, placeFloorTxn_noSetup hf.setup (by simp), hf.granted⟩
  · exact hf

theorem TurnClear.enterIdent (h : TurnClear s) : TurnClear (enterIdent s) := h.identReady.state .ident

theorem makeHolder_floor (e : Entry) (g : Grant) (s : State) :
    (makeHolder e g s).floor = { s.floor.begun e g with state := .setting } := by
  simp [makeHolder, Floor.begun]

theorem TurnClear.makeHolder (h : TurnClear s) (e : Entry) (g : Grant) : TurnClear (makeHolder e g s) where
  unkeyed := by simpa using h.unkeyed
  hang := by simpa [makeHolder_floor, Floor.begun] using h.hang
  rejoin := by simpa [makeHolder_floor, Floor.begun] using h.rejoin
  waits := by simpa [makeHolder_floor, Floor.begun] using h.waits
  setup := by simpa using h.setup
  granted := by simp [makeHolder_floor, Floor.begun]

theorem TurnClear.serveEntries (h : TurnClear s) (l : List Entry) : TurnClear (serveEntries l s) := by
  induction l generalizing s with
  | nil => exact h.state .idle
  | cons e rest ih =>
    unfold Machine.serveEntries
    split
    · exact ih (h.of_eq (by simp) (by simp) (by simp))
    · exact h.state .resting
    · exact h.makeHolder ..

theorem TurnClear.serve (h : TurnClear s) : TurnClear (serve s) := by
  unfold Machine.serve
  split
  · exact h.state .idle
  · split
    · exact h.enterIdent
    · exact h.serveEntries _

theorem TurnClear.enterIdle (h : TurnClear s) : TurnClear (enterIdle s) := (h.state .idle).serve

theorem endTurn_clear (c : EndCause) (d : EndDetail) (s : State) : TurnClear (endTurn c d s) :=
  (endTurnCore_clear c d s).enterIdle

/-! ### STANDBY -/

theorem standbyOutstanding_of_bus {t : State} (h : standbyOutstanding s = true)
    (hf : t.bus.floorWork = s.bus.floorWork) (hi : t.bus.inFlight = s.bus.inFlight) :
    standbyOutstanding t = true := by
  rw [standbyOutstanding, hf, hi]
  exact h

theorem enterIdent_standby (h : standbyOutstanding s = true) : standbyOutstanding (enterIdent s) = true := by
  have hr : standbyOutstanding (identReady s) = true := by
    unfold identReady
    simp only
    split
    · exact standbyOutstanding_placed _
    · exact h
  exact standbyOutstanding_of_bus hr (by simp [enterIdent_ready]) (by simp [enterIdent_ready])

theorem serveEntries_standby {l : List Entry} (h : standbyOutstanding s = true) :
    standbyOutstanding (serveEntries l s) = true :=
  standbyOutstanding_of_bus h (by simp) (by simp)

theorem serve_standby (h : standbyOutstanding s = true) : standbyOutstanding (serve s) = true := by
  unfold serve
  split
  · exact standbyOutstanding_of_bus h (by simp) (by simp)
  · split
    · exact enterIdent_standby h
    · exact serveEntries_standby h

theorem enterIdle_standby (h : standbyOutstanding s = true) : standbyOutstanding (enterIdle s) = true :=
  serve_standby (standbyOutstanding_of_bus h (by simp) (by simp))

theorem endTurnCore_standby {c : EndCause} {d : EndDetail} (hs : ∀ x ∈ s.bus.floorWork, x.owner ≠ .setup)
    (h : standbyOutstanding s = true) : standbyOutstanding (endTurnCore c d s) = true := by
  have hb : (unkey s).bus.floorWork = s.bus.floorWork ∧ (unkey s).bus.inFlight = s.bus.inFlight := by
    unfold unkey
    split <;> simp [withdrawPoll, quietSender]
  refine standbyOutstanding_of_bus (closeSetup_standby c (s := unkey s) ?_ ?_) ?_ ?_
  · rw [hb.1]; exact hs
  · exact standbyOutstanding_of_bus h hb.1 hb.2
  · rw [endTurnCore_bus]
  · rw [endTurnCore_bus]

theorem unkey_believed (s : State) : (unkey s).bus.believed = s.bus.believed := by
  unfold unkey
  split <;> simp [withdrawPoll, quietSender]

theorem endTurnCore_placesStandby {c : EndCause} {d : EndDetail} (hc : c ≠ .panelHeld) (hc' : c ≠ .shut)
    (hp : s.station.ampPresent = true) (ha : s.bus.believed.amp = some .operate) :
    standbyOutstanding (endTurnCore c d s) = true := by
  refine standbyOutstanding_of_bus (closeSetup_placesStandby (s := unkey s) hc hc' ?_ ?_) ?_ ?_
  · simpa using hp
  · rw [unkey_believed]; exact ha
  · rw [endTurnCore_bus]
  · rw [endTurnCore_bus]

end

/-! ### An empty setup -/

theorem grantIsTune_of_floor {s t : State} (h : t.floor.grant = s.floor.grant) : grantIsTune t = grantIsTune s := by
  rw [grantIsTune, grantIsTune, h]

@[simp] theorem placeSetup_nil_bus (s : State) : (placeSetup [] s).bus = s.bus := by
  simp [placeSetup]

@[simp] theorem placeSetup_floor (items : List Message) (s : State) :
    (placeSetup items s).floor = { s.floor with setupPlaced := true } := by
  simp [placeSetup]

@[simp] theorem onAirState_frame (s : State) : (onAirState s).queue = s.queue ∧ (onAirState s).bus = s.bus
    ∧ (onAirState s).keying = s.keying ∧ (onAirState s).pins = s.pins ∧ (onAirState s).mode = s.mode
    ∧ (onAirState s).station = s.station ∧ (onAirState s).ident = s.ident ∧ (onAirState s).stamp = s.stamp := by
  simp [onAirState]

/-- A TUNE on the air. -/
theorem nextOnAir_of {s : State} (ha : s.floor.state = .onAir) (ht : grantIsTune s = true)
    (hg : s.floor.grant.isSome = s.floor.holder.isSome) : NextOnAir s := by
  refine ⟨ha, ?_, ht⟩
  rw [← hg]
  cases hx : s.floor.grant with
  | none => simp [grantIsTune, hx] at ht
  | some g => rfl

/-- R49, R70: an empty setup that is complete goes on from a turn's end; it keeps an outstanding STANDBY. -/
theorem TurnGone.setUp {before s : State} (h : TurnGone s) (he : emptySetup before s = true) :
    TurnGone (setUp s) ∧ (standbyOutstanding s = true → standbyOutstanding (setUp s) = true) := by
  have hc : TurnClear s := h.clear (emptySetup_state he).1
  rw [setUp_empty he]
  unfold setupComplete
  split
  · next ht =>
    have ht' : grantIsTune (onAirState (placeSetup [] s)) = true :=
      (grantIsTune_of_floor (by simp)).trans ht
    have hgone {t : State} (hf : t.floor = (onAirState (placeSetup [] s)).floor) (hb : t.bus = s.bus) :
        TurnGone t :=
      ⟨.inr (nextOnAir_of (by simp [hf]) ((grantIsTune_of_floor (by rw [hf])).trans ht')
          (by simpa [hf] using hc.granted)), by simpa [hf] using hc.hang, by simp [hf], .inl (by simp [hf]),
        by rw [hb]; exact hc.setup, by simpa [hf] using hc.granted⟩
    have hstand {t : State} (hb : t.bus = s.bus) (hs : standbyOutstanding s = true) :
        standbyOutstanding t = true := standbyOutstanding_of_bus hs (by rw [hb]) (by rw [hb])
    rw [enterOnAir_eq]
    refine keyRequest_tune (P := fun t => TurnGone t ∧ (_ → standbyOutstanding t = true)) (by simp) ht'
      (fun _ => ⟨hgone rfl (by simp), hstand (by simp)⟩)
      (fun _ _ _ => ⟨hgone (by simp) (by simp), hstand (by simp)⟩)
      (fun _ _ _ => ⟨hgone (by simp [keyedState]) (by simp [keyedState]), hstand (by simp [keyedState])⟩)
      fun _ _ => ⟨(endTurn_clear ..).gone, fun hs => ?_⟩
    have hb : (ampOutOfService (unkey (assertPtt (onAirState (placeSetup [] s))))).bus.floorWork
          = s.bus.floorWork
        ∧ (ampOutOfService (unkey (assertPtt (onAirState (placeSetup [] s))))).bus.inFlight
          = s.bus.inFlight := by
      unfold unkey
      split <;> simp [withdrawPoll, quietSender, ampOutOfService]
    exact enterIdle_standby (endTurnCore_standby (by rw [hb.1]; exact hc.setup)
      (standbyOutstanding_of_bus hs hb.1 hb.2))
  · refine ⟨⟨.inl ?_, ?_, ?_, .inr ?_, ?_, ?_⟩, fun hs => standbyOutstanding_of_bus hs ?_ ?_⟩
    · simpa using hc.unkeyed
    · simpa [enterGranted] using hc.hang
    · simpa [enterGranted] using hc.rejoin
    · simp [enterGranted]
    · simpa using hc.setup
    · simpa [enterGranted] using hc.granted
    · simp
    · simp

theorem TurnGone.finishSetup {before s : State} (h : TurnGone s) :
    TurnGone (finishSetup before s)
      ∧ (standbyOutstanding s = true → standbyOutstanding (Machine.finishSetup before s) = true) := by
  refine finishSetup_empty (P := fun t => TurnGone t ∧ (_ → standbyOutstanding t = true)) ⟨h, id⟩ ?_
  intro t he ht
  obtain ⟨hg, hs⟩ := ht.1.setUp he
  exact ⟨hg, fun x => hs (ht.2 x)⟩

/-! ### The holder's turn is over -/

/-- R59, R61: the turn of a seat has ended, and the floor has gone on within the act. -/
structure TurnDone (s t : State) (x : SeatNo) (cause : EndCause) : Prop where
  gone    : TurnGone t
  off     : OffFloor x t
  standby : cause ≠ .panelHeld → cause ≠ .shut → s.station.ampPresent = true →
    s.bus.believed.amp = some .operate → standbyOutstanding t = true

theorem TurnDone.finishSetup {s t : State} {x : SeatNo} {cause : EndCause} (h : TurnDone s t x cause)
    (before : State) : TurnDone s (finishSetup before t) x cause :=
  ⟨h.gone.finishSetup.1, (finishSetup_moves before t).keeps_offFloor h.off,
    fun hc hc' hp ha => h.gone.finishSetup.2 (h.standby hc hc' hp ha)⟩

theorem TurnDone.of_eq {s t u : State} {x : SeatNo} {cause : EndCause} (h : TurnDone s t x cause)
    (hf : u.floor = t.floor) (hk : u.keying.state = t.keying.state) (hw : u.bus.floorWork = t.bus.floorWork)
    (hi : u.bus.inFlight = t.bus.inFlight) (hq : u.queue = t.queue) : TurnDone s u x cause :=
  ⟨h.gone.of_eq hf hk hw, h.off.of_eq (by rw [hf]) hq,
    fun hc hc' hp ha => standbyOutstanding_of_bus (h.standby hc hc' hp ha) hw hi⟩

theorem TurnDone.closed {s t : State} {h : Holder} {cause : EndCause} (hd : TurnDone s t h.seat cause)
    (before : State) : TurnClosed s (closeAct before t) h cause := by
  obtain ⟨hi, hw, -⟩ := closeAct_work before t
  have ht : TurnDone s (closeAct before t) h.seat cause :=
    hd.of_eq (by simp) (by simp) hw hi (by simp)
  exact ⟨ht.gone.unkeyed, ht.off.holder, ⟨ht.gone.hang, ht.gone.rejoin, ht.gone.waits⟩, ht.gone.setup,
    ht.standby⟩

/-- R60: the END notice of a turn that ends. -/
theorem raiseEnd_mem {u : State} {h : Holder} (cause : EndCause) (detail : EndDetail)
    (hh : u.floor.holder = some h) (ha : u.seats[h.seat].attachment.isSome = true) :
    (⟨.ended cause detail true h.member u.floor.keyedMs, u.stamp⟩ : Notice)
      ∈ (raiseEnd cause detail u).seats[h.seat].notices := by
  rw [raiseEnd, hh]
  exact raise_mem _ ha

theorem endTurnCore_mem {u : State} {h : Holder} (cause : EndCause) (detail : EndDetail)
    (hh : u.floor.holder = some h) (ha : u.seats[h.seat].attachment.isSome = true) :
    (⟨.ended cause detail true h.member u.floor.keyedMs, u.stamp⟩ : Notice)
      ∈ (endTurnCore cause detail u).seats[h.seat].notices := by
  have hm := raiseEnd_mem (u := closeSetup cause (unkey u)) cause detail (by simpa using hh)
    (by simpa using ha)
  simpa [endTurnCore] using hm

/-- R59 to R61: the turn of a holder has ended, and its seat has been told, before the empty setups are completed
and the act is closed. -/
structure TurnTold (s d : State) (h : Holder) (cause : EndCause) (detail : EndDetail) : Prop where
  done   : TurnDone s d h.seat cause
  notice : (⟨.ended cause detail true h.member s.floor.keyedMs, s.stamp⟩ : Notice) ∈ d.seats[h.seat].notices
  held   : partHeld d (.report h.seat) = partHeld s (.report h.seat)

theorem TurnTold.ended {s d : State} {h : Holder} {cause : EndCause} {detail : EndDetail}
    (hd : TurnTold s d h cause detail) :
    TurnEnded s (closeAct s (Machine.finishSetup s d)) h cause detail :=
  { (hd.done.finishSetup s).closed s with
    notice := Spared.noticed ⟨by simp [NoticeBody.kind], by simp [NoticeBody.kind], fun _ => hd.done.off⟩
      hd.notice hd.held }

/-- R45: with nobody waiting and nothing pending the floor stands IDLE behind a turn's end. -/
structure StoodIdle (s d : State) : Prop where
  idle : s.queue = [] → s.ident.pending = false → d.floor.state = .idle ∧ d.floor.holder = none
    ∧ d.floor.grant = none ∧ d.floor.turnCount = 0 ∧ d.floor.keyedMs = 0

theorem TurnTold.endedToIdle {s d : State} {h : Holder} {cause : EndCause} {detail : EndDetail}
    (hd : TurnTold s d h cause detail) (hi : StoodIdle s d) :
    EndedToIdle s (closeAct s (Machine.finishSetup s d)) h cause detail :=
  { hd.ended with
    idle := fun e e' => by
      have hf := hi.idle e e'
      have ht : (closeAct s (Machine.finishSetup s d)).floor = d.floor := by
        rw [finishSetup_notSetting (by simp [hf.1])]
        simp
      rwa [ht] }

/-- What a turn's end leaves is not told by the engine, the figures or the answers. -/
theorem TurnTold.of_eq {s d u : State} {h : Holder} {cause : EndCause} {detail : EndDetail}
    (hd : TurnTold s d h cause detail) (hf : u.floor = d.floor) (hk : u.keying.state = d.keying.state)
    (hw : u.bus.floorWork = d.bus.floorWork) (hi : u.bus.inFlight = d.bus.inFlight) (hq : u.queue = d.queue)
    (hn : u.seats[h.seat].notices = d.seats[h.seat].notices)
    (hp : partHeld u (.report h.seat) = partHeld d (.report h.seat)) : TurnTold s u h cause detail :=
  ⟨hd.done.of_eq hf hk hw hi hq, by rw [hn]; exact hd.notice, hp.trans hd.held⟩

theorem StoodIdle.of_eq {s d u : State} (hd : StoodIdle s d) (hf : u.floor = d.floor) : StoodIdle s u :=
  ⟨by rw [hf]; exact hd.idle⟩

/-! ### What the floor does behind a turn's end -/

/-- A piece of what the floor does within an act that goes on from a turn's end. -/
structure Onward (s t : State) : Prop where
  off     : ∀ x, OffFloor x s → OffFloor x t
  clear   : TurnClear s → TurnClear t
  standby : standbyOutstanding s = true → standbyOutstanding t = true
  silent  : ∀ k x, Spared k x s → Silent k x s t
  ram     : t.ram = s.ram

section

variable {s t u : State}

theorem Onward.spared {k : Nat} {x : SeatNo} (h : Onward s t) (hs : Spared k x s) : Spared k x t :=
  ⟨hs.notFloor, hs.notPanel, fun hk => h.off x (hs.off hk)⟩

theorem Onward.refl (s : State) : Onward s s := ⟨fun _ => id, id, id, fun _ _ _ => .refl s, rfl⟩

theorem Onward.trans (h : Onward s t) (h' : Onward t u) : Onward s u :=
  ⟨fun x hx => h'.off x (h.off x hx), fun hc => h'.clear (h.clear hc), fun hs => h'.standby (h.standby hs),
    fun k x hs => (h.silent k x hs).trans (h'.silent k x (h.spared hs)), h'.ram.trans h.ram⟩

/-- A change of what a turn's end does not tell. -/
theorem Onward.of_eq (hf : t.floor = s.floor) (hq : t.queue = s.queue) (hk : t.keying.state = s.keying.state)
    (hw : t.bus.floorWork = s.bus.floorWork) (hi : t.bus.inFlight = s.bus.inFlight)
    (hn : ∀ x : SeatNo, t.seats[x].notices = s.seats[x].notices) (hr : t.ram = s.ram) : Onward s t :=
  ⟨fun _ hx => hx.of_eq (by rw [hf]) hq, fun hc => hc.of_eq hf hk hw,
    fun hs => standbyOutstanding_of_bus hs hw hi, fun _ x _ n hn' _ => by rwa [hn x], hr⟩

theorem setFloorState_onward (new : FloorState) (s : State) : Onward s (setFloorState new s) :=
  ⟨fun _ hx => hx.of_eq (by simp) (by simp), fun hc => hc.state new,
    fun hs => standbyOutstanding_of_bus hs (by simp) (by simp), fun _ _ hs => hs.state new, by simp⟩

theorem enterIdent_onward (s : State) : Onward s (enterIdent s) :=
  ⟨fun _ hx => hx.of_eq (by simp [enterIdent_ready, identReady_floor]) (by simp), fun hc => hc.enterIdent,
    enterIdent_standby, fun _ _ hs => hs.enterIdent, by simp⟩

theorem serve_onward (h : s.floor.state = .idle ∨ s.floor.state = .resting) : Onward s (serve s) :=
  ⟨fun _ hx => (serve_moves h).keeps_offFloor hx, fun hc => hc.serve, serve_standby,
    fun _ _ hs => hs.serve, by simp⟩

theorem enterIdle_onward (s : State) : Onward s (enterIdle s) :=
  (setFloorState_onward .idle s).trans (serve_onward (.inl (by simp)))

theorem endEntry_onward {e : Entry} (c : EndCause) (d : EndDetail) (he : e ∈ s.queue) :
    Onward s (endEntry c d e s) :=
  ⟨fun _ hx => (endEntry_moves c d e s).keeps_offFloor hx,
    fun hc => hc.of_eq (by simp) (by simp) (by simp),
    fun hs => standbyOutstanding_of_bus hs (by simp) (by simp), fun _ _ hs => hs.endEntry he, by simp⟩

theorem endEntries_onward (c : EndCause) {l : List Entry} (hq : s.queue = l) : Onward s (endEntries c l s) := by
  induction l generalizing s with
  | nil => exact .refl s
  | cons e rest ih =>
    exact (endEntry_onward c .none (by simp [hq])).trans (ih (endEntry_head_queue hq))

theorem closeWindow_onward (s : State) : Onward s (closeWindow s) :=
  .of_eq rfl rfl rfl rfl rfl (fun _ => rfl) rfl

end

/-- R59, R61: the turn of a seat has ended in this act. -/
structure TurnLeft (s d : State) (x : SeatNo) (cause : EndCause) : Prop where
  clear   : TurnClear d
  off     : OffFloor x d
  standby : cause ≠ .panelHeld → cause ≠ .shut → s.station.ampPresent = true →
    s.bus.believed.amp = some .operate → standbyOutstanding d = true

/-- R60: and its seat has been told. -/
structure TurnOut (s d : State) (h : Holder) (cause : EndCause) (detail : EndDetail) : Prop
    extends TurnLeft s d h.seat cause where
  notice : (⟨.ended cause detail true h.member s.floor.keyedMs, s.stamp⟩ : Notice) ∈ d.seats[h.seat].notices
  held   : partHeld d (.report h.seat) = partHeld s (.report h.seat)

theorem TurnLeft.done {s d : State} {x : SeatNo} {cause : EndCause} (h : TurnLeft s d x cause) :
    TurnDone s d x cause := ⟨h.clear.gone, h.off, h.standby⟩

theorem TurnOut.told {s d : State} {h : Holder} {cause : EndCause} {detail : EndDetail}
    (ho : TurnOut s d h cause detail) : TurnTold s d h cause detail :=
  ⟨ho.toTurnLeft.done, ho.notice, ho.held⟩

theorem TurnLeft.onward {s d t : State} {x : SeatNo} {cause : EndCause} (h : TurnLeft s d x cause)
    (ho : Onward d t) : TurnLeft s t x cause :=
  ⟨ho.clear h.clear, ho.off x h.off, fun hc hc' hp ha => ho.standby (h.standby hc hc' hp ha)⟩

theorem TurnOut.onward {s d t : State} {h : Holder} {cause : EndCause} {detail : EndDetail}
    (hd : TurnOut s d h cause detail) (ho : Onward d t) : TurnOut s t h cause detail :=
  { hd.toTurnLeft.onward ho with
    notice := ho.silent 4 h.seat ⟨by simp, by simp, fun _ => hd.off⟩ _ hd.notice rfl
    held := by simpa [partHeld, ho.ram] using hd.held }

/-! ### What an act ends -/

/-- A state within an act, up to which the turn at the act's opening has only been brought to its end. -/
structure TurnYet (s u : State) (h : Holder) : Prop where
  holder   : u.floor.holder = some h
  keyedMs  : u.floor.keyedMs = s.floor.keyedMs
  attached : u.seats[h.seat].attachment.isSome = true
  alone    : ∀ e ∈ u.queue, e.seat ≠ h.seat
  present  : u.station.ampPresent = s.station.ampPresent
  amp      : u.bus.believed.amp = s.bus.believed.amp
  stamp    : u.stamp = s.stamp
  held     : partHeld u (.report h.seat) = partHeld s (.report h.seat)

theorem TurnYet.of_floorLaw {s : State} {h : Holder} (hl : FloorLaw s) (hh : s.floor.holder = some h) :
    TurnYet s s h :=
  ⟨hh, rfl, attachment_isSome (hl.holder_attached h hh), hl.holder_not_queued h hh, rfl, rfl, rfl, rfl⟩

/-- R59 steps 1 to 6. -/
theorem endTurnCore_left {s u : State} {x : SeatNo} {cause : EndCause} (detail : EndDetail)
    (hq : ∀ e ∈ u.queue, e.seat ≠ x) (hs : u.station.ampPresent = s.station.ampPresent)
    (ha : u.bus.believed.amp = s.bus.believed.amp) : TurnLeft s (endTurnCore cause detail u) x cause :=
  ⟨endTurnCore_clear .., .endTurnCore hq, fun hc hc' hp hb =>
    endTurnCore_placesStandby hc hc' (hs.trans hp) (ha.trans hb)⟩

theorem TurnYet.out {s u : State} {h : Holder} (hy : TurnYet s u h) (cause : EndCause)
    (detail : EndDetail) : TurnOut s (endTurnCore cause detail u) h cause detail :=
  { endTurnCore_left detail hy.alone hy.present hy.amp with
    notice := by
      have hn := endTurnCore_mem cause detail hy.holder hy.attached
      rwa [hy.keyedMs, hy.stamp] at hn
    held := by simpa [partHeld] using hy.held }

theorem TurnYet.told {s u : State} {h : Holder} (hy : TurnYet s u h) (cause : EndCause)
    (detail : EndDetail) : TurnTold s (endTurn cause detail u) h cause detail :=
  ((hy.out cause detail).onward (enterIdle_onward _)).told

theorem TurnYet.toldToIdent {s u : State} {h : Holder} (hy : TurnYet s u h) :
    TurnTold s (endTurnToIdent u) h .released .none :=
  ((hy.out .released .none).onward (enterIdent_onward _)).told

/-- R45, R59: with nobody waiting and nothing pending the turn's end leaves the floor IDLE. -/
theorem endTurn_idle {u : State} {cause : EndCause} {detail : EndDetail} (hq : u.queue = [])
    (hp : u.ident.pending = false) :
    (endTurn cause detail u).floor = { u.floor.cleared with state := .idle } := by
  have hi : (endTurnCore cause detail u).ident.pending = false := by
    have hu : (unkey u).ident.pending = u.ident.pending := by
      unfold unkey
      split <;> simp [withdrawPoll, quietSender]
    simpa [endTurnCore, hu] using hp
  unfold endTurn enterIdle
  rw [serve_empty _ (by simpa using hq) (by simpa using hi)]
  simp

theorem endTurn_stoodIdle {s u : State} (cause : EndCause) (detail : EndDetail)
    (hq : s.queue = [] → u.queue = []) (hp : s.ident.pending = false → u.ident.pending = false) :
    StoodIdle s (endTurn cause detail u) :=
  ⟨fun e e' => by
    rw [endTurn_idle (hq e) (hp e')]
    exact ⟨rfl, rfl, rfl, rfl, rfl⟩⟩

/-- A command whose act ends the turn. -/
theorem TurnYet.endedToIdle {s u : State} {h : Holder} (hy : TurnYet s u h) (cause : EndCause)
    (detail : EndDetail) (hq : u.queue = s.queue) (hp : u.ident.pending = s.ident.pending) :
    EndedToIdle s (closeAct s (finishSetup s (endTurn cause detail u))) h cause detail :=
  (hy.told cause detail).endedToIdle (endTurn_stoodIdle cause detail (hq.trans ·) (hp.trans ·))

end Sys2Proof.Machine

/-! O34, O35, O37: the ends of a turn by a timer, by RELEASE and by FORCE_RELEASE (R51 to R60). -/

namespace Sys2Proof.Machine

/-- A command whose act is one deed. -/
theorem gives_deed {c : Instr} {f : State → State} {s d : State} {P : State → Prop} (hc : exec c s = .next (act f s))
    (hr : Running s) (hd : f s = d) (hP : P (closeAct s (finishSetup s d))) : Gives (exec c s) P :=
  ⟨_, hc.trans (congrArg Host.Outcome.next (act_running hr)), by rwa [hd]⟩

/-! ### Timers -/

/-- A command whose act ends the turn of the holder with a cause. -/
theorem gives_endTurn {c : Instr} {f : State → State} {s : State} {h : Holder} {cause : EndCause}
    {detail : EndDetail} (hc : exec c s = .next (act f s)) (hr : Running s) (hl : FloorLaw s)
    (hh : s.floor.holder = some h) (hd : f s = endTurn cause detail s) :
    Gives (exec c s) fun t => EndedToIdle s t h cause detail :=
  gives_deed hc hr hd ((TurnYet.of_floorLaw hl hh).endedToIdle cause detail rfl rfl)

/-- Settles O37: each expiry ends the holder's turn, which the laws of the floor have alone on the floor. -/
theorem timerExpiriesEndTheTurn : Obligations.TimerExpiriesEndTheTurn := by
  unfold Obligations.TimerExpiriesEndTheTurn
  intro s h hr hl hh
  refine ⟨fun hs ht => ?_, fun g hs hg => ?_, fun hs ht => ?_, fun hs ht => ?_⟩
  · exact gives_endTurn (f := startWaitExpired) rfl hr hl hh (by simp [startWaitExpired, hs, ht])
  · exact gives_endTurn (f := keyDownExpired) rfl hr hl hh (by simp [keyDownExpired, hs, hg])
  · exact gives_endTurn (f := hangExpired) rfl hr hl hh (by simp [hangExpired, hs, ht])
  · exact gives_endTurn (f := rejoinExpired) rfl hr hl hh (by simp [rejoinExpired, hs, ht])

/-! ### Orders that reach the floor -/

/-- R165: an order that may reach the floor: what holds behind its act. -/
theorem execOrder_acts {kind : Nat} {carryOut : SeatNo → State → State × Reply} {s d : State}
    {seat : SeatNo} {rest : List SeatNo} {reply : Reply} {P : State → Prop} (h : OrderReady kind seat rest s)
    (hd : carryOut seat (orderTaken seat rest s) = (d, reply))
    (hP : P (closeAct s (finishSetup s
      (placeAnswer seat (answerWith s seat reply.result reply.data) d)))) :
    Gives (execOrder kind carryOut s) P := by
  refine ⟨_, execOrder_running h, ?_⟩
  rw [show carryOut seat (renewPresence seat (s.withHandovers rest)) = (d, reply) from hd]
  exact hP

theorem placeAnswer_answer (seat : SeatNo) (a : Answer) (d : State) :
    (placeAnswer seat a d).seats[seat].answer = some a := by
  rw [placeAnswer, modSeat_getElem, if_pos rfl]

theorem placeAnswer_notices (seat x : SeatNo) (a : Answer) (d : State) :
    (placeAnswer seat a d).seats[x].notices = d.seats[x].notices := by
  rw [placeAnswer, modSeat_getElem]
  split
  · next h => rw [h]
  · rfl

/-- R165, R167: an answer that is formed is given behind the close of the act. -/
theorem answered_of {s u : State} {seat : SeatNo} {a : Answer} (ha : u.seats[seat].answer = some a)
    (hr : u.ram = s.ram) : Answered s (closeAct s u) seat a := by
  have ha' : (settleBoard s (settleLines (settlePoll (settleClosing s u)))).seats[seat].answer = some a := by
    simpa using ha
  exact (composeReports_answered ha').of_ram_eq (by simpa using hr)

theorem order_answered {s d : State} (seat : SeatNo) (a : Answer) (hr : d.ram = s.ram) :
    Answered s (closeAct s (finishSetup s (placeAnswer seat a d))) seat a :=
  answered_of ((finishSetup_moves ..).seatsKept.answer seat |>.trans (placeAnswer_answer ..)) (by simpa using hr)

theorem TurnTold.placeAnswer {s d : State} {h : Holder} {cause : EndCause} {detail : EndDetail}
    (hd : TurnTold s d h cause detail) (seat : SeatNo) (a : Answer) :
    TurnTold s (placeAnswer seat a d) h cause detail :=
  hd.of_eq (by simp) (by simp) (by simp) (by simp) (by simp) (placeAnswer_notices ..) (by simp [partHeld])

/-- R165: the take of an order has not reached the holder's turn. -/
theorem TurnYet.orderTaken {s : State} {h : Holder} (hl : FloorLaw s) (hh : s.floor.holder = some h)
    (seat : SeatNo) (rest : List SeatNo) : TurnYet s (orderTaken seat rest s) h where
  holder := by simpa using hh
  keyedMs := by simp
  attached := attachment_isSome (by rw [attachedMember_orderTaken]; exact hl.holder_attached h hh)
  alone := by simpa using hl.holder_not_queued h hh
  present := by simp
  amp := by simp
  stamp := by simp
  held := by simp [partHeld]

/-- An unkey does not end a turn. -/
theorem TurnYet.unkey {s u : State} {h : Holder} (hy : TurnYet s u h) : TurnYet s (unkey u) h :=
  ⟨by simpa using hy.holder, by simpa using hy.keyedMs, by simpa using hy.attached, by simpa using hy.alone,
    by simpa using hy.present, by rw [unkey_believed]; exact hy.amp, by simpa using hy.stamp,
    by simpa [partHeld] using hy.held⟩

/-! ### The way into IDENT -/

theorem NeedsStandby.of_bus {s t : State} (h : NeedsStandby s) (hp : t.station.ampPresent = s.station.ampPresent)
    (ha : t.bus.believed.amp = s.bus.believed.amp)
    (hi : (t.bus.inFlight.any fun x => x.message == .operate) = s.bus.inFlight.any fun x => x.message == .operate) :
    NeedsStandby t := by
  obtain ⟨h1, h2⟩ := h
  exact ⟨hp.trans h1, by rw [ha, hi]; exact h2⟩

/-- R64: into IDENT a STANDBY is placed where the identification needs one. -/
theorem enterIdent_needs {s : State} (h : NeedsStandby s) : standbyOutstanding (enterIdent s) = true := by
  have hr : standbyOutstanding (identReady s) = true := by
    obtain ⟨hp, hn⟩ := h
    by_cases hs : standbyOutstanding s = true
    · unfold identReady
      simp only
      split
      · exact standbyOutstanding_placed _
      · exact hs
    · unfold identReady
      simp only
      rw [if_pos]
      · exact standbyOutstanding_placed _
      · have hs' : standbyOutstanding (s.withFloor { s.floor with identAsked := false }) = false := by
          simpa [standbyOutstanding] using hs
        simpa [hp, hs'] using hn
  exact standbyOutstanding_of_bus hr (by simp [enterIdent_ready]) (by simp [enterIdent_ready])

theorem unkey_inFlight (s : State) : (unkey s).bus.inFlight = s.bus.inFlight := by
  unfold unkey
  split <;> simp [withdrawPoll, quietSender]

theorem unkey_floorWork (s : State) : (unkey s).bus.floorWork = s.bus.floorWork := by
  unfold unkey
  split <;> simp [withdrawPoll, quietSender]

theorem unkey_pending (s : State) : (unkey s).ident.pending = s.ident.pending := by
  unfold unkey
  split <;> simp [withdrawPoll, quietSender]

theorem closeSetup_believed (c : EndCause) (s : State) : (closeSetup c s).bus.believed = s.bus.believed := by
  rw [closeSetup_eq]
  split <;> rfl

/-- R59: a setup item in flight stays there as one of a past turn. -/
theorem closeSetup_inFlight (c : EndCause) (s : State) (p : Message → Bool) :
    ((closeSetup c s).bus.inFlight.any fun x => p x.message) = s.bus.inFlight.any fun x => p x.message := by
  have hb : (closeSetup c s).bus.inFlight = (cancelSetup s).bus.inFlight := by
    rw [closeSetup_eq]
    split <;> rfl
  rw [hb, cancelSetup, withBus_bus]
  cases s.bus.inFlight with
  | none => rfl
  | some x =>
    simp only [Option.map_some, Option.any_some]
    split <;> rfl

theorem endTurnCore_needs {c : EndCause} {d : EndDetail} {s : State} (h : NeedsStandby s) :
    NeedsStandby (endTurnCore c d s) :=
  h.of_bus (by simp) (by rw [endTurnCore_bus, closeSetup_believed, unkey_believed])
    (by rw [endTurnCore_bus, closeSetup_inFlight c (unkey s) (· == .operate), unkey_inFlight])

theorem endTurnToIdent_needs {s : State} (h : NeedsStandby s) : standbyOutstanding (endTurnToIdent s) = true :=
  enterIdent_needs (endTurnCore_needs h)

@[simp] theorem enterIdent_floor (s : State) :
    (enterIdent s).floor = { s.floor with state := .ident, identAsked := false } := by
  simp [enterIdent_ready, identReady_floor]

@[simp] theorem endTurnToIdent_queue (s : State) : (endTurnToIdent s).queue = s.queue := by
  simp [endTurnToIdent]

theorem endTurnToIdent_floor (s : State) :
    (endTurnToIdent s).floor = { s.floor.cleared with state := .ident, identAsked := false } := by
  simp [endTurnToIdent]

/-! ### RELEASE -/

theorem releaseFloor_hang {s : State} (hs : s.floor.state = .onAir ∨ s.floor.state = .stalled)
    (hp : s.ident.pending = false) (hh : s.station.hangTime ≠ 0) :
    releaseFloor s = (.hang, enterHang (unkey s)) := by
  rcases hs with hs | hs <;> simp [releaseFloor, hs, unkey_pending, hp, hh]

theorem releaseFloor_ident {s : State} (hs : s.floor.state = .onAir ∨ s.floor.state = .stalled)
    (hp : s.ident.pending = true) : releaseFloor s = (.ident, endTurnToIdent (unkey s)) := by
  rcases hs with hs | hs <;> simp [releaseFloor, hs, unkey_pending, hp]

/-- R55: a release that ends the turn goes to IDLE. -/
theorem releaseFloor_idle {s : State} {h : Holder} {x : State} (hy : TurnYet x s h)
    (hs : s.floor.state ≠ .onAir ∧ s.floor.state ≠ .stalled
      ∨ s.ident.pending = false ∧ s.station.hangTime = 0) :
    ∃ u, releaseFloor s = (.idle, endTurn .released .none u) ∧ TurnYet x u h ∧ u.queue = s.queue
      ∧ u.ident.pending = s.ident.pending ∧ u.ram = s.ram := by
  by_cases ha : s.floor.state = .onAir ∨ s.floor.state = .stalled
  · obtain ⟨hp, hh⟩ := hs.resolve_left fun e => ha.elim e.1 e.2
    refine ⟨unkey s, ?_, hy.unkey, by simp, unkey_pending s, by simp⟩
    rcases ha with ha | ha <;> simp [releaseFloor, ha, unkey_pending, hp, hh]
  · refine ⟨s, ?_, hy, rfl, rfl, rfl⟩
    rw [not_or] at ha
    unfold releaseFloor
    split
    · next e => exact absurd e ha.1
    · next e => exact absurd e ha.2
    · rfl

theorem doRelease_holder {s : State} {seat : SeatNo} {new : FloorState} {u : State}
    (hs : holderSeat s = some seat) (hr : releaseFloor s = (new, u)) :
    doRelease seat s = (u, ⟨.done, byteOf new.code :: le16 (saturate16 (s.floor.keyedMs / 1000))⟩) := by
  simp only [doRelease, hs, if_true, hr]

/-- R86: the playout queue is empty in HANG. -/
theorem enterHang_playout {s : State} (hs : s.floor.state = .onAir ∨ s.floor.state = .stalled) :
    (enterHang s).playout.frames = [] := by
  unfold enterHang
  rw [setFloorState_playout, if_pos]
  · rfl
  · rcases hs with hs | hs <;> simp [hs, FloorState.streaming]

/-- R55: the answer of a release carries the state entered and the turn's keyed seconds. -/
theorem release_acts {s u : State} {seat : SeatNo} {rest : List SeatNo} {new : FloorState} {P : State → Prop}
    (h : OrderReady 13 seat rest s) (hs : holderSeat s = some seat)
    (hr : releaseFloor (orderTaken seat rest s) = (new, u)) (hm : u.ram = s.ram)
    (hP : ∀ a, Answered s (closeAct s (finishSetup s (placeAnswer seat a u))) seat a →
      a = answerWith s seat .done (byteOf new.code :: le16 (min (s.floor.keyedMs / 1000) 65535)) →
      P (closeAct s (finishSetup s (placeAnswer seat a u)))) : Gives (exec .release s) P := by
  have hseat : holderSeat (orderTaken seat rest s) = some seat := by simpa [holderSeat] using hs
  refine execOrder_acts h (doRelease_holder hseat hr) (hP _ (order_answered seat _ hm) ?_)
  simp [saturate16]

/-- Settles O34: RELEASE by its table. -/
theorem releaseFollowsItsTable : Obligations.ReleaseFollowsItsTable := by
  unfold Obligations.ReleaseFollowsItsTable
  intro s seat rest secs h hl hsecs
  refine ⟨fun hn => ?_, fun x hx hxs => ?_⟩
  · refine execOrder_refused h ?_
    have hn' : holderSeat (orderTaken seat rest s) ≠ some seat := by simpa [holderSeat] using hn
    simp only [doRelease, hn', if_false]
  subst hxs hsecs
  have hseat : holderSeat s = some x.seat := by simp [holderSeat, hx]
  have hy := TurnYet.orderTaken hl hx x.seat rest
  refine ⟨fun hs hp hh => ?_, fun hs hp => ?_, fun hs => ?_⟩
  · have hr := releaseFloor_hang (s := orderTaken x.seat rest s) (by simpa using hs) (by simpa using hp)
      (by simpa using hh)
    refine release_acts h hseat hr (by simp [enterHang]) fun a ha he => ?_
    rw [finishSetup_notSetting (by simp [enterHang])] at ha ⊢
    refine ⟨by simp [enterHang], by simp [enterHang], by simp [enterHang], ?_, by simp [enterHang], he ▸ ha⟩
    simpa using enterHang_playout (s := unkey (orderTaken x.seat rest s)) (by simpa using hs)
  · have hr := releaseFloor_ident (s := orderTaken x.seat rest s) (by simpa using hs) (by simpa using hp)
    refine release_acts h hseat hr (by simp) fun a ha he => ?_
    have ht := (hy.unkey.toldToIdent.placeAnswer x.seat a).ended
    rw [finishSetup_notSetting (by simp [endTurnToIdent_floor])] at ha ht ⊢
    refine ⟨ht, by simp [endTurnToIdent_floor], by simp, fun hn => ?_, he ▸ ha⟩
    have hneeds : NeedsStandby (unkey (orderTaken x.seat rest s)) :=
      hn.of_bus (by simp) (by rw [unkey_believed]; simp) (by rw [unkey_inFlight]; simp)
    obtain ⟨hi, hw, -⟩ := closeAct_work s
      (placeAnswer x.seat a (endTurnToIdent (unkey (orderTaken x.seat rest s))))
    exact standbyOutstanding_of_bus (endTurnToIdent_needs hneeds) (hw.trans (by simp)) (hi.trans (by simp))
  · obtain ⟨u, hr, hu, hq, hp, hm⟩ := releaseFloor_idle hy (by simpa using hs)
    refine release_acts h hseat hr (by simpa using hm) fun a ha he => ⟨?_, he ▸ ha⟩
    have hi : StoodIdle s (endTurn .released .none u) :=
      endTurn_stoodIdle .released .none (fun e => by simpa [hq] using e) fun e => by simpa [hp] using e
    exact ((hu.told .released .none).placeAnswer x.seat a).endedToIdle (hi.of_eq (by simp))

/-! ### FORCE_RELEASE -/

theorem endEntry_stamp (c : EndCause) (d : EndDetail) (e : Entry) (s : State) :
    (endEntry c d e s).stamp = s.stamp := by simp

theorem endEntry_mem {s : State} {e : Entry} (c : EndCause) (d : EndDetail)
    (ha : s.seats[e.seat].attachment.isSome = true) :
    (⟨.ended c d false e.member 0, s.stamp⟩ : Notice) ∈ (endEntry c d e s).seats[e.seat].notices :=
  removeEntry_silent (by simp [NoticeBody.kind]) _ (raise_mem _ ha) rfl

theorem endEntries_silent {k : Nat} {x : SeatNo} {c : EndCause} {l : List Entry} {s : State}
    (hq : s.queue = l) (h : k = 2 ∨ k = 4 → ∀ y ∈ l, y.seat ≠ x) : Silent k x s (endEntries c l s) := by
  induction l generalizing s with
  | nil => exact .refl s
  | cons e rest ih =>
    have he : Silent k x s (endEntry c .none e s) := endEntry_silent fun hk =>
      ⟨h hk e List.mem_cons_self, fun y hy => h hk y (hq ▸ hy)⟩
    exact he.trans (ih (endEntry_head_queue hq) fun hk y hy => h hk y (List.mem_cons_of_mem _ hy))

/-- R60: each of the entries that are removed is told of its end. -/
theorem endEntries_mem {c : EndCause} {l : List Entry} {s : State} (hq : s.queue = l)
    (hn : (l.map Entry.seat).Nodup) (ha : ∀ e ∈ l, s.seats[e.seat].attachment.isSome = true) :
    ∀ e ∈ l, (⟨.ended c .none false e.member 0, s.stamp⟩ : Notice) ∈ (endEntries c l s).seats[e.seat].notices := by
  induction l generalizing s with
  | nil => simp
  | cons e rest ih =>
    have hq' : (endEntry c .none e s).queue = rest := endEntry_head_queue hq
    rw [List.map_cons, List.nodup_cons] at hn
    intro y hy
    rcases List.mem_cons.1 hy with rfl | hy
    · refine endEntries_silent hq' (fun _ z hz hs => hn.1 ?_) _
        (endEntry_mem c .none (ha y List.mem_cons_self)) rfl
      rw [← hs]
      exact List.mem_map_of_mem hz
    · have hkept := (endEntry_moves c .none e s).seatsKept
      have := ih hq' hn.2 (fun z hz => by
        rw [hkept.attachment z.seat]
        exact ha z (List.mem_cons_of_mem _ hz)) y hy
      rwa [endEntry_stamp] at this

@[simp] theorem endEntries_floor (c : EndCause) (l : List Entry) (s : State) :
    (endEntries c l s).floor = s.floor := by simp

theorem setFloorState_same {s : State} {new : FloorState} (h : s.floor.state = new) : setFloorState new s = s :=
  if_pos h

/-- R45: with nobody waiting a serving point leaves nobody on the floor. -/
theorem enterIdle_empty {s : State} (hq : s.queue = []) (hh : s.floor.holder = none) :
    (enterIdle s).queue = [] ∧ (enterIdle s).floor.holder = none
      ∧ (enterIdle s).floor.state ≠ .setting
      ∧ (s.ident.pending = false → (enterIdle s).floor.state = .idle) := by
  have hi : (setFloorState .idle s).floor.state = .idle := by simp
  have hs : serve (setFloorState .idle s) = setFloorState .idle s
      ∨ s.ident.pending = true ∧ serve (setFloorState .idle s) = enterIdent (setFloorState .idle s) := by
    unfold serve
    split
    · exact .inl (setFloorState_same hi)
    · split
      · next hp => exact .inr ⟨by simpa using hp, rfl⟩
      · left
        rw [show (setFloorState .idle s).queue = [] by simpa using hq]
        exact setFloorState_same hi
  unfold enterIdle
  rcases hs with hs | ⟨hp, hs⟩ <;> rw [hs]
  · simp [hq, hh]
  · simp [hq, hh, hp]

/-- R58: the floor whose turn FORCE_RELEASE has ended, if there was one. -/
def forced (s : State) : State := if s.floor.holder.isSome then endTurnCore .forced .none s else s

/-- R58: and whose entries it has removed, with its flag set. -/
def forcedOut (clear : Bool) (s : State) : State :=
  if clear then endEntries .forced (forced s).queue (forced s) else forced s

theorem forceRelease_eq (clear : Bool) (s : State) : forceRelease clear s
    = if s.floor.holder.isSome || s.floor.state == .resting then enterIdle (forcedOut clear s)
      else forcedOut clear s := rfl

theorem forced_queue (s : State) : (forced s).queue = s.queue := by
  unfold forced
  split <;> simp

theorem forced_noHolder (s : State) : (forced s).floor.holder = none := by
  unfold forced
  split
  · simp [Floor.cleared]
  · next h => simpa using h

theorem forced_pending (s : State) : (forced s).ident.pending = s.ident.pending := by
  unfold forced
  split
  · simp [endTurnCore, unkey_pending]
  · rfl

theorem forcedOut_onward (clear : Bool) (s : State) : Onward (forced s) (forcedOut clear s) := by
  unfold forcedOut
  split
  · exact endEntries_onward .forced rfl
  · exact .refl _

/-- R58: with its flag set the queue is empty behind it. -/
theorem forcedOut_clears (s : State) : (forcedOut true s).queue = []
    ∧ (forcedOut true s).floor = (forced s).floor ∧ (forcedOut true s).ident = (forced s).ident
    ∧ (forcedOut true s).ram = s.ram := by
  refine ⟨endEntries_queue .forced rfl, ?_, ?_, ?_⟩
  · simp [forcedOut]
  · simp [forcedOut]
  · simp only [forcedOut, if_true, endEntries_frame, forced]
    split <;> simp

/-- R58: FORCE_RELEASE on a held floor. -/
theorem forceRelease_held {s u : State} {h : Holder} (hy : TurnYet s u h) (clear : Bool) :
    TurnOut s (forceRelease clear u) h .forced .none := by
  have hf : forced u = endTurnCore .forced .none u := by simp [forced, hy.holder]
  have ho := (hy.out .forced .none).onward (hf ▸ forcedOut_onward clear u)
  rw [forceRelease_eq, if_pos (by simp [hy.holder])]
  exact ho.onward (enterIdle_onward _)

theorem forced_attachment (s : State) (x : SeatNo) :
    (forced s).seats[x].attachment = s.seats[x].attachment := by
  unfold forced
  split
  · exact (endTurnCore_seatsKept ..).attachment x
  · rfl

theorem forced_frame (s : State) : (forced s).stamp = s.stamp ∧ (forced s).ram = s.ram := by
  unfold forced
  split <;> simp

/-- R58: with its flag set FORCE_RELEASE leaves nobody on the floor and nobody waiting; those who waited are told. -/
theorem forceRelease_clears {s : State} (hl : FloorLaw s) :
    (forceRelease true s).queue = [] ∧ (forceRelease true s).floor.holder = none
      ∧ (s.floor.holder.isSome = true ∨ s.floor.state = .resting →
          (forceRelease true s).floor.state ≠ .setting
            ∧ (s.ident.pending = false → (forceRelease true s).floor.state = .idle))
      ∧ (s.floor.holder = none → s.floor.state ≠ .resting → (forceRelease true s).floor = s.floor)
      ∧ ∀ e ∈ s.queue, (⟨.ended .forced .none false e.member 0, s.stamp⟩ : Notice)
          ∈ (forceRelease true s).seats[e.seat].notices := by
  obtain ⟨hq, hf, hi, -⟩ := forcedOut_clears s
  obtain ⟨hst, -⟩ := forced_frame s
  have hh : (forcedOut true s).floor.holder = none := by rw [hf, forced_noHolder]
  obtain ⟨hq', hh', hs', hp'⟩ := enterIdle_empty hq hh
  have hmem : ∀ e ∈ s.queue, (⟨.ended .forced .none false e.member 0, s.stamp⟩ : Notice)
      ∈ (forcedOut true s).seats[e.seat].notices := by
    have := endEntries_mem (c := .forced) (s := forced s) (forced_queue s) hl.queue_seats fun e he => by
      rw [forced_attachment]
      exact attachment_isSome (hl.queue_attached e he)
    simpa only [forcedOut, if_true, forced_queue, hst] using this
  rw [forceRelease_eq]
  split
  · next ht =>
    refine ⟨hq', hh', fun _ => ⟨hs', fun e => hp' (by rw [hi, forced_pending, e])⟩, fun e e' => ?_, fun e he => ?_⟩
    · simp [e, e'] at ht
    · exact (enterIdle_onward _).silent 4 e.seat ⟨by simp, by simp, fun _ => ⟨by simp [hh], by simp [hq]⟩⟩ _
        (hmem e he) rfl
  · next ht =>
    simp only [Bool.or_eq_true, beq_iff_eq, not_or] at ht
    refine ⟨hq, hh, fun e => absurd e (by tauto), fun _ _ => ?_, hmem⟩
    rw [hf, forced, if_neg ht.1]

/-- R58: the answer of FORCE_RELEASE. -/
theorem forceRelease_acts {s d : State} {seat : SeatNo} {rest : List SeatNo} {clear : Bool} {P : State → Prop}
    (h : OrderReady 14 seat rest s) (hauth : hasAuthority s seat = true)
    (hclear : (bodyByte s seat 4 != 0) = clear) (hok : s.floor.holder.isSome = true ∨ clear = true)
    (hd : forceRelease clear (orderTaken seat rest s) = d) (hm : d.ram = s.ram)
    (hP : ∀ a, Answered s (closeAct s (finishSetup s (placeAnswer seat a d))) seat a →
      a = answerWith s seat .done
        [flagByte s.floor.holder.isSome, byteOf (if clear then s.queue.length else 0)] →
      P (closeAct s (finishSetup s (placeAnswer seat a d)))) : Gives (exec .forceRelease s) P := by
  have hdo : doForceRelease seat (orderTaken seat rest s)
      = (d, ⟨.done, [flagByte s.floor.holder.isSome, byteOf (if clear then s.queue.length else 0)]⟩) := by
    have hn : (s.floor.holder.isNone && !clear) = false := by
      rcases hok with hok | hok
      · cases hh : s.floor.holder with
        | none => simp [hh] at hok
        | some x => rfl
      · simp [hok]
    have hf : (orderTaken seat rest s).floor = s.floor := by simp
    have hq : (orderTaken seat rest s).queue = s.queue := by simp
    simp only [doForceRelease, bodyByte_orderTaken, hclear, hf, hq, hn, Bool.false_eq_true, if_false, hd]
  refine execOrder_acts h ((withAuthority_of_authority (by simpa using hauth)).trans hdo)
    (hP _ (order_answered seat _ hm) rfl)

/-- Settles O35: FORCE_RELEASE ends the turn, and with its flag clears the queue. -/
theorem forceReleaseTakesTheFloor : Obligations.ForceReleaseTakesTheFloor := by
  unfold Obligations.ForceReleaseTakesTheFloor
  intro s seat rest h hl hauth
  refine ⟨fun hn hz => ?_, fun x hx hz => ?_, fun hz => ?_⟩
  · refine execOrder_refused h ?_
    rw [withAuthority_of_authority (by simpa using hauth)]
    simp [doForceRelease, hn, hz]
  · have hy := TurnYet.orderTaken hl hx seat rest
    refine forceRelease_acts (clear := false) h hauth (by simp [hz]) (.inl (by simp [hx])) rfl (by simp)
      fun a ha he => ⟨?_, ?_⟩
    · have hi : StoodIdle s (forceRelease false (orderTaken seat rest s)) := by
        rw [forceRelease_eq, if_pos (by simp [hx])]
        simp only [forcedOut, forced, Bool.false_eq_true, if_false]
        rw [if_pos (by simp [hx])]
        exact endTurn_stoodIdle .forced .none (fun e => by simpa using e) fun e => by simpa using e
      exact (((forceRelease_held hy false).told).placeAnswer seat a).endedToIdle (hi.of_eq (by simp))
    · subst he
      simpa [hx, flagByte, byteOf] using ha
  · have hclear : (bodyByte s seat 4 != 0) = true := by simpa using hz
    have hlu : FloorLaw (orderTaken seat rest s) :=
      hl.of_same (by simp) (by simp) fun x => attachedMember_orderTaken ..
    obtain ⟨hq, hh, hidle, hoff, hmem⟩ := forceRelease_clears hlu
    refine forceRelease_acts (clear := true) h hauth hclear (.inr rfl) rfl (by simp) fun a ha he => ?_
    have hfin : finishSetup s (placeAnswer seat a (forceRelease true (orderTaken seat rest s)))
        = placeAnswer seat a (forceRelease true (orderTaken seat rest s)) := by
      by_cases hb : s.floor.holder.isSome = true ∨ s.floor.state = .resting
      · exact finishSetup_notSetting (by simpa using (hidle (by simpa using hb)).1)
      · rw [not_or] at hb
        have hf := hoff (by simpa using hb.1) (by simpa using hb.2)
        exact finishSetup_kept (by simp [hf]) (by simp [hf])
    have hturn (x : Holder) (hx : s.floor.holder = some x) :=
      (((forceRelease_held (TurnYet.orderTaken hl hx seat rest) true).told).placeAnswer seat a).ended
    rw [hfin] at ha hturn ⊢
    refine ⟨by simpa using hq, by simpa using hh, hturn, fun e he => ?_, fun e e' => ?_, fun e e' => ?_, ?_⟩
    · refine closeAct_noticed ?_ (by simp [partHeld])
      rw [placeAnswer_notices]
      simpa using hmem e (by simpa using he)
    · simpa using hoff (by simpa using e) (by simpa using e')
    · simpa using (hidle (by simpa [Option.isSome_iff_ne_none] using e)).2 (by simpa using e')
    · subst he
      simpa [flagByte] using ha

end Sys2Proof.Machine

/-! SUPPORT, O36. The key request (R130, R131) and the floor under a new grant (R46 to R51, R70). -/

namespace Sys2Proof.Machine

section

variable {s : State}

/-! ### The key request -/

theorem openWindow_window (s : State) : (openWindow s).ident.window = true := by
  unfold openWindow
  split
  · assumption
  · rfl

@[simp] theorem assertPtt_window (s : State) : (assertPtt s).ident.window = true := by
  unfold assertPtt
  simp only
  split <;> exact openWindow_window s

theorem assertPtt_leads (h : s.station.lead ≠ 0) :
    (assertPtt s).keying = { s.keying with state := .leading, lead := some s.station.lead } := by
  simp [assertPtt, h]

theorem assertPtt_keys (h : s.station.lead = 0) :
    (assertPtt s).keying = { s.keying with state := .keyed, lead := none } := by
  simp [assertPtt, h]

theorem assertPtt_keyed (s : State) : (assertPtt s).keying.state ≠ .unkeyed := by
  by_cases h : s.station.lead = 0
  · simp [assertPtt_keys h]
  · simp [assertPtt_leads h]

/-- R136: no amplifier fault stands in the way of keying. -/
abbrev NoAmpFault (s : State) : Prop := ¬ (s.pins.ampFault = true ∧ s.bus.believed.amp = some .operate)

theorem ampFaultHolds_assertPtt (h : NoAmpFault s) : ampFaultHolds (assertPtt s) = false := by
  by_contra hf
  simp only [ampFaultHolds, Bool.not_eq_false, Bool.and_eq_true, beq_iff_eq, assertPtt_frame] at hf
  exact h ⟨hf.1.1, hf.2⟩

theorem keyRequest_leads (hm : mayKey s = true) (hf : NoAmpFault s) (hl : s.station.lead ≠ 0) :
    keyRequest s = assertPtt s := by
  simp [keyRequest, hm, ampFaultHolds_assertPtt hf, assertPtt_leads hl]

theorem keyRequest_keys (hm : mayKey s = true) (hf : NoAmpFault s) (hl : s.station.lead = 0) :
    keyRequest s = enterKeyed (assertPtt s) := by
  simp [keyRequest, hm, ampFaultHolds_assertPtt hf, assertPtt_keys hl]

theorem mayKey_iff : mayKey s = true ↔ s.keying.state = .unkeyed
    ∧ (s.floor.state = .onAir ∨ s.floor.state = .ident) ∧ s.mode = .serving ∧ s.pins.txInhibit = false := by
  simp [mayKey, and_assoc]

/-- R130: what a TUNE that meets no fault has of its key request. -/
structure TuneAsked (s t : State) : Prop where
  floor : t.floor = s.floor
  queue : t.queue = s.queue
  seats : t.seats = s.seats
  bus   : t.bus = s.bus
  lastMode : t.ident.lastMode = s.ident.lastMode
  keyed : s.mode = .serving → s.pins.txInhibit = false →
    t.keying.state ≠ .unkeyed
      ∧ (s.keying.state = .unkeyed → s.station.lead ≠ 0 →
          t.keying.state = .leading ∧ t.keying.lead = some s.station.lead ∧ t.ident.window = true)

theorem openWindow_lastMode (s : State) : (openWindow s).ident.lastMode = s.ident.lastMode := by
  unfold openWindow
  split <;> rfl

theorem assertPtt_lastMode (s : State) : (assertPtt s).ident.lastMode = s.ident.lastMode := by
  unfold assertPtt
  simp only
  split <;> exact openWindow_lastMode s

theorem keyRequest_asked (ha : s.floor.state = .onAir) (ht : grantIsTune s = true) (hf : NoAmpFault s) :
    TuneAsked s (keyRequest s) := by
  refine keyRequest_tune ha ht (fun hm => ?_) (fun hm _ hk => ?_) (fun hm _ hk => ?_) fun _ h => ?_
  · refine ⟨rfl, rfl, rfl, rfl, rfl, fun h1 h2 => ?_⟩
    have hk : s.keying.state ≠ .unkeyed := fun hk => by
      have : mayKey s = true := mayKey_iff.2 ⟨hk, .inl ha, h1, h2⟩
      simp [this] at hm
    exact ⟨hk, fun e => absurd e hk⟩
  · refine ⟨by simp, by simp, by simp, by simp, assertPtt_lastMode s, fun _ _ => ⟨assertPtt_keyed s, fun _ hl => ?_⟩⟩
    simp [assertPtt_leads hl]
  · have hl : s.station.lead = 0 := by
      by_contra hl
      simp [assertPtt_leads hl] at hk
    exact ⟨by simp [keyedState], by simp [keyedState], by simp [keyedState], by simp [keyedState],
      by simp [keyedState, assertPtt_lastMode], fun _ _ => ⟨by simp [keyedState], fun _ h => absurd hl h⟩⟩
  · rw [ampFaultHolds_assertPtt hf] at h
    cases h

/-! ### SETTING with nothing to place -/

theorem setupMessages_eq (station : StationRecord) (b : Believed) (g : Grant) :
    setupMessages station b g
      = (if station.ampPresent = true ∧ g.ampUsed = false ∧ b.amp ≠ some .standby then [.standby] else [])
        ++ (if b.port ≠ some g.port then [.select g.port] else [])
        ++ (if b.freq ≠ some g.freq ∨ b.mode ≠ some g.mode then [.setFreq g.freq g.mode] else [])
        ++ (if b.drive ≠ some g.power then [.setDrive g.power] else [])
        ++ (if g.ampUsed = true ∧ b.amp ≠ some .operate then [.operate] else []) := by
  simp [setupMessages, itemIf, and_assoc]

theorem enterGranted_floor (s : State) : (enterGranted s).floor
    = { s.floor with state := .granted, startWait := some (s.station.startWait * 1000) } := by
  simp [enterGranted]

/-- R86: the playout queue is emptied as GRANTED is entered. -/
theorem enterGranted_playout (h : s.floor.state ≠ .granted) :
    (enterGranted s).playout.frames = [] ∧ (enterGranted s).playout.np = none := by
  unfold enterGranted
  rw [setFloorState_playout, if_pos ⟨by simpa using h, .inl rfl⟩]
  exact ⟨rfl, rfl⟩

theorem setUp_of {g : Grant} (hg : s.floor.grant = some g) (hs : s.floor.state = .setting)
    (hp : s.floor.setupPlaced = false) (hf : floorOutstanding s = false) (hc : passThroughOutstanding s = false) :
    setUp s = if (setupMessages s.station s.bus.believed g).isEmpty
      then setupComplete (placeSetup (setupMessages s.station s.bus.believed g) s)
      else placeSetup (setupMessages s.station s.bus.believed g) s := by
  have hm : maySetUp s = true := by simp [maySetUp, hs, hp, hf, hc]
  simp [setUp, hg, hm]

theorem setupComplete_granted {g : Grant} (hg : s.floor.grant = some g) (ht : g.mode ≠ .tune) :
    setupComplete s = enterGranted s :=
  if_neg fun e => ht ((grantIsTune_iff hg).1 e)

theorem setupComplete_onAir {g : Grant} (hg : s.floor.grant = some g) (ht : g.mode = .tune) :
    setupComplete s = keyRequest (onAirState s) :=
  if_pos ((grantIsTune_iff hg).2 ht)

/-- R51, R130: ON_AIR is entered and the station keyed with its lead delay. -/
theorem onAir_leads (hm : s.mode = .serving) (hi : s.pins.txInhibit = false) (ha : NoAmpFault s)
    (hk : s.keying.state = .unkeyed) (hl : s.station.lead ≠ 0) :
    keyRequest (onAirState s) = assertPtt (onAirState s) :=
  keyRequest_leads (mayKey_iff.2 (by simp [hk, hm, hi])) (by simpa [NoAmpFault] using ha) (by simpa using hl)

end

/-- Settles O36: SETTING places the items that differ; with none the setup is complete. -/
theorem setupPlacesWhatDiffers : Obligations.SetupPlacesWhatDiffers := by
  unfold Obligations.SetupPlacesWhatDiffers
  intro s g items hr hg hs hp hf hc hitems
  rw [← setupMessages_eq] at hitems
  have hup := setUp_of hg hs hp hf hc
  rw [← hitems] at hup
  refine ⟨fun hne => ?_, fun he ht => ?_, fun he ht hm hi ha hk hl => ?_⟩
  · have hd : setUp s = placeSetup items s := by simpa [hne] using hup
    refine gives_deed (f := setUp) rfl hr hd ?_
    rw [finishSetup_kept (by simp) (by simp)]
    obtain ⟨-, hw, -⟩ := closeAct_work s (placeSetup items s)
    exact ⟨hw, by simp⟩
  · have hd : setUp s = enterGranted (placeSetup [] s) := by
      rw [hup, he, List.isEmpty_nil, if_pos rfl, setupComplete_granted (g := g) (by simpa using hg) ht]
    refine gives_deed (f := setUp) rfl hr hd ?_
    rw [finishSetup_notSetting (by simp [enterGranted_floor])]
    obtain ⟨hfr, hnp⟩ := enterGranted_playout (s := placeSetup [] s) (by simp [hs])
    obtain ⟨-, hw, -⟩ := closeAct_work s (enterGranted (placeSetup [] s))
    exact ⟨by simp [enterGranted_floor], by simpa using hfr, by simpa using hnp, hw.trans (by simp)⟩
  · have hd : setUp s = assertPtt (onAirState (placeSetup [] s)) := by
      rw [hup, he, List.isEmpty_nil, if_pos rfl, setupComplete_onAir (g := g) (by simpa using hg) ht]
      exact onAir_leads (by simpa using hm) (by simpa using hi) (by simp [NoAmpFault, ha]) (by simpa using hk)
        (by simpa using hl)
    refine gives_deed (f := setUp) rfl hr hd ?_
    have hkey := assertPtt_leads (s := onAirState (placeSetup [] s)) (by simpa using hl)
    obtain ⟨hks, hkl, -⟩ := closeAct_keyingFields s (assertPtt (onAirState (placeSetup [] s)))
    obtain ⟨-, hw, -⟩ := closeAct_work s (assertPtt (onAirState (placeSetup [] s)))
    obtain ⟨hiw, -⟩ := closeAct_identFields s (assertPtt (onAirState (placeSetup [] s)))
    rw [finishSetup_notSetting (by simp)]
    refine ⟨by simp, hks.trans (by simp [hkey]), hkl.trans (by simp [hkey]), ?_, hiw.trans (by simp), hw.trans (by simp)⟩
    have hr' : s.pins.resetLow = false := hr
    simp [pttOut, hkey, hr']

end Sys2Proof.Machine

/-! SUPPORT. A grant that enters SETTING (R46 to R51, R57, R70). -/

namespace Sys2Proof.Machine

/-- What the completion of an empty setup leaves of the state that entered SETTING with a grant. -/
structure Taken (d t : State) (g : Grant) : Prop where
  taken    : GrantTaken d t g
  holder   : t.floor.holder = d.floor.holder
  grant    : t.floor.grant = d.floor.grant
  count    : t.floor.turnCount = d.floor.turnCount
  keyedMs  : t.floor.keyedMs = d.floor.keyedMs
  keyDown  : t.floor.keyDown = d.floor.keyDown
  hang     : t.floor.hang = d.floor.hang
  warned   : t.floor.timeWarned = d.floor.timeWarned
  queue    : t.queue = d.queue
  lastMode : t.ident.lastMode = d.ident.lastMode
  bus      : t.bus = d.bus
  counters : ∀ x : SeatNo, t.seats[x].counters = d.seats[x].counters
  silent   : ∀ (k : Nat) (x : SeatNo), k ≠ 1 → k ≠ 8 → Silent k x d t

/-- A floor that stands in SETTING, entered in this act, with nothing placed yet. -/
structure Entered (s d : State) (g : Grant) : Prop where
  setting : d.floor.state = .setting
  grant   : d.floor.grant = some g
  placed  : d.floor.setupPlaced = false
  entered : s.floor.state ≠ .setting ∨ s.floor.holder ≠ d.floor.holder

theorem Entered.emptySetup {s d : State} {g : Grant} (h : Entered s d g) :
    emptySetup s d = true ↔ AtSetting d g := by
  rw [emptySetup_iff h.grant]
  have he : enteredSetting s d = true := by
    simp only [enteredSetting, h.setting, BEq.rfl, Bool.true_and, Bool.or_eq_true, bne_iff_ne]
    exact h.entered
  simp only [he, h.placed, true_and]

/-- A change of floor state tells nobody's counters. -/
theorem setFloorState_counters (new : FloorState) (s : State) (x : SeatNo) :
    (setFloorState new s).seats[x].counters = s.seats[x].counters := by
  rw [setFloorState_seats]
  split
  · rfl
  · split <;> simp

theorem onAirState_silent {s : State} {k : Nat} {x : SeatNo} (h : k ≠ 1) (h' : k ≠ 8) :
    Silent k x s (onAirState s) := by
  unfold onAirState
  exact (setFloorState_silent _ h h').after rfl

theorem enterGranted_silent {s : State} {k : Nat} {x : SeatNo} (h : k ≠ 1) (h' : k ≠ 8) :
    Silent k x s (enterGranted s) := by
  unfold enterGranted
  exact (setFloorState_silent _ h h').after rfl

/-- R49, R70: with an empty setup list SETTING is left for GRANTED. -/
theorem taken_granted {d : State} {g : Grant} (hs : d.floor.state = .setting) (ha : AtSetting d g)
    (ht : g.mode ≠ .tune) : Taken d (enterGranted (placeSetup [] d)) g where
  taken := by
    obtain ⟨hfr, hnp⟩ := enterGranted_playout (s := placeSetup [] d) (by simp [hs])
    exact ⟨fun h => absurd ha h, fun _ _ => ⟨by simp [enterGranted_floor], by simp [enterGranted_floor], hfr, hnp⟩,
      fun _ e => absurd e ht⟩
  holder := by simp [enterGranted_floor]
  grant := by simp [enterGranted_floor]
  count := by simp [enterGranted_floor]
  keyedMs := by simp [enterGranted_floor]
  keyDown := by simp [enterGranted_floor]
  hang := by simp [enterGranted_floor]
  warned := by simp [enterGranted_floor]
  queue := by simp
  lastMode := by simp
  bus := by simp
  counters x := by
    rw [enterGranted, setFloorState_counters]
    simp
  silent k x h h' := (enterGranted_silent h h').after (by simp)

/-- R49, R70: a TUNE's is left for ON_AIR with the key request. -/
theorem taken_onAir {d : State} {g : Grant} (hg : d.floor.grant = some g) (ha : AtSetting d g)
    (ht : g.mode = .tune) (hf : NoAmpFault d) : Taken d (keyRequest (onAirState (placeSetup [] d))) g := by
  have hq := keyRequest_asked (s := onAirState (placeSetup [] d)) (by simp)
    ((grantIsTune_iff (by simpa using hg)).2 ht) (by simpa [NoAmpFault] using hf)
  have hfl := hq.floor
  refine ⟨⟨fun h => absurd ha h, fun _ e => absurd ht e, fun _ _ => ⟨by simp [hfl], by simp [hfl], fun h1 h2 => ?_⟩⟩,
    by simp [hfl], by simp [hfl], by simp [hfl], by simp [hfl], by simp [hfl], by simp [hfl], by simp [hfl],
    by simp [hq.queue], by simp [hq.lastMode], by simp [hq.bus], fun x => ?_, fun k x h h' => ?_⟩
  · simpa using hq.keyed (by simpa using h1) (by simpa using h2)
  · rw [hq.seats, onAirState, setFloorState_counters]
    simp
  · exact ((onAirState_silent h h').after (by simp)).trans (.of_seats hq.seats)

/-- R48, R49, R70: what a grant that enters SETTING comes to within the act. -/
theorem Entered.taken {s d : State} {g : Grant} (h : Entered s d g) (hf : ¬ TuneFaults d g) :
    Taken d (finishSetup s d) g := by
  by_cases ha : AtSetting d g
  · have he := h.emptySetup.2 ha
    have hup := setUp_empty he
    by_cases ht : g.mode = .tune
    · have hf' : NoAmpFault d := fun e => hf ⟨ha, ht, e⟩
      rw [setupComplete_onAir (g := g) (by simpa using h.grant) ht] at hup
      have hk := taken_onAir h.grant ha ht hf'
      rw [← hup] at hk
      rwa [finishSetup_once he (by simp [(hk.taken.onAir ha ht).1])]
    · rw [setupComplete_granted (g := g) (by simpa using h.grant) ht] at hup
      have hk := taken_granted h.setting ha ht
      rw [← hup] at hk
      rwa [finishSetup_once he (by simp [(hk.taken.granted ha ht).1])]
  · have he : Machine.emptySetup s d = false := by
      by_contra e
      exact ha (h.emptySetup.1 (by simpa using e))
    have hd : finishSetup s d = d := by simp [finishSetup, finishSetups, he]
    rw [hd]
    exact ⟨⟨fun _ => ⟨h.setting, h.placed⟩, fun e => absurd e ha, fun e => absurd e ha⟩, rfl, rfl, rfl, rfl, rfl,
      rfl, rfl, rfl, rfl, rfl, fun _ => rfl, fun _ _ _ _ => .refl d⟩

/-! ### The same behind the close of the act -/

/-- The state of which R48 and R49 are told is one with the station as SETTING finds it. -/
theorem AtSetting.congr {b c : State} {g : Grant} (hw : c.bus.floorWork = b.bus.floorWork)
    (hi : c.bus.inFlight = b.bus.inFlight) (hb : c.bus.believed = b.bus.believed) (hs : c.station = b.station) :
    AtSetting c g ↔ AtSetting b g := by
  simp only [AtSetting, floorOutstanding, passThroughOutstanding, hw, hi, hb, hs]

theorem GrantTaken.congr {b c t : State} {g : Grant} (h : GrantTaken b t g)
    (hw : c.bus.floorWork = b.bus.floorWork) (hi : c.bus.inFlight = b.bus.inFlight)
    (hb : c.bus.believed = b.bus.believed) (hs : c.station = b.station) (hm : c.mode = b.mode)
    (hp : c.pins.txInhibit = b.pins.txInhibit) (hk : c.keying.state = b.keying.state) : GrantTaken c t g := by
  obtain ⟨h1, h2, h3⟩ := h
  have ha := AtSetting.congr (g := g) hw hi hb hs
  rw [← ha] at h1 h2 h3
  rw [← hs] at h2 h3
  rw [← hm, ← hp, ← hk] at h3
  exact ⟨h1, h2, h3⟩

theorem GrantTaken.close {b t : State} {g : Grant} (h : GrantTaken b t g) (s : State) :
    GrantTaken b (closeAct s t) g := by
  obtain ⟨h1, h2, h3⟩ := h
  obtain ⟨hks, hkl, -⟩ := closeAct_keyingFields s t
  obtain ⟨hiw, -⟩ := closeAct_identFields s t
  refine ⟨fun e => by simpa using h1 e, fun e e' => by simpa using h2 e e', fun e e' => ?_⟩
  obtain ⟨h4, h5, h6⟩ := h3 e e'
  refine ⟨by simpa using h4, by simpa using h5, fun e1 e2 => ?_⟩
  rw [hks, hkl, hiw]
  exact h6 e1 e2

end Sys2Proof.Machine

/-! SUPPORT. A serving point, from the head on (R44 to R47, R64). -/

namespace Sys2Proof.Machine

/-- R45: an entry whose grant is refused when it is considered. -/
abbrev Refused (s : State) (e : Entry) : Prop := ∃ r, computeGrant (grantInputs s e.member) e.req = .refusal r

/-- R45: a state in which entries whose grant is refused have left the queue, and been told. -/
structure Dropped (gone : List Entry) (s u : State) : Prop where
  floor   : u.floor = s.floor
  keying  : u.keying = s.keying
  bus     : u.bus = s.bus
  ident   : u.ident = s.ident
  pins    : u.pins = s.pins
  mode    : u.mode = s.mode
  station : u.station = s.station
  stamp   : u.stamp = s.stamp
  ram     : u.ram = s.ram
  handovers : u.handovers = s.handovers
  duty    : u.duty = s.duty
  playout : u.playout = s.playout
  inputs  : ∀ m, grantInputs u m = grantInputs s m
  moves   : Moves s u
  silent  : ∀ (k : Nat) (x : SeatNo), (k = 2 ∨ k = 4 → ∀ e ∈ s.queue, e.seat ≠ x) → Silent k x s u
  told    : (s.queue.map Entry.seat).Nodup → (∀ e ∈ s.queue, s.seats[e.seat].attachment.isSome = true) →
    ∀ e ∈ gone, ∀ r, computeGrant (grantInputs s e.member) e.req = .refusal r →
      (⟨.ended .refusedAtGrant (.refusal r) false e.member 0, s.stamp⟩ : Notice) ∈ u.seats[e.seat].notices

section

variable {s u : State}

theorem Dropped.refl (s : State) : Dropped [] s s :=
  ⟨rfl, rfl, rfl, rfl, rfl, rfl, rfl, rfl, rfl, rfl, rfl, rfl, fun _ => rfl, .refl s, fun _ _ _ => .refl s,
    by simp⟩

theorem grantInputs_endEntry (c : EndCause) (d : EndDetail) (e : Entry) (s : State) (m : MemberNo) :
    grantInputs (endEntry c d e s) m = grantInputs s m := by
  simp [grantInputs, memberOf]

/-- R45: the head is refused, and those behind it are considered. -/
theorem Dropped.cons {e : Entry} {gone rest : List Entry} {r : Result} (hq : s.queue = e :: rest)
    (hr : computeGrant (grantInputs s e.member) e.req = .refusal r)
    (h : Dropped gone (endEntry .refusedAtGrant (.refusal r) e s) u) : Dropped (e :: gone) s u := by
  have hq' : (endEntry .refusedAtGrant (.refusal r) e s).queue = rest := endEntry_head_queue hq
  refine ⟨by simp [h.floor], by simp [h.keying], by simp [h.bus], by simp [h.ident], by simp [h.pins],
    by simp [h.mode], by simp [h.station], by simp [h.stamp], by simp [h.ram], by simp [h.handovers],
    by simp [h.duty], by simp [h.playout], fun m => by rw [h.inputs, grantInputs_endEntry],
    (endEntry_moves ..).trans h.moves, fun k x hk => ?_, fun hn ha => ?_⟩
  · have he : Silent k x s (endEntry .refusedAtGrant (.refusal r) e s) := endEntry_silent fun h2 =>
      ⟨hk h2 e (by simp [hq]), hk h2⟩
    refine he.trans (h.silent k x fun h2 y hy => hk h2 y ?_)
    rw [hq] at *
    exact List.mem_cons_of_mem _ (hq' ▸ hy)
  · rw [hq, List.map_cons, List.nodup_cons] at hn
    intro y hy r' hr'
    rcases List.mem_cons.1 hy with rfl | hy
    · obtain rfl : r = r' := by simpa [hr] using hr'
      refine h.silent 4 y.seat (fun _ z hz hs => hn.1 ?_) _
        (endEntry_mem .refusedAtGrant (.refusal r) (ha y (by simp [hq]))) rfl
      rw [hq'] at hz
      rw [← hs]
      exact List.mem_map_of_mem hz
    · have := h.told (by rw [hq']; exact hn.2) (fun z hz => by
        rw [(endEntry_moves .refusedAtGrant (.refusal r) e s).seatsKept.attachment z.seat]
        exact ha z (by rw [hq]; exact List.mem_cons_of_mem _ (hq' ▸ hz))) y hy r'
        (by rwa [grantInputs_endEntry])
      rwa [endEntry_stamp] at this

/-- R45: past the entries whose grant is refused. -/
theorem serveEntries_refused {gone rest : List Entry} (hq : s.queue = gone ++ rest)
    (hr : ∀ e ∈ gone, Refused s e) :
    ∃ u, serveEntries (gone ++ rest) s = serveEntries rest u ∧ Dropped gone s u ∧ u.queue = rest := by
  induction gone generalizing s with
  | nil => exact ⟨s, rfl, .refl s, hq⟩
  | cons e gone ih =>
    obtain ⟨r, hre⟩ := hr e List.mem_cons_self
    obtain ⟨u, hu, hd, huq⟩ := ih (s := endEntry .refusedAtGrant (.refusal r) e s) (endEntry_head_queue hq)
      fun y hy => by simpa only [Refused, grantInputs_endEntry] using hr y (List.mem_cons_of_mem _ hy)
    refine ⟨u, ?_, hd.cons hq hre, huq⟩
    rw [← hu, List.cons_append, serveEntries, hre]

/-- A serving station, with no ID pending, considers the queue. -/
structure Serves (s : State) : Prop where
  mode    : s.mode = .serving
  inhibit : s.pins.txInhibit = false
  pending : s.ident.pending = false

theorem serve_grant {gone more : List Entry} {e : Entry} {fig : Figures} {h : Option Nat} {g : Grant}
    (hs : Serves s) (hq : s.queue = gone ++ e :: more) (hr : ∀ x ∈ gone, Refused s x)
    (hg : computeGrant (grantInputs s e.member) e.req = .grant fig h g) :
    ∃ u, serve s = makeHolder e g u ∧ Dropped gone s u ∧ u.queue = e :: more := by
  obtain ⟨u, hu, hd, huq⟩ := serveEntries_refused hq hr
  refine ⟨u, ?_, hd, huq⟩
  rw [serve_queue s hs.mode hs.inhibit hs.pending, hq, hu, serveEntries, hd.inputs, hg]

theorem serve_short {gone more : List Entry} {e : Entry} {fig : Figures} {h : Nat}
    (hs : Serves s) (hq : s.queue = gone ++ e :: more) (hr : ∀ x ∈ gone, Refused s x)
    (hg : computeGrant (grantInputs s e.member) e.req = .short fig h) :
    ∃ u, serve s = setFloorState .resting u ∧ Dropped gone s u ∧ u.queue = e :: more := by
  obtain ⟨u, hu, hd, huq⟩ := serveEntries_refused hq hr
  refine ⟨u, ?_, hd, huq⟩
  rw [serve_queue s hs.mode hs.inhibit hs.pending, hq, hu, serveEntries, hd.inputs, hg]

theorem serve_none {gone : List Entry} (hs : Serves s) (hq : s.queue = gone) (hr : ∀ x ∈ gone, Refused s x) :
    ∃ u, serve s = setFloorState .idle u ∧ Dropped gone s u ∧ u.queue = [] := by
  obtain ⟨u, hu, hd, huq⟩ := serveEntries_refused (rest := []) (by simpa using hq) hr
  refine ⟨u, ?_, hd, huq⟩
  rw [serve_queue s hs.mode hs.inhibit hs.pending, hq, ← List.append_nil gone, hu, serveEntries]

/-! ### The new holder -/

theorem makeHolder_queue {e : Entry} {g : Grant} {more : List Entry} (hq : u.queue = e :: more) :
    (makeHolder e g u).queue = more := by
  simp [makeHolder, removeEntry_head hq]

@[simp] theorem makeHolder_lastMode (e : Entry) (g : Grant) (u : State) :
    (makeHolder e g u).ident.lastMode = some g.mode := by
  simp [makeHolder]

/-- R46: SETTING is entered with the head's grant. -/
theorem makeHolder_entered {e : Entry} {g : Grant} (h : s.floor.state ≠ .setting ∨ s.floor.holder ≠ some ⟨e.seat, e.member⟩) :
    Entered s (makeHolder e g u) g :=
  ⟨by simp [makeHolder_floor], by simp [makeHolder_floor, Floor.begun], by simp [makeHolder_floor, Floor.begun],
    by simpa [makeHolder_floor, Floor.begun] using h⟩

theorem Entered.of_floor {d d' : State} {g : Grant} (h : Entered s d g) (hf : d'.floor = d.floor) :
    Entered s d' g :=
  ⟨by rw [hf]; exact h.setting, by rw [hf]; exact h.grant, by rw [hf]; exact h.placed,
    by rw [hf]; exact h.entered⟩

/-- R46: what the head becomes the holder with. -/
structure HeadHolds (b t : State) (e : Entry) (g : Grant) (more : List Entry) : Prop where
  taken  : GrantTaken b t g
  holder : t.floor.holder = some ⟨e.seat, e.member⟩
  grant  : t.floor.grant = some g
  queue  : t.queue = more

/-- R44 to R46: an act whose deed gives the floor to the head; `b` stands for the station as SETTING finds it,
and `d` for the deed's end. -/
theorem headHolds {b d : State} {e : Entry} {g : Grant} {more : List Entry} (hq : u.queue = e :: more)
    (hs : s.floor.state ≠ .setting ∨ s.floor.holder ≠ some ⟨e.seat, e.member⟩)
    (hf : d.floor = (makeHolder e g u).floor) (hdq : d.queue = (makeHolder e g u).queue)
    (hw : d.bus.floorWork = b.bus.floorWork) (hi : d.bus.inFlight = b.bus.inFlight)
    (hb : d.bus.believed = b.bus.believed) (hst : d.station = b.station) (hm : d.mode = b.mode)
    (hp : d.pins = b.pins) (hk : d.keying.state = b.keying.state) (ht : ¬ TuneFaults b g) :
    HeadHolds b (closeAct s (finishSetup s d)) e g more ∧ Taken d (finishSetup s d) g := by
  have hen : Entered s d g := (makeHolder_entered hs).of_floor hf
  have hta : Taken d (finishSetup s d) g := hen.taken fun e' => ht
    ⟨(AtSetting.congr hw hi hb hst).1 e'.1, e'.2.1, by rw [← hp]; exact e'.2.2.1, by rw [← hb]; exact e'.2.2.2⟩
  refine ⟨⟨?_, ?_, ?_, ?_⟩, hta⟩
  · exact (hta.taken.congr hw.symm hi.symm hb.symm hst.symm hm.symm (by rw [hp]) hk.symm).close s
  · simp [hta.holder, hf, makeHolder_floor, Floor.begun]
  · simp [hta.grant, hf, makeHolder_floor, Floor.begun]
  · simp [hta.queue, hdq, makeHolder_queue hq]

end

end Sys2Proof.Machine

/-! SUPPORT. What an act comes to whose deed ends with a serving point (R44 to R47, R70). -/

namespace Sys2Proof.Machine

/-- Two states that the floor, the host and the work list do not tell apart. -/
structure Alike (d u : State) : Prop where
  floor    : d.floor = u.floor
  queue    : d.queue = u.queue
  work     : d.bus.floorWork = u.bus.floorWork
  flight   : d.bus.inFlight = u.bus.inFlight
  believed : d.bus.believed = u.bus.believed
  station  : d.station = u.station
  mode     : d.mode = u.mode
  pins     : d.pins = u.pins
  keying   : d.keying.state = u.keying.state
  notices  : ∀ x : SeatNo, d.seats[x].notices = u.seats[x].notices
  ram      : d.ram = u.ram

/-- A state at its serving point, in which the station still stands as it does in `b`. -/
structure ServePoint (b w : State) : Prop where
  holder   : w.floor.holder = none
  work     : w.bus.floorWork = b.bus.floorWork
  flight   : w.bus.inFlight = b.bus.inFlight
  believed : w.bus.believed = b.bus.believed
  station  : w.station = b.station
  mode     : w.mode = b.mode
  pins     : w.pins = b.pins
  keying   : w.keying.state = b.keying.state
  pending  : w.ident.pending = b.ident.pending
  stamp    : w.stamp = b.stamp
  ram      : w.ram = b.ram
  inputs   : ∀ m, grantInputs w m = grantInputs b m
  attached : ∀ x : SeatNo, w.seats[x].attachment = b.seats[x].attachment

section

variable {s b w d : State}

theorem Alike.refl (d : State) : Alike d d := ⟨rfl, rfl, rfl, rfl, rfl, rfl, rfl, rfl, rfl, fun _ => rfl, rfl⟩

theorem Alike.silent {u : State} (h : Alike d u) (k : Nat) (x : SeatNo) : Silent k x u d := fun n hn _ => by
  rwa [h.notices x]

theorem ServePoint.refused (h : ServePoint b w) {l : List Entry} (hr : ∀ x ∈ l, Refused b x) :
    ∀ x ∈ l, Refused w x := fun x hx => by simpa only [Refused, h.inputs] using hr x hx

theorem ServePoint.serves (h : ServePoint b w) (hm : b.mode = .serving) (hi : b.pins.txInhibit = false)
    (hp : b.ident.pending = false) : Serves w :=
  ⟨h.mode.trans hm, by rw [h.pins]; exact hi, h.pending.trans hp⟩

/-- R45, R46: the entry behind those whose grant is refused becomes the holder. -/
structure ServedHead (s b w d : State) (gone : List Entry) (e : Entry) (g : Grant) (more : List Entry) : Prop where
  holds  : HeadHolds b (closeAct s (finishSetup s d)) e g more
  taken  : Taken d (finishSetup s d) g
  /-- R45, R60: those refused on the way have been told. -/
  told   : (w.queue.map Entry.seat).Nodup →
    (∀ x ∈ w.queue, w.seats[x.seat].attachment.isSome = true) →
    ∀ x ∈ gone, ∀ r, computeGrant (grantInputs b x.member) x.req = .refusal r →
      Noticed b (closeAct s (finishSetup s d)) x.seat (.ended .refusedAtGrant (.refusal r) false x.member 0)

theorem noticed_congr {t : State} {x : SeatNo} {body : NoticeBody} (hst : b.stamp = s.stamp) (hr : b.ram = s.ram)
    (h : Noticed s t x body) : Noticed b t x body := by
  have hp : partHeld b (.report x) = partHeld s (.report x) := by simp [partHeld, hr]
  unfold Noticed at *
  rwa [hp, hst]

theorem servedHead {gone more : List Entry} {e : Entry} {fig : Figures} {h : Option Nat} {g : Grant}
    (hw : ServePoint b w) (hs : Serves w) (hq : w.queue = gone ++ e :: more) (hr : ∀ x ∈ gone, Refused b x)
    (hg : computeGrant (grantInputs b e.member) e.req = .grant fig h g) (ht : ¬ TuneFaults b g)
    (hd : Alike d (serve w)) (hst : s.floor.state ≠ .setting) : ServedHead s b w d gone e g more := by
  obtain ⟨u, hu, hgo, huq⟩ := serve_grant hs hq (hw.refused hr) (by rw [hw.inputs]; exact hg)
  rw [hu] at hd
  obtain ⟨hh, hta⟩ := headHolds (s := s) (b := b) (d := d) huq (.inl hst) hd.floor hd.queue
    (by rw [hd.work]; simp [hgo.bus, hw.work]) (by rw [hd.flight]; simp [hgo.bus, hw.flight])
    (by rw [hd.believed]; simp [hgo.bus, hw.believed]) (by rw [hd.station]; simp [hgo.station, hw.station])
    (by rw [hd.mode]; simp [hgo.mode, hw.mode]) (by rw [hd.pins]; simp [hgo.pins, hw.pins])
    (by rw [hd.keying]; simp [hgo.keying, hw.keying]) ht
  refine ⟨hh, hta, fun hn ha x hx r hxr => ?_⟩
  have hoff : OffFloor x.seat u := by
    refine ⟨by simp [hgo.floor, hw.holder], fun y hy hxy => ?_⟩
    rw [huq] at hy
    rw [hq, List.map_append, List.nodup_append] at hn
    exact hn.2.2 x.seat (List.mem_map_of_mem hx) y.seat (List.mem_map_of_mem hy) hxy.symm
  have hm := hgo.told hn ha x hx r (by rw [hw.inputs]; exact hxr)
  have hm' : (⟨.ended .refusedAtGrant (.refusal r) false x.member 0, w.stamp⟩ : Notice)
      ∈ d.seats[x.seat].notices :=
    hd.silent 4 x.seat _ (Spared.makeHolder (g := g) (k := 4) ⟨by simp, by simp, fun _ => hoff⟩ (by simp [huq]) _ hm rfl) rfl
  have hram : d.ram = w.ram := by rw [hd.ram]; simp [hgo.ram]
  refine noticed_congr (s := w) hw.stamp.symm hw.ram.symm ?_
  exact closeAct_noticed (hta.silent 4 x.seat (by simp) (by simp) _ hm' rfl) (by simp [partHeld, hram])

/-- R45: short of headroom, the floor rests with the entry at its head. -/
theorem servedShort {gone more : List Entry} {e : Entry} {fig : Figures} {h : Nat}
    (hw : ServePoint b w) (hs : Serves w) (hq : w.queue = gone ++ e :: more) (hr : ∀ x ∈ gone, Refused b x)
    (hg : computeGrant (grantInputs b e.member) e.req = .short fig h) (hd : Alike d (serve w)) :
    d.floor = { w.floor with state := .resting } ∧ d.queue = e :: more := by
  obtain ⟨u, hu, hgo, huq⟩ := serve_short hs hq (hw.refused hr) (by rw [hw.inputs]; exact hg)
  rw [hu] at hd
  exact ⟨by rw [hd.floor, setFloorState_floor, hgo.floor], by rw [hd.queue]; simp [huq]⟩

/-- R45: with everybody refused the floor stands IDLE. -/
theorem servedNone {gone : List Entry} (hw : ServePoint b w) (hs : Serves w) (hq : w.queue = gone)
    (hr : ∀ x ∈ gone, Refused b x) (hd : Alike d (serve w)) :
    d.floor = { w.floor with state := .idle } ∧ d.queue = [] := by
  obtain ⟨u, hu, hgo, huq⟩ := serve_none hs hq (hw.refused hr)
  rw [hu] at hd
  exact ⟨by rw [hd.floor, setFloorState_floor, hgo.floor], by rw [hd.queue]; simp [huq]⟩

/-- R45: while CONFIGURING, with TX_INHIBIT asserted, or with nobody waiting and nothing pending, the serving
point leaves the floor IDLE. -/
theorem servedIdle (h : w.mode = .configuring ∨ w.pins.txInhibit = true
      ∨ w.queue = [] ∧ w.ident.pending = false) (hd : Alike d (serve w)) :
    d.floor = { w.floor with state := .idle } ∧ d.queue = w.queue := by
  have hu : serve w = setFloorState .idle w := by
    rcases h with h | h | ⟨h, h'⟩
    · simp [serve, h]
    · exact serve_inhibited w h
    · exact serve_empty w h h'
  rw [hu] at hd
  exact ⟨by rw [hd.floor]; simp, by rw [hd.queue]; simp⟩

/-! ### Entering IDENT -/

/-- R64: the entry into IDENT. -/
theorem identEntered_of (hw : w.bus.floorWork = s.bus.floorWork)
    (hi : w.bus.inFlight = s.bus.inFlight) (hb : w.bus.believed = s.bus.believed) (hs : w.station = s.station)
    (hf : d.floor = (enterIdent w).floor) (hd : d.bus.floorWork = (enterIdent w).bus.floorWork) (before : State) :
    IdentEntered s (closeAct before d) := by
  obtain ⟨-, hwork, -⟩ := closeAct_work before d
  have hst : standbyOutstanding (w.withFloor { w.floor with identAsked := false }) = standbyOutstanding s := by
    simp [standbyOutstanding, hw, hi]
  have hwi : (enterIdent w).bus.floorWork = if NeedsStandby s ∧ standbyOutstanding s = false
      then s.bus.floorWork ++ [⟨.standby, .standby, 0, 0, 0⟩] else s.bus.floorWork := by
    rw [enterIdent_ready]
    simp only [setFloorState_frame, identReady, hst]
    by_cases hn : NeedsStandby s ∧ standbyOutstanding s = false
    · rw [if_pos hn, if_pos]
      · simp [placeFloorTxn, hw, newTxn]
      · simpa [hs, hb, hi, hn.2] using hn.1
    · rw [if_neg hn, if_neg]
      · simp [hw]
      · intro hc
        simp only [Bool.and_eq_true, Bool.not_eq_true', Bool.or_eq_true, bne_iff_ne, ne_eq, withFloor_bus, withFloor_station, hs, hb, hi] at hc
        exact hn ⟨⟨hc.1.1, hc.2⟩, hc.1.2⟩
  refine ⟨by simp [hf], fun hn ho => ?_, fun hn => ?_⟩
  · rw [hwork, hd, hwi, if_pos ⟨hn, ho⟩]
  · rw [hwork, hd, hwi, if_neg]
    rintro ⟨h1, h2⟩
    rcases hn with hn | hn
    · exact hn h1
    · rw [h2] at hn
      cases hn

/-- R64: a serving point with an ID pending. -/
theorem ServePoint.identEntered (hw : ServePoint s w) (hm : s.mode = .serving) (hi : s.pins.txInhibit = false)
    (hp : s.ident.pending = true) (hd : Alike d (serve w)) :
    d.floor.state = .ident ∧ d.queue = w.queue ∧ ∀ before, IdentEntered s (closeAct before d) := by
  rw [serve_pending w (hw.mode.trans hm) (by rw [hw.pins]; exact hi) (hw.pending.trans hp)] at hd
  exact ⟨by simp [hd.floor], by simp [hd.queue],
    identEntered_of hw.work hw.flight hw.believed hw.station hd.floor hd.work⟩

end

end Sys2Proof.Machine

/-! O47, O48: the panel's messages (R66 to R68, R148, R149). -/

namespace Sys2Proof.Machine

section

variable {s : State}

/-! ### What a message's frame leaves -/

/-- R148: a change of the engine's own fields, and of the inbound buffer. -/
structure EngineMove (b b' : Bus) : Prop where
  inFlight  : b'.inFlight = b.inFlight
  floorWork : b'.floorWork = b.floorWork
  pollWork  : b'.pollWork = b.pollWork
  cellWork  : b'.cellWork = b.cellWork
  believed  : b'.believed = b.believed

/-- The engine alone has moved. -/
def EngineMoved (s t : State) : Prop := ∃ b, EngineMove s.bus b ∧ t = s.withBus b

theorem EngineMoved.withBus {b : Bus} (h : EngineMove s.bus b) : EngineMoved s (s.withBus b) := ⟨b, h, rfl⟩

theorem EngineMoved.refl (s : State) : EngineMoved s s := ⟨s.bus, ⟨rfl, rfl, rfl, rfl, rfl⟩, rfl⟩

theorem EngineMoved.trans {t u : State} (h : EngineMoved s t) (h' : EngineMoved t u) : EngineMoved s u := by
  obtain ⟨b, hb, rfl⟩ := h
  obtain ⟨c, hc, rfl⟩ := h'
  exact ⟨c, ⟨hc.inFlight.trans hb.inFlight, hc.floorWork.trans hb.floorWork, hc.pollWork.trans hb.pollWork,
    hc.cellWork.trans hb.cellWork, hc.believed.trans hb.believed⟩, rfl⟩

theorem openAnew_moved (s : State) : EngineMoved s (openAnew s) := by
  unfold openAnew
  split
  · exact .withBus ⟨rfl, rfl, rfl, rfl, rfl⟩
  · exact .refl s

theorem closeFrame_moved (f : CommandFrame) (s : State) : EngineMoved s (closeFrame f s) := by
  unfold closeFrame
  split
  · exact .withBus ⟨rfl, rfl, rfl, rfl, rfl⟩
  · exact .refl s

theorem fillInbound_moved (m : Option PanelMessage) (s : State) : EngineMoved s (fillInbound m s) := by
  unfold fillInbound
  split
  · exact .withBus ⟨rfl, rfl, rfl, rfl, rfl⟩
  · exact .refl s

theorem hear_moved (b : Option Byte) (s : State) : EngineMoved s (hear b s) := by
  unfold hear
  split <;> exact .withBus ⟨rfl, rfl, rfl, rfl, rfl⟩

theorem holdFrame_moved (f : CommandFrame) (s : State) : EngineMoved s (holdFrame f s) := by
  unfold holdFrame
  split
  · exact .withBus ⟨rfl, rfl, rfl, rfl, rfl⟩
  · exact hear_moved _ s

theorem foreignFrame_moved (f : CommandFrame) (s : State) : EngineMoved s (foreignFrame f s) := by
  unfold foreignFrame
  split
  · split
    · exact holdFrame_moved f s
    · exact (closeFrame_moved f s).trans (fillInbound_moved _ _)
  · exact .refl s

/-- R148, R149: a message that reaches the floor acts with its frame closed, and leaves the buffer empty. -/
theorem panelMessage_arrives {m : PanelMessage} (f : State → State) (ha : Arrives m s) :
    ∃ b, EngineMove s.bus b ∧ panelMessage m f s = emptyInbound (f (s.withBus b)) := by
  have hm : ∃ t, EngineMoved s t ∧ panelMessage m f s = emptyInbound (f t) := by
    by_cases hm : s.bus.inbound = some m
    · exact ⟨s, .refl s, by simp [panelMessage, hm]⟩
    · have hn : s.bus.inbound = none := ha.resolve_left hm
      exact ⟨_, ((openAnew_moved s).trans (closeFrame_moved (panelFrame m s) _)).trans
        (fillInbound_moved (some m) _), by simp [panelMessage, hn]⟩
  obtain ⟨t, ⟨b, hb, rfl⟩, he⟩ := hm
  exact ⟨b, hb, he⟩

theorem EngineMove.engineOnly {b : Bus} (h : EngineMove s.bus b) : EngineOnly s (s.withBus b) :=
  (EngineOnly.refl s).withBus ⟨h.inFlight, h.floorWork, h.cellWork⟩ h.believed

theorem emptyInbound_engineOnly (s : State) : EngineOnly s (emptyInbound s) :=
  (EngineOnly.refl s).withBus ⟨rfl, rfl, rfl⟩ rfl

/-! ### GIVE and RESUME -/

/-- R67: both hand the station back from the state in which it is held. -/
theorem exec_giveBack {c : Instr} {m : PanelMessage} {held : FloorState}
    (h : (c, m, held) ∈ [(Instr.give, PanelMessage.give, FloorState.panelHeld), (.resume, .resume, .shut)]) :
    (held = .panelHeld ∨ held = .shut)
      ∧ ∃ f : State → State, (∀ s, exec c s = .next (act (panelMessage m f) s))
        ∧ ∀ w, f w = if w.floor.state = held then enterIdle w else w := by
  simp only [List.mem_cons, Prod.mk.injEq, List.not_mem_nil, or_false] at h
  rcases h with ⟨rfl, rfl, rfl⟩ | ⟨rfl, rfl, rfl⟩
  · exact ⟨.inl rfl, giveStation, fun _ => rfl, fun _ => rfl⟩
  · exact ⟨.inr rfl, resumeStation, fun _ => rfl, fun _ => rfl⟩

/-- R67: the floor as it stands IDLE, before its serving point. -/
theorem givenBack {b : Bus} (h : EngineMove s.bus b) (hh : s.floor.holder = none) :
    ServePoint s (setFloorState .idle (s.withBus b)) where
  holder := by simpa using hh
  keying := by simp
  work := by simpa using h.floorWork
  flight := by simpa using h.inFlight
  believed := by simpa using h.believed
  pending := by simp
  mode := by simp
  pins := by simp
  station := by simp
  stamp := by simp
  ram := by simp
  inputs m := by simp [grantInputs, memberOf]
  attached x := (setFloorState_seatsKept .idle (s.withBus b)).attachment x

end

/-! ### A change of state with the panel -/

/-- R70: entering a panel state is told to every ATTACHED seat. -/
theorem setFloorState_panelTold {s : State} {new : FloorState} {x : SeatNo} (hs : s.floor.state ≠ new)
    (hn : new.panel = true) (ha : s.seats[x].attachment.isSome = true) :
    (⟨.panel (new == .panelHeld) (new == .shut), s.stamp⟩ : Notice) ∈ (setFloorState new s).seats[x].notices := by
  rw [setFloorState_seats, if_neg hs, if_pos (.inr hn)]
  have := Seat.mem_receive (⟨.panel (new == .panelHeld) (new == .shut), s.stamp⟩ : Notice)
    ((s.seats[x]).receive ⟨.floor new (holderSeat s), s.stamp⟩) (by simpa using ha)
  simpa using this

theorem unkey_onward (s : State) : Onward s (unkey s) :=
  ⟨fun _ hx => hx.of_eq (by simp) (by simp),
    fun hc => ⟨by simp, by simpa using hc.hang, by simpa using hc.rejoin, by simpa using hc.waits,
      by rw [unkey_floorWork]; exact hc.setup, by simpa using hc.granted⟩,
    fun hs => standbyOutstanding_of_bus hs (unkey_floorWork s) (unkey_inFlight s),
    fun _ _ _ => .of_seats (by simp), by simp⟩

theorem emptyInbound_onward (s : State) : Onward s (emptyInbound s) :=
  .of_eq rfl rfl rfl rfl rfl (fun _ => rfl) rfl

theorem TurnYet.withBus {s : State} {h : Holder} (hl : FloorLaw s) (hh : s.floor.holder = some h) {b : Bus}
    (hb : EngineMove s.bus b) : TurnYet s (s.withBus b) h :=
  ⟨hh, rfl, attachment_isSome (hl.holder_attached h hh), hl.holder_not_queued h hh, rfl,
    congrArg Believed.amp hb.believed, rfl, rfl⟩

/-! ### TAKE -/

/-- R66: the turn that TAKE ends, and the station it unkeys. -/
def panelCleared (c : EndCause) (s : State) : State :=
  if s.floor.holder.isSome then endTurnCore c .none s else unkey s

theorem takeStation_eq {s : State} (hp : s.floor.state ≠ .panelHeld) (hs : s.floor.state ≠ .shut) :
    takeStation s = setFloorState .panelHeld (panelCleared .panelHeld s) := by
  have : s.floor.state.panel = false := by
    cases h : s.floor.state <;> simp_all [FloorState.panel]
  simp only [takeStation, this, panelCleared]
  rfl

theorem takeStation_panel {s : State} (h : s.floor.state = .panelHeld ∨ s.floor.state = .shut) :
    takeStation s = s := by
  rcases h with h | h <;> simp [takeStation, h, FloorState.panel]

/-- What TAKE leaves before the state changes. -/
theorem panelCleared_facts (s : State) : (panelCleared .panelHeld s).floor.state = s.floor.state
    ∧ (panelCleared .panelHeld s).floor.holder = none
    ∧ (panelCleared .panelHeld s).keying.state = .unkeyed ∧ (panelCleared .panelHeld s).queue = s.queue
    ∧ (panelCleared .panelHeld s).ident.pending = s.ident.pending
    ∧ (panelCleared .panelHeld s).bus.floorWork
      = s.bus.floorWork.filter (fun x => x.owner != .setup || s.floor.holder.isNone)
    ∧ (∀ x : SeatNo, (panelCleared .panelHeld s).seats[x].attachment = s.seats[x].attachment)
    ∧ (panelCleared .panelHeld s).stamp = s.stamp ∧ (panelCleared .panelHeld s).ram = s.ram := by
  unfold panelCleared
  split
  · next h =>
    refine ⟨by simp [Floor.cleared], by simp [Floor.cleared], by simp, by simp, ?_, ?_, ?_, by simp, by simp⟩
    · simp [endTurnCore, unkey_pending]
    · rw [endTurnCore_bus, closeSetup_eq, if_neg (by simp [standbyCalled])]
      obtain ⟨x, hx⟩ := Option.isSome_iff_exists.1 h
      simp [cancelSetup, unkey_floorWork, hx]
    · exact (endTurnCore_seatsKept ..).attachment
  · next h =>
    have hn : s.floor.holder = none := by simpa using h
    exact ⟨by simp, by simpa using hn, by simp, by simp, unkey_pending s, by simp [unkey_floorWork, hn], by simp,
      by simp, by simp⟩

/-! ### HALT -/

/-- R68: the floor with its turn and its queue ended. -/
def halted (s : State) : State := if s.floor.holder.isSome then endTurnCore .shut .none s else s

theorem haltStation_eq (s : State) : haltStation s
    = setFloorState .shut (closeWindow (unkey (endEntries .shut (halted s).queue (halted s)))) := rfl

theorem halted_facts (s : State) : (halted s).floor.state = s.floor.state ∧ (halted s).floor.holder = none
    ∧ (halted s).queue = s.queue ∧ (halted s).stamp = s.stamp ∧ (halted s).ram = s.ram
    ∧ (∀ x : SeatNo, (halted s).seats[x].attachment = s.seats[x].attachment) := by
  unfold halted
  split
  · exact ⟨by simp [Floor.cleared], by simp [Floor.cleared], by simp, by simp, by simp,
      (endTurnCore_seatsKept ..).attachment⟩
  · next h => exact ⟨rfl, by simpa using h, rfl, rfl, rfl, fun _ => rfl⟩

/-! ### A message that finds another in the buffer -/

theorem panelFrame_address (m : PanelMessage) (s : State) : (panelFrame m s).address.getLsbD 0 = false
    ∧ accepts s.station (panelFrame m s).address = true :=
  ⟨addressByteOf_direction _ false, accepts_own s.station false⟩

theorem openAnew_notDriving {s : State} (h : notDriving s = true) :
    openAnew s = s.withBus { s.bus with unfollowed := none } := if_pos h

/-- R149: a command frame that the part takes on is held at its address byte while the buffer is occupied. -/
theorem foreignFrame_held {s : State} {f : CommandFrame} {m : PanelMessage} (hn : notDriving s = true)
    (hb : s.bus.inbound = some m) (ht : takesAddress s f.address = true) (hd : f.address.getLsbD 0 = false) :
    foreignFrame f s = holdFrame f s := by
  rw [foreignFrame, if_pos hn, if_pos (by rw [hb, ht, hd]; rfl)]

theorem holdFrame_follows {s : State} {f : CommandFrame} (h : follows s f.address = true) :
    holdFrame f s = s.withBus { s.bus with
      engine := .following, attemptOpen := false, hold := some (s.bus.hold.getD 10)
      unfollowed := none, acked := 1, closed := false } := if_pos h

/-- R149: a command frame that opens anew is held from its address byte on. -/
theorem holdFrame_opens {s : State} {f : CommandFrame} {m : PanelMessage} (h : follows s f.address = false)
    (ha : accepts s.station f.address = true) (hd : f.address.getLsbD 0 = false) (hb : s.bus.inbound = some m) :
    holdFrame f s = s.withBus { s.bus with
      engine := .following, attemptOpen := false, hold := some 10, followed := some ⟨f.address, []⟩
      unfollowed := none, acked := 1, closed := false } := by
  have hf : (some f.address).filter (accepts s.station) = some f.address := by rw [Option.filter_some, if_pos ha]
  rw [holdFrame, if_neg (by simp [h]), hear, hf]
  simp only [holdFor, takeOn, hd, hb, Option.isSome_some, Bool.not_false, Bool.and_self, if_true,
    Bool.false_eq_true, if_false]

theorem holdFrame_openAnew {s : State} {f : CommandFrame} {m : PanelMessage}
    (ha : accepts s.station f.address = true) (hd : f.address.getLsbD 0 = false) (hb : s.bus.inbound = some m) :
    holdFrame f (s.withBus { s.bus with unfollowed := none }) = holdFrame f s := by
  cases h : follows s f.address with
  | true =>
    rw [holdFrame_follows h, holdFrame_follows (s := s.withBus { s.bus with unfollowed := none }) h]
    rfl
  | false =>
    rw [holdFrame_opens h ha hd hb,
      holdFrame_opens (s := s.withBus { s.bus with unfollowed := none }) h ha hd hb]
    rfl

/-- R149: the panel's frame with another message in the buffer. -/
theorem panelMessage_held {m other : PanelMessage} {s : State} (f : State → State)
    (hb : s.bus.inbound = some other) (ho : other ≠ m) :
    panelMessage m f s = if notDriving s then holdFrame (panelFrame m s) s else s := by
  obtain ⟨hd, ha⟩ := panelFrame_address m s
  rw [panelMessage, hb, if_neg (by simpa using ho), if_neg (by simp)]
  split
  · next hn =>
    have ht : takesAddress (s.withBus { s.bus with unfollowed := none }) (panelFrame m s).address = true := by
      simp [takesAddress, ha]
    rw [openAnew_notDriving hn, foreignFrame_held (s := s.withBus { s.bus with unfollowed := none }) hn hb ht hd,
      holdFrame_openAnew ha hd hb]
  · next hn => rw [openAnew, if_neg hn, foreignFrame, if_neg hn]

theorem foreignFrame_panel {m other : PanelMessage} {s : State} (hb : s.bus.inbound = some other)
    (hu : s.bus.unfollowed ≠ some (panelFrame m s).address) :
    foreignFrame (panelFrame m s) s = if notDriving s then holdFrame (panelFrame m s) s else s := by
  obtain ⟨hd, ha⟩ := panelFrame_address m s
  split
  · next hn => exact foreignFrame_held hn hb (by simp [takesAddress, ha, hu]) hd
  · next hn => rw [foreignFrame, if_neg hn]

theorem exec_panel {c : Instr} {m : PanelMessage}
    (h : (c, m) ∈ [(Instr.take, PanelMessage.take), (.give, .give), (.halt, .halt), (.resume, .resume)]) :
    ∃ f : State → State, ∀ s, exec c s = .next (act (panelMessage m f) s) := by
  simp only [List.mem_cons, Prod.mk.injEq, List.not_mem_nil, or_false] at h
  rcases h with ⟨rfl, rfl⟩ | ⟨rfl, rfl⟩ | ⟨rfl, rfl⟩ | ⟨rfl, rfl⟩
  · exact ⟨takeStation, fun _ => rfl⟩
  · exact ⟨giveStation, fun _ => rfl⟩
  · exact ⟨haltStation, fun _ => rfl⟩
  · exact ⟨resumeStation, fun _ => rfl⟩

theorem holdFrame_engineOnly (f : CommandFrame) (s : State) : EngineOnly s (holdFrame f s) := by
  obtain ⟨b, hb, he⟩ := holdFrame_moved f s
  rw [he]
  exact hb.engineOnly

/-- A command that only moves the engine leaves the floor as it was. -/
theorem gives_engine {c : Instr} {f : State → State} {s : State} {P : State → Prop}
    (hc : exec c s = .next (act f s)) (hr : Running s) (hd : EngineOnly s (f s))
    (hP : (∀ p : Part, p ≠ .engine → Kept s (closeAct s (f s)) p) → P (closeAct s (f s))) : Gives (exec c s) P := by
  have hf : (f s).floor = s.floor := hd .floor (by simp)
  exact gives_act hc hr (by rw [hf]) (by rw [hf]) (hP (hd.closeAct s))

theorem closeAct_inbound (before s : State) : (closeAct before s).bus.inbound = s.bus.inbound := by simp

/-- The act of a message that finds another in the buffer. -/
theorem panel_otherHeld {c : Instr} {m other : PanelMessage} {s : State} (hr : Running s)
    (h : (c, m) ∈ [(Instr.take, PanelMessage.take), (.give, .give), (.halt, .halt), (.resume, .resume)])
    (hb : s.bus.inbound = some other) (ho : other ≠ m) :
    (s.bus.unfollowed ≠ some (panelFrame m s).address →
      exec c s = exec (.foreignOpening (.command (panelFrame m s))) s)
    ∧ (s.bus.engine ≠ .recovering → s.bus.attemptOpen = false → s.bus.hold = none →
      Gives (exec c s) fun t =>
        t.bus.inbound = some other ∧ t.bus.engine = .following ∧ t.bus.hold = some 10
          ∧ t.bus.acked = 1 ∧ ∀ p : Part, p ≠ .engine → Kept s t p) := by
  obtain ⟨f, hc⟩ := exec_panel h
  obtain ⟨hd, ha⟩ := panelFrame_address m s
  refine ⟨fun hu => ?_, fun he hop hh => ?_⟩
  · have hx : exec (.foreignOpening (.command (panelFrame m s))) s
        = .next (act (foreignOpening (.command (panelFrame m s))) s) := rfl
    have hm : panelMessage m f s = foreignOpening (.command (panelFrame m s)) s :=
      (panelMessage_held f hb ho).trans (foreignFrame_panel hb hu).symm
    rw [hc, hx, act_running hr, act_running hr, hm]
  · have hm : panelMessage m f s = holdFrame (panelFrame m s) s := by
      rw [panelMessage_held f hb ho, if_pos (notDriving_of he hop)]
    refine gives_engine (hc s) hr (hm ▸ holdFrame_engineOnly _ s) fun hk => ?_
    obtain ⟨hen, -, -, -, -, hin, hho, -, -, hac, -⟩ := closeAct_engine s (panelMessage m f s)
    rw [hen, hin, hho, hac]
    refine ⟨?_, ?_, ?_, ?_, hk⟩ <;> rw [hm]
    all_goals
      cases hfo : follows s (panelFrame m s).address with
      | true => rw [holdFrame_follows hfo]; simp [hb, hh]
      | false => rw [holdFrame_opens hfo ha hd hb]; simp [hb]

/-! ### GIVE and RESUME -/

theorem emptyInbound_alike (s : State) : Alike (emptyInbound s) s :=
  ⟨rfl, rfl, rfl, rfl, rfl, rfl, rfl, rfl, rfl, fun _ => rfl, rfl⟩

/-- Settles O48: GIVE in LOCAL and RESUME in SHUT are a serving point in IDLE. -/
theorem panelGivesAndResumes : Obligations.PanelGivesAndResumes := by
  unfold Obligations.PanelGivesAndResumes
  intro c m held s hr hl hcm ha
  obtain ⟨hheld, f, hc, hf⟩ := exec_giveBack hcm
  obtain ⟨b, hb, hp⟩ := panelMessage_arrives f ha
  refine ⟨fun hn => ?_, fun hs => ?_⟩
  · have he : panelMessage m f s = emptyInbound (s.withBus b) := by
      rw [hp, hf, if_neg (show (s.withBus b).floor.state ≠ held from hn)]
    exact gives_engine (hc s) hr (he ▸ hb.engineOnly.withBus ⟨rfl, rfl, rfl⟩ rfl) id
  have hh : s.floor.holder = none := by
    have := hl.holder_state
    rcases hheld with h | h <;> simpa [hs, h, FloorState.hasHolder] using this
  have hw := givenBack hb hh
  have hq : (setFloorState .idle (s.withBus b)).queue = s.queue := by simp
  generalize hwe : setFloorState .idle (s.withBus b) = w at hw hq
  have hi : w.floor.state = .idle := by simp [← hwe]
  have hd : panelMessage m f s = emptyInbound (serve w) := by
    rw [hp, hf, if_pos (show (s.withBus b).floor.state = held from hs), ← hwe]
    rfl
  have hal := emptyInbound_alike (serve w)
  have hid : (emptyInbound (serve w)).ident = (serve w).ident := rfl
  generalize emptyInbound (serve w) = d at hd hal hid
  have hst : s.floor.state ≠ .setting := by rcases hheld with h | h <;> simp [hs, h]
  have idle (h : w.mode = .configuring ∨ w.pins.txInhibit = true ∨ w.queue = [] ∧ w.ident.pending = false)
      {P : State → Prop} (hP : d.floor.state = .idle →
        d.queue = s.queue → P (closeAct s d)) :
      Gives (exec c s) P := by
    obtain ⟨hfl, hqu⟩ := servedIdle h hal
    refine gives_deed (hc s) hr hd ?_
    rw [finishSetup_notSetting (by simp [hfl])]
    exact hP (by rw [hfl]) (hqu.trans hq)
  refine ⟨fun h => ?_, fun he hpe => ?_, fun hm hx hpe => ?_, fun refused rest he hm hx hpe hre => ?_⟩
  · refine idle (h.elim (fun h => .inl (hw.mode.trans h)) fun h => .inr (.inl (by rw [hw.pins]; exact h)))
      fun hfl hqu => ⟨by simp [hfl], by simpa using hqu, ?_⟩
    have hse : serve w = setFloorState .idle w := by
      rcases h with h | h
      · simp [serve, hw.mode.trans h]
      · exact serve_inhibited w (by rw [hw.pins]; exact h)
    simpa [hid, hse] using hw.pending
  · exact idle (.inr (.inr ⟨hq.trans he, hw.pending.trans hpe⟩))
      fun hfl hqu => ⟨by simp [hfl], by simpa [he] using hqu⟩
  · obtain ⟨hfl, hqu, hie⟩ := hw.identEntered hm hx hpe hal
    refine gives_deed (hc s) hr hd ?_
    rw [finishSetup_notSetting (by simp [hfl])]
    exact ⟨hie s, by simpa [hq] using hqu⟩
  · have hse := hw.serves hm hx hpe
    refine ⟨?_, ?_, ?_⟩
    · rintro e more fig h g rfl hg ht
      have hsh := servedHead (s := s) hw hse (hq.trans he) hre hg ht hal hst
      refine gives_deed (hc s) hr hd ⟨hsh.holds.taken, hsh.holds.holder, hsh.holds.grant, hsh.holds.queue, ?_⟩
      refine hsh.told (by rw [hq]; exact hl.queue_seats) fun x hx => ?_
      rw [hw.attached]
      exact attachment_isSome (hl.queue_attached x (by rwa [hq] at hx))
    · rintro e more fig h rfl hg
      obtain ⟨hfl, hqu⟩ := servedShort hw hse (hq.trans he) hre hg hal
      refine gives_deed (hc s) hr hd ?_
      rw [finishSetup_notSetting (by simp [hfl])]
      exact ⟨by simp [hfl], by simpa using hqu⟩
    · rintro rfl
      obtain ⟨hfl, hqu⟩ := servedNone hw hse (by simpa [he] using hq) hre hal
      refine gives_deed (hc s) hr hd ?_
      rw [finishSetup_notSetting (by simp [hfl])]
      exact ⟨by simp [hfl], by simpa using hqu⟩

/-! ### TAKE and HALT -/

/-- R66: TAKE from a state without the panel. -/
theorem take_gives {s : State} {b : Bus} (hr : Running s) (hl : FloorLaw s) (hb : EngineMove s.bus b)
    (hp : panelMessage .take takeStation s = emptyInbound (takeStation (s.withBus b)))
    (h1 : s.floor.state ≠ .panelHeld) (h2 : s.floor.state ≠ .shut) :
    Gives (exec .take s) fun t =>
      t.floor.state = .panelHeld ∧ t.floor.holder = none ∧ t.keying.state = .unkeyed
        ∧ t.queue = s.queue ∧ t.ident.pending = s.ident.pending ∧ t.bus.inbound = none
        ∧ (∀ h : Holder, s.floor.holder = some h → TurnEnded s t h .panelHeld .none)
        ∧ t.bus.floorWork = s.bus.floorWork.filter (fun x => x.owner != .setup || s.floor.holder.isNone)
        ∧ (∀ x : SeatNo, s.seats[x].attachment.isSome = true → Noticed s t x (.panel true false)) := by
  obtain ⟨cfs, cfh, cfk, cfq, cfp, cfw, cfa, cft, cfr⟩ := panelCleared_facts (s.withBus b)
  have hs1 : (s.withBus b).floor.state ≠ .panelHeld := h1
  rw [takeStation_eq hs1 h2] at hp
  have hfl : (emptyInbound (setFloorState .panelHeld (panelCleared .panelHeld (s.withBus b)))).floor.state
      = .panelHeld := by simp
  have hon : Onward (panelCleared .panelHeld (s.withBus b))
      (emptyInbound (setFloorState .panelHeld (panelCleared .panelHeld (s.withBus b)))) :=
    (setFloorState_onward ..).trans (emptyInbound_onward _)
  refine gives_deed (f := panelMessage .take takeStation) rfl hr hp ?_
  have hfin := finishSetup_notSetting (before := s) (s := emptyInbound (setFloorState .panelHeld
    (panelCleared .panelHeld (s.withBus b)))) (by rw [hfl]; simp)
  obtain ⟨-, hwork, -⟩ := closeAct_work s (emptyInbound (setFloorState .panelHeld (panelCleared .panelHeld (s.withBus b))))
  rw [hfin]
  refine ⟨by simp, by simpa using cfh, by simpa using cfk, by simpa using cfq, by simpa using cfp, ?_,
    fun h hh => ?_, ?_, fun x hx => ?_⟩
  · rw [closeAct_inbound]
    rfl
  · have hc : panelCleared .panelHeld (s.withBus b) = endTurnCore .panelHeld .none (s.withBus b) :=
      if_pos (by simp [hh])
    rw [hc] at hon hfin ⊢
    have ht := ((TurnYet.withBus hl hh hb).out .panelHeld .none).onward hon |>.told.ended
    rwa [hfin] at ht
  · rw [hwork]
    have hw' : (emptyInbound (setFloorState .panelHeld (panelCleared .panelHeld (s.withBus b)))).bus.floorWork
        = (panelCleared .panelHeld (s.withBus b)).bus.floorWork := by simp [emptyInbound]
    rw [hw', cfw, ← hb.floorWork]
    rfl
  · have hn := setFloorState_panelTold (s := panelCleared .panelHeld (s.withBus b)) (new := .panelHeld) (x := x)
      (by rw [cfs]; exact h1) rfl (by rw [cfa]; exact hx)
    rw [cft] at hn
    exact closeAct_noticed hn (by simp [partHeld, emptyInbound, cfr])

/-- R68: HALT in every state. -/
theorem halt_gives {s : State} {b : Bus} (hr : Running s) (hl : FloorLaw s) (hb : EngineMove s.bus b)
    (hp : panelMessage .halt haltStation s = emptyInbound (haltStation (s.withBus b))) :
    Gives (exec .halt s) fun t =>
        t.floor.state = .shut ∧ t.floor.holder = none ∧ t.keying.state = .unkeyed
          ∧ t.queue = [] ∧ t.ident.window = false ∧ t.ident.pending = false
          ∧ t.ident.periodic = none ∧ t.ident.grace = none ∧ t.bus.inbound = none
          ∧ (∀ h : Holder, s.floor.holder = some h → TurnEnded s t h .shut .none)
          ∧ (∀ e ∈ s.queue, Noticed s t e.seat (.ended .shut .none false e.member 0))
          ∧ (s.floor.state ≠ .shut → ∀ x : SeatNo, s.seats[x].attachment.isSome = true →
              Noticed s t x (.panel false true)) := by
  obtain ⟨hfs, hfh, hfq, hft, hfr, hfa⟩ := halted_facts (s.withBus b)
  rw [haltStation_eq] at hp
  generalize hu : halted (s.withBus b) = u at hfs hfh hfq hft hfr hfa hp
  have hsq : u.queue = s.queue := hfq
  have hend := endEntries_queue .shut (l := u.queue) (s := u) rfl
  have hon : Onward (endEntries .shut u.queue u) (emptyInbound (setFloorState .shut (closeWindow (unkey
      (endEntries .shut u.queue u))))) :=
    (unkey_onward _).trans ((closeWindow_onward _).trans ((setFloorState_onward ..).trans (emptyInbound_onward _)))
  have hval : (closeWindow (unkey (endEntries .shut u.queue u))).floor = u.floor := by simp
  have hkey : (closeWindow (unkey (endEntries .shut u.queue u))).keying.state = .unkeyed := by simp
  refine gives_deed (f := panelMessage .halt haltStation) rfl hr hp ?_
  have hfin := finishSetup_notSetting (before := s) (s := emptyInbound (setFloorState .shut (closeWindow (unkey
    (endEntries .shut u.queue u))))) (by simp)
  obtain ⟨hiw, hip, -, hipe, hig, -, -⟩ := closeAct_identFields s (emptyInbound (setFloorState .shut (closeWindow
    (unkey (endEntries .shut u.queue u)))))
  have hident : (emptyInbound (setFloorState .shut (closeWindow (unkey (endEntries .shut u.queue u))))).ident
      = (closeWindow (unkey (endEntries .shut u.queue u))).ident := by simp [emptyInbound]
  rw [hfin, hiw, hip, hipe, hig, hident]
  refine ⟨by simp, by simpa using hfh, by simpa using hkey, by simpa using hend, rfl, rfl, rfl, rfl, ?_,
    fun h hh => ?_, fun e he => ?_, fun hs x hx => ?_⟩
  · rw [closeAct_inbound]
    rfl
  · have hue : u = endTurnCore .shut .none (s.withBus b) := by
      rw [← hu]
      exact if_pos (by simp [hh])
    have hout := (TurnYet.withBus hl hh hb).out .shut .none
    rw [← hue] at hout
    have ht := (hout.onward ((endEntries_onward .shut rfl).trans hon)).told.ended
    rwa [hfin] at ht
  · have hmem := endEntries_mem (c := .shut) (s := u) (l := u.queue) rfl (by rw [hsq]; exact hl.queue_seats)
      (fun y hy => by
        rw [hfa]
        exact attachment_isSome (hl.queue_attached y (by rwa [hsq] at hy))) e (by rwa [hsq])
    rw [hft] at hmem
    have hoff : OffFloor e.seat (endEntries .shut u.queue u) :=
      ⟨by simp [hfh], by simp [hend]⟩
    refine closeAct_noticed (hon.silent 4 e.seat ⟨by simp, by simp, fun _ => hoff⟩ _ hmem rfl) ?_
    simp [partHeld, emptyInbound, hfr]
  · have hn := setFloorState_panelTold (s := closeWindow (unkey (endEntries .shut u.queue u))) (new := .shut)
      (x := x) (by rw [hval, hfs]; exact hs) rfl ?_
    · have hst : (closeWindow (unkey (endEntries .shut u.queue u))).stamp = s.stamp := by simp [hft]
      rw [hst] at hn
      exact closeAct_noticed hn (by simp [partHeld, emptyInbound, hfr])
    · have := (endEntries_moves .shut u.queue u).seatsKept.attachment x
      have hseats : (closeWindow (unkey (endEntries .shut u.queue u))).seats = (endEntries .shut u.queue u).seats := by
        simp
      rw [hseats, this, hfa]
      exact hx

/-- Settles O47: TAKE and HALT, and the message that finds another in the buffer. -/
theorem panelTakesAndHalts : Obligations.PanelTakesAndHalts := by
  unfold Obligations.PanelTakesAndHalts
  refine ⟨fun s hr hl => ⟨fun ha => ?_, fun ha => ?_⟩, fun c m other s hr h hb ho => panel_otherHeld hr h hb ho⟩
  · obtain ⟨b, hb, hp⟩ := panelMessage_arrives takeStation ha
    refine ⟨take_gives hr hl hb hp, fun hs => ?_⟩
    rw [takeStation_panel (s := s.withBus b) hs] at hp
    refine gives_engine (f := panelMessage .take takeStation) rfl hr
      (hp ▸ hb.engineOnly.withBus ⟨rfl, rfl, rfl⟩ rfl) fun hk => ?_
    refine ⟨hk .floor (by simp), hk .queue (by simp), (hk .keying (by simp)).1, ?_⟩
    rw [closeAct_inbound, hp]
    rfl
  · obtain ⟨b, hb, hp⟩ := panelMessage_arrives haltStation ha
    exact halt_gives hr hl hb hp

end Sys2Proof.Machine

/-! O42: the radio lines (R69, R133 to R136). -/

namespace Sys2Proof.Machine

/-! ### TX_INHIBIT taken -/

theorem enterIdle_inhibited {s : State} (h : s.pins.txInhibit = true) : enterIdle s = setFloorState .idle s := by
  unfold enterIdle
  rw [serve_inhibited _ (by simpa using h), setFloorState_same (by simp)]

theorem TurnYet.withPins {s : State} {h : Holder} (hl : FloorLaw s) (hh : s.floor.holder = some h) (p : Pins) :
    TurnYet s (s.withPins p) h :=
  ⟨hh, rfl, attachment_isSome (hl.holder_attached h hh), hl.holder_not_queued h hh, rfl, rfl, rfl, rfl⟩

theorem inhibitReport_held {s : State} (h : s.floor.state.hasHolder = true) :
    inhibitReport s = endTurn .inhibit .none s := by
  unfold inhibitReport
  cases hs : s.floor.state <;> simp_all [FloorState.hasHolder]

theorem endTurn_inhibited {s : State} {c : EndCause} {d : EndDetail} (h : s.pins.txInhibit = true) :
    endTurn c d s = setFloorState .idle (endTurnCore c d s) :=
  enterIdle_inhibited (by simpa using h)

/-- R69: how the floor stands behind an INHIBIT report. -/
theorem inhibitReport_floor {s : State} (h : s.pins.txInhibit = true) (hk : s.keying.state = .unkeyed) :
    (inhibitReport s).floor.state ≠ .setting ∧ (inhibitReport s).queue = s.queue
      ∧ (inhibitReport s).keying.state = .unkeyed ∧ (inhibitReport s).ident.pending = s.ident.pending
      ∧ (inhibitReport s).pins = s.pins
      ∧ (s.floor.state.hasHolder = true ∨ s.floor.state = .ident ∨ s.floor.state = .resting →
          (inhibitReport s).floor.state = .idle)
      ∧ (s.floor.state = .idle ∨ s.floor.state = .panelHeld ∨ s.floor.state = .shut →
          (inhibitReport s).floor = s.floor) := by
  by_cases hh : s.floor.state.hasHolder = true
  · have hp : (endTurnCore .inhibit .none s).ident.pending = s.ident.pending := by
      simp [endTurnCore, unkey_pending]
    rw [inhibitReport_held hh, endTurn_inhibited h]
    refine ⟨by simp, by simp, by simp, by simpa using hp, by simp, fun _ => by simp, fun e => ?_⟩
    rcases e with e | e | e <;> simp [e, FloorState.hasHolder] at hh
  · by_cases hi : s.floor.state = .ident ∨ s.floor.state = .resting
    · have he : inhibitReport s = setFloorState .idle s := by
        rcases hi with hi | hi <;> simp [inhibitReport, hi, enterIdle_inhibited h]
      rw [he]
      refine ⟨by simp, by simp, by simpa using hk, by simp, by simp, fun _ => by simp, fun e => ?_⟩
      rcases hi with hi | hi <;> simp [hi] at e
    · have he : inhibitReport s = s := by
        unfold inhibitReport
        cases hs : s.floor.state <;> simp_all [FloorState.hasHolder]
      rw [he]
      refine ⟨fun e => hh (by simp [e, FloorState.hasHolder]), rfl, hk, rfl, rfl, fun e => ?_, fun _ => rfl⟩
      exact absurd e (not_or.2 ⟨hh, hi⟩)

/-! ### An amplifier fault that stands -/

/-- R136: the station, unkeyed with its amplifier out of service and the fault still standing. -/
structure FaultStands (s : State) : Prop where
  unkeyed : s.keying.state = .unkeyed
  out     : s.keying.ampInService = false
  fault   : s.pins.ampFault = true
  operate : s.bus.believed.amp = some .operate

theorem FaultStands.of_eq {s t : State} (h : FaultStands s) (hk : t.keying.state = s.keying.state)
    (ho : t.keying.ampInService = s.keying.ampInService) (hp : t.pins = s.pins)
    (hb : t.bus.believed = s.bus.believed) : FaultStands t :=
  ⟨hk.trans h.unkeyed, ho.trans h.out, by rw [hp]; exact h.fault, by rw [hb]; exact h.operate⟩

theorem identReady_believed (s : State) : (identReady s).bus.believed = s.bus.believed := by
  unfold identReady
  simp only
  split <;> rfl

/-- A serving point leaves what is believed of the station. -/
theorem serve_believed (s : State) : (serve s).bus.believed = s.bus.believed := by
  unfold serve
  split
  · simp
  · split
    · simp [enterIdent_ready, identReady_believed]
    · simp

/-- The end of a turn leaves the amplifier's service and its believed state. -/
theorem endTurn_amp (c : EndCause) (d : EndDetail) (s : State) :
    (endTurn c d s).keying.state = .unkeyed ∧ (endTurn c d s).keying.ampInService = s.keying.ampInService
      ∧ (endTurn c d s).pins = s.pins ∧ (endTurn c d s).bus.believed = s.bus.believed := by
  have hk : (endTurnCore c d s).keying.ampInService = s.keying.ampInService := by
    unfold endTurnCore
    simp [unkey_ampInService]
  have hb : (endTurnCore c d s).bus.believed = s.bus.believed := by
    rw [endTurnCore_bus, closeSetup_believed, unkey_believed]
  unfold endTurn
  exact ⟨by simp, by simpa using hk, by simp, by simpa [enterIdle, serve_believed] using hb⟩

theorem FaultStands.endTurn {s : State} {c : EndCause} {d : EndDetail} (ho : s.keying.ampInService = false)
    (hp : s.pins.ampFault = true) (hb : s.bus.believed.amp = some .operate) : FaultStands (endTurn c d s) := by
  obtain ⟨h1, h2, h3, h4⟩ := endTurn_amp c d s
  exact ⟨h1, h2.trans ho, by rw [h3]; exact hp, by rw [h4]; exact hb⟩

/-- R131, R136: a standing fault is met by the next TUNE's key request too. -/
theorem FaultStands.setUp {before s : State} (h : FaultStands s) (he : emptySetup before s = true) :
    FaultStands (setUp s) := by
  have hp : FaultStands (placeSetup [] s) := h.of_eq (by simp) (by simp) (by simp) (by simp)
  rw [setUp_empty he]
  unfold setupComplete
  split
  · next ht =>
    have ho : FaultStands (onAirState (placeSetup [] s)) :=
      hp.of_eq (by simp [onAirState]) (by simp [onAirState]) (by simp [onAirState]) (by simp [onAirState])
    have met : ampFaultHolds (assertPtt (onAirState (placeSetup [] s))) = true := by
      have hf := ho.fault
      have hb := ho.operate
      simp only [ampFaultHolds, Bool.and_eq_true, beq_iff_eq, bne_iff_ne, assertPtt_frame]
      exact ⟨⟨hf, assertPtt_keyed _⟩, hb⟩
    rw [enterOnAir_eq]
    refine keyRequest_tune (by simp) ((grantIsTune_of_floor (by simp)).trans ht) (fun _ => ho)
      (fun _ e => absurd (met.symm.trans e) (by simp)) (fun _ e => absurd (met.symm.trans e) (by simp))
      fun _ _ => .endTurn rfl (by simpa [ampOutOfService] using ho.fault) ?_
    have hb : (ampOutOfService (unkey (assertPtt (onAirState (placeSetup [] s))))).bus.believed
        = (onAirState (placeSetup [] s)).bus.believed := by
      simp only [ampOutOfService, withKeying_bus, unkey_believed, assertPtt_frame]
    rw [hb]
    exact ho.operate
  · exact hp.of_eq (by simp) (by simp) (by simp) (by simp)

theorem FaultStands.finishSetup {before s : State} (h : FaultStands s) : FaultStands (finishSetup before s) :=
  finishSetup_empty h fun _ he ht => ht.setUp he

/-! ### The lines -/

theorem exec_txInhibitAsserted {s : State} (hr : Running s) (h : s.pins.txInhibit = false) :
    exec .txInhibitAsserted s = .next (act inhibitTaken s) := by
  have hx : exec .txInhibitAsserted s = execTxInhibitAsserted s := rfl
  rw [hx, execTxInhibitAsserted, if_neg (by simp [h]), if_neg (by simp [hr])]

theorem exec_txInhibitDeasserted {s : State} (hr : Running s) (h : s.pins.txInhibit = true) :
    exec .txInhibitDeasserted s = .next (act inhibitCleared s) := by
  have hx : exec .txInhibitDeasserted s = execTxInhibitDeasserted s := rfl
  rw [hx, execTxInhibitDeasserted, if_pos h, if_neg (by simp [hr])]

theorem exec_ampFaultAsserted {s : State} (hr : Running s) (h : s.pins.ampFault = false) :
    exec .ampFaultAsserted s = .next (act ampFaultTaken s) := by
  have hx : exec .ampFaultAsserted s = execAmpFaultAsserted s := rfl
  rw [hx, execAmpFaultAsserted, if_neg (by simp [h]), if_neg (by simp [hr])]

theorem closeAct_floor (before s : State) : (closeAct before s).floor = s.floor := by simp

theorem closeAct_queue (before s : State) : (closeAct before s).queue = s.queue := by simp

theorem pttOut_of_unkeyed {s : State} (h : s.keying.state = .unkeyed) : pttOut s = false := by
  simp [pttOut, h]

theorem inhibitTaken_gives {s : State} (hr : Running s) (hl : FloorLaw s) (hi : s.pins.txInhibit = false) :
    Gives (exec .txInhibitAsserted s) fun t =>
        t.pins.txInhibit = true ∧ t.keying.state = .unkeyed ∧ pttOut t = false
          ∧ t.queue = s.queue
          ∧ (∀ h : Holder, s.floor.holder = some h →
              TurnEnded s t h .inhibit .none ∧ t.floor.state = .idle)
          ∧ (s.floor.state = .ident ∨ s.floor.state = .resting →
              t.floor.state = .idle ∧ t.ident.pending = s.ident.pending)
          ∧ (s.floor.state = .idle ∨ s.floor.state = .panelHeld ∨ s.floor.state = .shut →
              t.floor = s.floor) := by
  obtain ⟨hns, hq, hk, hp, hpin, hid, hfl⟩ := inhibitReport_floor (s := unkey (setInhibit true s))
    (by simp [setInhibit]) (by simp)
  have hfin := finishSetup_notSetting (before := s) (s := inhibitTaken s) hns
  refine gives_deed (exec_txInhibitAsserted hr hi) hr rfl ?_
  rw [hfin]
  have hku : (closeAct s (inhibitTaken s)).keying.state = .unkeyed := by simpa [inhibitTaken] using hk
  refine ⟨by simp [inhibitTaken, setInhibit], hku, pttOut_of_unkeyed hku,
    by simpa [inhibitTaken, setInhibit] using hq, fun h hh => ?_, fun hs => ?_, fun hs => ?_⟩
  · have hst : s.floor.state.hasHolder = true := by rw [← hl.holder_state, hh]; rfl
    have hy : TurnYet s (unkey (setInhibit true s)) h := (TurnYet.withPins hl hh _).unkey
    have hin : inhibitTaken s = endTurn .inhibit .none (unkey (setInhibit true s)) :=
      inhibitReport_held (by simpa [setInhibit] using hst)
    have ht := (hy.told .inhibit .none).ended
    rw [← hin, hfin] at ht
    exact ⟨ht, by simpa [inhibitTaken] using hid (.inl (by simpa [setInhibit] using hst))⟩
  · exact ⟨by simpa [inhibitTaken] using hid (.inr (by simpa [setInhibit] using hs)),
      by simpa [inhibitTaken, unkey_pending, setInhibit] using hp⟩
  · simpa [inhibitTaken, setInhibit] using hfl (by simpa [setInhibit] using hs)

/-- A serving point is one of the state it is made in. -/
theorem ServePoint.refl {s : State} (h : s.floor.holder = none) : ServePoint s s :=
  ⟨h, rfl, rfl, rfl, rfl, rfl, rfl, rfl, rfl, rfl, rfl, fun _ => rfl, fun _ => rfl⟩

theorem FloorLaw.free {s : State} (hl : FloorLaw s) (h : s.floor.state.hasHolder = false) : s.floor.holder = none := by
  have := hl.holder_state
  rw [h] at this
  simpa using this

/-- R64: what an identification needs is read off the station and the bus. -/
theorem IdentEntered.of_bus {b s t : State} (h : IdentEntered b t) (hb : s.bus = b.bus)
    (hs : s.station = b.station) : IdentEntered s t := by
  obtain ⟨h1, h2, h3⟩ := h
  constructor <;> simpa only [NeedsStandby, standbyOutstanding, hb, hs]

theorem inhibitCleared_gives {s : State} (hr : Running s) (hl : FloorLaw s) (hi : s.pins.txInhibit = true) :
      Gives (exec .txInhibitDeasserted s) fun t =>
        t.pins = { s.pins with txInhibit := false }
          ∧ (s.floor.state ≠ .idle → t.floor = s.floor ∧ t.queue = s.queue)
          ∧ (s.floor.state = .idle → s.mode = .configuring → t.floor = s.floor ∧ t.queue = s.queue)
          ∧ (s.floor.state = .idle → s.mode = .serving → s.ident.pending = true →
              IdentEntered s t ∧ t.queue = s.queue)
          ∧ (s.floor.state = .idle → s.mode = .serving → s.ident.pending = false →
            ∀ refused rest, s.queue = refused ++ rest →
            (∀ x ∈ refused, ∃ r, computeGrant (grantInputs s x.member) x.req = .refusal r) →
            (rest = [] → t.floor = s.floor ∧ t.queue = [])
            ∧ (∀ e more fig h, rest = e :: more →
              computeGrant (grantInputs s e.member) e.req = .short fig h →
              t.floor.state = .resting ∧ t.queue = rest)
            ∧ (∀ e more fig h g, rest = e :: more →
              computeGrant (grantInputs s e.member) e.req = .grant fig h g → ¬ TuneFaults s g →
              GrantTaken (s.withPins { s.pins with txInhibit := false }) t g
                ∧ t.floor.holder = some ⟨e.seat, e.member⟩ ∧ t.floor.grant = some g
                ∧ t.queue = more
                ∧ ∀ x ∈ refused, ∀ r, computeGrant (grantInputs s x.member) x.req = .refusal r →
                  Noticed s t x.seat (.ended .refusedAtGrant (.refusal r) false x.member 0))) := by
  have hx := exec_txInhibitDeasserted hr hi
  by_cases hs : s.floor.state = .idle
  · have hw : inhibitCleared s = serve (setInhibit false s) := if_pos hs
    have hpt := ServePoint.refl (s := setInhibit false s) (hl.free (by rw [hs]; rfl))
    have hwf : { (setInhibit false s).floor with state := .idle } = s.floor := by
      rw [← hs]
      rfl
    have hal := Alike.refl (serve (setInhibit false s))
    refine gives_deed hx hr hw ⟨by simp [setInhibit], fun h => absurd hs h, fun _ hm => ?_,
      fun _ hm hp => ?_, fun _ hm hp refused rest he hre => ?_⟩
    · obtain ⟨hfl, hqu⟩ := servedIdle (w := setInhibit false s) (.inl hm) hal
      rw [finishSetup_notSetting (by rw [hfl]; simp)]
      exact ⟨(closeAct_floor ..).trans (hfl.trans hwf), (closeAct_queue ..).trans hqu⟩
    · obtain ⟨hfl, hqu, hie⟩ := hpt.identEntered hm rfl hp hal
      rw [finishSetup_notSetting (by simp [hfl])]
      exact ⟨(hie s).of_bus rfl rfl, (closeAct_queue ..).trans hqu⟩
    · have hse := hpt.serves hm rfl hp
      refine ⟨?_, ?_, ?_⟩
      · rintro rfl
        obtain ⟨hfl, hqu⟩ := servedNone hpt hse (gone := refused) (he.trans (List.append_nil _)) hre hal
        rw [finishSetup_notSetting (by rw [hfl]; simp)]
        exact ⟨(closeAct_floor ..).trans (hfl.trans hwf), (closeAct_queue ..).trans hqu⟩
      · rintro e more fig h rfl hg
        obtain ⟨hfl, hqu⟩ := servedShort hpt hse he hre hg hal
        rw [finishSetup_notSetting (by rw [hfl]; simp)]
        exact ⟨by simp [hfl], (closeAct_queue ..).trans hqu⟩
      · rintro e more fig h g rfl hg ht
        have hsh := servedHead (s := s) hpt hse he hre hg ht hal (by simp [hs])
        refine ⟨hsh.holds.taken, hsh.holds.holder, hsh.holds.grant, hsh.holds.queue, fun x hx r hxr => ?_⟩
        exact hsh.told hl.queue_seats (fun y hy => attachment_isSome (hl.queue_attached y hy)) x hx r hxr
  · have hw : inhibitCleared s = setInhibit false s := if_neg hs
    refine gives_deed hx hr hw ?_
    rw [finishSetup_unentered (by simp [enteredSetting, setInhibit])]
    exact ⟨by simp [setInhibit], fun _ => ⟨closeAct_floor .., closeAct_queue ..⟩, fun h => absurd h hs,
      fun h => absurd h hs, fun h => absurd h hs⟩

/-! ### AMP_FAULT taken -/

theorem ampFaultTaken_holds {s : State} (hk : s.keying.state ≠ .unkeyed)
    (hb : s.bus.believed.amp = some .operate) :
    ampFaultTaken s = equipmentReport .ampFault (ampOutOfService (unkey (setAmpFault true s))) := by
  have hf : ampFaultHolds (setAmpFault true s) = true := by
    simp [ampFaultHolds, setAmpFault, hk, hb]
  exact if_pos hf

/-- R136: an amplifier fault as taken. -/
theorem ampFaultTaken_gives {s : State} (hr : Running s) (hl : FloorLaw s) (hf : s.pins.ampFault = false)
    (hk : s.keying.state ≠ .unkeyed) (hb : s.bus.believed.amp = some .operate) :
    Gives (exec .ampFaultAsserted s) fun t =>
        t.pins.ampFault = true ∧ t.keying.state = .unkeyed ∧ t.keying.ampInService = false
          ∧ (∀ h : Holder, s.floor.holder = some h → s.floor.state = .onAir →
              EndedToIdle s t h .equipment (.equipment .ampFault)) := by
  have hb' : (ampOutOfService (unkey (setAmpFault true s))).bus.believed.amp = some .operate := by
    simpa [ampOutOfService, unkey_believed, setAmpFault] using hb
  refine gives_deed (exec_ampFaultAsserted hr hf) hr (ampFaultTaken_holds hk hb) ?_
  have hst : FaultStands (equipmentReport .ampFault (ampOutOfService (unkey (setAmpFault true s)))) := by
    unfold equipmentReport
    split
    · exact .endTurn rfl (by simp [ampOutOfService, setAmpFault]) hb'
    · exact ⟨by simp [ampOutOfService], rfl, by simp [ampOutOfService, setAmpFault], hb'⟩
  have hfin := hst.finishSetup (before := s)
  obtain ⟨hks, -, hko⟩ := closeAct_keyingFields s (finishSetup s (equipmentReport .ampFault
    (ampOutOfService (unkey (setAmpFault true s)))))
  refine ⟨by simpa using hfin.fault, hks.trans hfin.unkeyed, hko.trans hfin.out, fun h hh ha => ?_⟩
  have hy : TurnYet s (ampOutOfService (unkey (setAmpFault true s))) h := by
    have := (TurnYet.withPins hl hh { s.pins with ampFault := true }).unkey
    exact ⟨this.holder, this.keyedMs, this.attached, this.alone, this.present, this.amp, this.stamp, this.held⟩
  have he : equipmentReport .ampFault (ampOutOfService (unkey (setAmpFault true s)))
      = endTurn .equipment (.equipment .ampFault) (ampOutOfService (unkey (setAmpFault true s))) :=
    if_pos (by simpa [ampOutOfService, setAmpFault] using ha)
  rw [he]
  exact hy.endedToIdle _ _ (by simp [ampOutOfService, setAmpFault]) (by
    simp [ampOutOfService, unkey_pending, setAmpFault])

/-- R136: an AMP_FAULT that is no amplifier fault is only taken up. -/
theorem ampFaultTaken_level {s : State} (hr : Running s) (hs : Settled s)
    (h : s.keying.state = .unkeyed ∨ s.bus.believed.amp ≠ some .operate) :
    exec .ampFaultAsserted s = .next (setAmpFault true s) := by
  cases hf : s.pins.ampFault with
  | true =>
    have hx : exec .ampFaultAsserted s = .next s := by
      have : exec .ampFaultAsserted s = execAmpFaultAsserted s := rfl
      rw [this, execAmpFaultAsserted, if_pos hf]
    rw [hx, setAmpFault, ← hf]
    rfl
  | false =>
    have hn : ampFaultTaken s = setAmpFault true s := by
      refine if_neg ?_
      simp only [ampFaultHolds, setAmpFault, withPins_pins, withPins_keying, withPins_bus, Bool.true_and,
        Bool.and_eq_true, bne_iff_ne, beq_iff_eq, not_and, ne_eq]
      exact fun hk hb => h.elim hk fun h => h hb
    have hw : Settled (setAmpFault true s) := ⟨hs.closing, hs.poll, hs.source, hs.key, hs.board, hs.reports⟩
    have hc : closeAct s (setAmpFault true s) = closeAct (setAmpFault true s) (setAmpFault true s) := rfl
    rw [exec_ampFaultAsserted hr hf, act_running hr, hn, finishSetup_unentered (by simp [enteredSetting, setAmpFault]),
      hc, closeAct_self hw]

/-- Settles O42: the lines as taken, and TX_INHIBIT going deasserted as a serving point in IDLE. -/
theorem radioLinesAreObeyed : Obligations.RadioLinesAreObeyed := by
  unfold Obligations.RadioLinesAreObeyed
  intro s hr hl
  exact ⟨inhibitTaken_gives hr hl, inhibitCleared_gives hr hl, ampFaultTaken_gives hr hl,
    ampFaultTaken_level hr, rfl⟩

end Sys2Proof.Machine

/-! O39: the duty interval (R72 to R80). -/

namespace Sys2Proof.Machine

section

variable {s t : State}

/-! ### The device page within an act -/

/-- R70: a change of floor state calls for a rewrite of the board, and writes nothing of the page itself. -/
theorem setFloorState_page (new : FloorState) (s : State) : (setFloorState new s).page
    = if s.floor.state = new then s.page else { s.page with boardDue := true } := by
  unfold setFloorState
  simp only
  (repeat' split) <;> simp_all

/-- What the page shows, whether or not a rewrite is called for. -/
def shownPage (s : State) : Page := { s.page with boardDue := false }

theorem shownPage_of_page (h : t.page = s.page) : shownPage t = shownPage s := by rw [shownPage, h, shownPage]

theorem shownPage_setFloorState (new : FloorState) (s : State) :
    shownPage (setFloorState new s) = shownPage s := by
  unfold shownPage
  rw [setFloorState_page]
  split <;> rfl

/-- Within an act the page stands as it was, but for the call for a rewrite. -/
theorem Moves.shownPage (h : Moves s t) : shownPage t = shownPage s := by
  induction h with
  | trans _ _ ih ih' => exact ih'.trans ih
  | state s h => exact shownPage_setFloorState ..
  | turnOver _ _ _ _ _ _ _ _ ih ih' => exact (shownPage_setFloorState ..).trans (ih'.trans ih)
  | turnBegun _ _ _ _ _ _ ih ih' => exact (shownPage_setFloorState ..).trans (ih'.trans ih)
  | _ => exact shownPage_of_page (by simp)

theorem Moves.pageQ (h : Moves s t) : t.page.q = s.page.q := by
  have hp := congrArg Page.q h.shownPage
  exact hp

/-- The close of an act leaves the Q that the page shows. -/
theorem closeAct_pageQ (before s : State) : (closeAct before s).page.q = s.page.q := by
  have h : (closeAct before s).page = (settleBoard before (settleLines (settlePoll (settleClosing before s)))).page := by
    simp [closeAct]
  rw [h]
  unfold settleBoard
  split <;> simp [rewriteBoard]

end

/-! ### The duty interval -/

theorem rawSum_eq (s : State) : rawSum s = (s.duty.q : Int) + (s.duty.energy / 1000 : Nat) - s.station.cool := rfl

theorem clampedHeat_eq (s : State) : clampedHeat s
    = if (s.station.qmax : Int) < rawSum s then s.station.qmax else (rawSum s).toNat := by
  unfold clampedHeat
  split <;> omega

theorem dutyExcess_iff (s : State) : dutyExcess s = true ↔ (s.station.qmax : Int) < rawSum s := by
  simp [dutyExcess]

theorem refreshFigures_alike (s : State) : Alike (refreshFigures s) s :=
  ⟨rfl, rfl, rfl, rfl, rfl, rfl, rfl, rfl, rfl, fun _ => rfl, rfl⟩

theorem TurnTold.alike {s d u : State} {h : Holder} {cause : EndCause} {detail : EndDetail}
    (hd : TurnTold s d h cause detail) (ha : Alike u d) : TurnTold s u h cause detail :=
  hd.of_eq ha.floor ha.keying ha.work ha.flight ha.queue (ha.notices _) (by simp [partHeld, ha.ram])

theorem dutyReport_excess {s : State} (h : s.floor.state = .onAir ∨ s.floor.state = .stalled) :
    dutyReport true s = endTurn .duty .none s := by
  rcases h with h | h <;> simp [dutyReport, h]

/-- R76, R77: no other floor state acts on an expiry. -/
theorem dutyReport_same {s : State} {excess : Bool} (hr : s.floor.state ≠ .resting)
    (h : excess = false ∨ s.floor.state ≠ .onAir ∧ s.floor.state ≠ .stalled) : dutyReport excess s = s := by
  unfold dutyReport
  cases hs : s.floor.state <;> simp_all

/-- R75, R80: the heat and the page behind an expiry. -/
theorem dutyExpired_heat (s before : State) :
    (closeAct before (finishSetup before (dutyExpired s))).duty = ⟨clampedHeat s, 0, 0, 1000⟩
      ∧ (closeAct before (finishSetup before (dutyExpired s))).page.q = clampedHeat s := by
  have hm := dutyReport_moves (dutyExcess s) (updateHeat s)
  have hd : (dutyReport (dutyExcess s) (updateHeat s)).duty = ⟨clampedHeat s, 0, 0, 1000⟩ :=
    hm.frame.2.2.2.2.2.2.2.1
  have hx : (dutyExpired s).duty = ⟨clampedHeat s, 0, 0, 1000⟩ := hd
  have hq : (dutyExpired s).page.q = clampedHeat s := congrArg Duty.q hd
  exact ⟨by simpa using hx, by rw [closeAct_pageQ, (finishSetup_moves ..).pageQ, hq]⟩

/-- Settles O39: the heat moves, an excess ends the turn, and a resting head is considered again. -/
theorem dutyIntervalMovesTheHeat : Obligations.DutyIntervalMovesTheHeat := by
  unfold Obligations.DutyIntervalMovesTheHeat
  rintro s raw hr hl hraw
  rw [← rawSum_eq] at hraw
  subst hraw
  obtain ⟨hdu, hpq⟩ := dutyExpired_heat s s
  have hal := refreshFigures_alike (dutyReport (dutyExcess s) (updateHeat s))
  refine gives_deed (f := dutyExpired) (d := dutyExpired s) rfl hr rfl ?_
  rw [hdu, hpq]
  refine ⟨clampedHeat_eq s, rfl, rfl, rfl, rfl, fun h hh hx hs => ?_, fun hs hx => ?_,
    fun e more fig hrq g hs hq hm hi hp hg ht => ?_⟩
  · have hy : TurnYet s (updateHeat s) h :=
      ⟨hh, rfl, attachment_isSome (hl.holder_attached h hh), hl.holder_not_queued h hh, rfl, rfl, rfl, rfl⟩
    have hd : dutyReport (dutyExcess s) (updateHeat s) = endTurn .duty .none (updateHeat s) := by
      rw [(dutyExcess_iff s).2 hx]
      exact dutyReport_excess hs
    rw [hd] at hal
    have hde : dutyExpired s = refreshFigures (endTurn .duty .none (updateHeat s)) := congrArg refreshFigures hd
    rw [hde]
    exact ((hy.told .duty .none).alike hal).endedToIdle
      ((endTurn_stoodIdle (s := s) (u := updateHeat s) .duty .none (fun e => e) fun e => e).of_eq hal.floor)
  · have hd : dutyReport (dutyExcess s) (updateHeat s) = updateHeat s := by
      refine dutyReport_same hs (hx.imp_left fun h => ?_)
      simpa [← dutyExcess_iff] using h
    rw [hd] at hal
    have hde : dutyExpired s = refreshFigures (updateHeat s) := congrArg refreshFigures hd
    have hf : (dutyExpired s).floor = s.floor := by rw [hde]; rfl
    have hqu : (dutyExpired s).queue = s.queue := by rw [hde]; rfl
    rw [finishSetup_unentered (by simp [enteredSetting, hf])]
    exact ⟨(closeAct_floor ..).trans hf, (closeAct_queue ..).trans hqu⟩
  · have hd : dutyReport (dutyExcess s) (updateHeat s) = serve (updateHeat s) := by
      rw [dutyReport, show (updateHeat s).floor.state = .resting from hs]
    rw [hd] at hal
    have hpt := ServePoint.refl (s := updateHeat s) (hl.free (by rw [hs]; rfl))
    have hsh := servedHead (s := s) (gone := []) hpt ⟨hm, hi, hp⟩ hq (by simp) hg ht hal (by simp [hs])
    have hde : dutyExpired s = refreshFigures (serve (updateHeat s)) := congrArg refreshFigures hd
    rw [hde]
    exact ⟨hsh.holds.taken.congr rfl rfl rfl rfl rfl rfl rfl, hsh.holds.holder, hsh.holds.grant, hsh.holds.queue⟩

end Sys2Proof.Machine

/-! O40: an identification falls due (R64, R115 to R117, R121). -/

namespace Sys2Proof.Machine

/-! ### Overdue and pending -/

/-- R121: what becoming overdue makes of the identification record. -/
structure Overdue (s : State) (i : Ident) : Prop where
  pending  : i.pending = s.ident.pending
  window   : i.window = s.ident.window
  periodic : i.periodic = s.ident.periodic
  closing  : i.closing = s.ident.closing
  lastMode : i.lastMode = s.ident.lastMode
  overdue  : i.overdue = true
  grace    : i.grace = none
  begins   : stepsMade s = true → s.ident.sender = none →
    i.sender = some (newSender s.station true (grantIsCw s))
  quiet    : stepsMade s = false → i.sender = s.ident.sender

theorem becomeOverdue_ident (s : State) : ∃ i, becomeOverdue s = s.withIdent i ∧ Overdue s i := by
  have hs : stepsMade (s.withIdent { s.ident with overdue := true, grace := none }) = stepsMade s := rfl
  unfold becomeOverdue maybeOverlay
  split
  · next h =>
    refine ⟨_, rfl, rfl, rfl, rfl, rfl, rfl, rfl, rfl, fun _ _ => rfl, fun hn => ?_⟩
    simp [hs, hn] at h
  · next h =>
    refine ⟨_, rfl, rfl, rfl, rfl, rfl, rfl, rfl, rfl, fun hm hn => absurd ?_ h, fun _ => rfl⟩
    rw [hs, hm]
    simp [hn]

/-- R117, R121: what becoming pending makes of the identification record. -/
structure FallsDue (s : State) (i : Ident) : Prop where
  pending  : i.pending = true
  window   : i.window = s.ident.window
  periodic : i.periodic = s.ident.periodic
  closing  : i.closing = s.ident.closing
  lastMode : i.lastMode = s.ident.lastMode
  overdue  : i.overdue = if s.station.grace = 0 then true else s.ident.overdue
  grace    : i.grace = if s.station.grace = 0 then none else some (s.station.grace * 1000)
  begins   : s.station.grace = 0 → stepsMade s = true → s.ident.sender = none →
    i.sender = some (newSender s.station true (grantIsCw s))
  quiet    : s.station.grace ≠ 0 ∨ stepsMade s = false → i.sender = s.ident.sender

theorem becomePending_ident {s : State} (h : s.ident.pending = false) :
    ∃ i, becomePending s = idPendingReport (s.withIdent i) ∧ FallsDue s i := by
  unfold becomePending
  rw [if_neg (by simp [h])]
  by_cases hg : s.station.grace = 0
  · obtain ⟨i, hi, ho⟩ := becomeOverdue_ident (s.withIdent { s.ident with pending := true })
    refine ⟨i, congrArg idPendingReport ((if_pos hg).trans hi), ho.pending, ho.window, ho.periodic, ho.closing,
      ho.lastMode, ?_, ?_, fun _ => ho.begins, fun hn => ho.quiet (hn.resolve_left (· hg))⟩
    · rw [if_pos hg, ho.overdue]
    · rw [if_pos hg, ho.grace]
  · refine ⟨_, congrArg idPendingReport (if_neg hg), rfl, rfl, rfl, rfl, rfl, ?_, ?_, fun hn => absurd hn hg,
      fun _ => rfl⟩
    · rw [if_neg hg]
      rfl
    · rw [if_neg hg]
      rfl

/-! ### The floor's answer -/

section

variable {s : State}

theorem idPendingReport_serves (h : s.floor.state = .idle ∨ s.floor.state = .resting) :
    idPendingReport s = serve s := by
  rcases h with h | h <;> rw [idPendingReport, h]

theorem idPendingReport_hang (h : s.floor.state = .hang) : idPendingReport s = endTurnToIdent s := by
  rw [idPendingReport, h]

theorem idPendingReport_other (h1 : s.floor.state ≠ .idle) (h2 : s.floor.state ≠ .resting)
    (h3 : s.floor.state ≠ .hang) : idPendingReport s = s := by
  unfold idPendingReport
  split
  · next h => exact absurd h h1
  · next h => exact absurd h h2
  · next h => exact absurd h h3
  · rfl

/-- A serving point with an ID pending. -/
theorem serve_of_pending (hp : s.ident.pending = true) : serve s
    = if s.mode = .serving ∧ s.pins.txInhibit = false then enterIdent s else setFloorState .idle s := by
  split
  · next h => exact serve_pending s h.1 h.2 hp
  · next h =>
    rw [serve, if_pos]
    by_contra e
    simp only [not_or, not_not, Bool.not_eq_true] at e
    exact h e

theorem unkey_identFields (s : State) : { (unkey s).ident with sender := s.ident.sender } = s.ident := by
  unfold unkey
  split <;> simp [withdrawPoll, quietSender]

/-- The floor's answer to a pending ID does not reach the record, but for the sender that an unkey quiets. -/
theorem idPendingReport_ident (hp : s.ident.pending = true) :
    { (idPendingReport s).ident with sender := s.ident.sender } = s.ident := by
  unfold idPendingReport
  split
  · rw [serve_of_pending hp]
    split <;> simp
  · rw [serve_of_pending hp]
    split <;> simp
  · simpa [endTurnToIdent, endTurnCore] using unkey_identFields s
  · rfl

/-- The floor does not enter SETTING with an ID pending. -/
theorem idPendingReport_unentered {before : State} (hp : s.ident.pending = true) (hf : s.floor = before.floor) :
    enteredSetting before (idPendingReport s) = false := by
  unfold idPendingReport
  split
  · rw [serve_of_pending hp]
    split <;> simp [enteredSetting]
  · rw [serve_of_pending hp]
    split <;> simp [enteredSetting]
  · simp [enteredSetting, endTurnToIdent_floor]
  · simp [enteredSetting, hf]

end

/-- A state that differs from another in its identification record alone. -/
theorem ServePoint.withIdent {s : State} (h : s.floor.holder = none) (i : Ident) (hp : i.pending = s.ident.pending) :
    ServePoint s (s.withIdent i) :=
  ⟨h, rfl, rfl, rfl, rfl, rfl, rfl, rfl, hp, rfl, rfl, fun _ => rfl, fun _ => rfl⟩

/-- R64: the floor enters IDENT from IDLE or RESTING. -/
theorem idPending_enters {s : State} {i : Ident} (hs : s.floor.state = .idle ∨ s.floor.state = .resting)
    (hm : s.mode = .serving) (hi : s.pins.txInhibit = false) (hp : i.pending = true) (before : State) :
    IdentEntered s (closeAct before (idPendingReport (s.withIdent i)))
      ∧ (closeAct before (idPendingReport (s.withIdent i))).queue = s.queue := by
  have he : idPendingReport (s.withIdent i) = enterIdent (s.withIdent i) := by
    rw [idPendingReport_serves (s := s.withIdent i) hs, serve_of_pending (s := s.withIdent i) hp, if_pos ⟨hm, hi⟩]
  rw [he]
  exact ⟨identEntered_of (s := s) (w := s.withIdent i) rfl rfl rfl rfl rfl rfl before, by simp⟩

/-- R56: a hang is cut short into IDENT. -/
theorem idPending_hang {s : State} {i : Ident} {h : Holder} (hl : FloorLaw s) (hs : s.floor.state = .hang)
    (hh : s.floor.holder = some h) :
    TurnTold s (idPendingReport (s.withIdent i)) h .released .none
      ∧ (idPendingReport (s.withIdent i)).floor.state = .ident
      ∧ (NeedsStandby s → standbyOutstanding (idPendingReport (s.withIdent i)) = true) := by
  rw [idPendingReport_hang (s := s.withIdent i) hs]
  have hy : TurnYet s (s.withIdent i) h :=
    ⟨hh, rfl, attachment_isSome (hl.holder_attached h hh), hl.holder_not_queued h hh, rfl, rfl, rfl, rfl⟩
  refine ⟨hy.toldToIdent, by simp [endTurnToIdent_floor], fun hn => endTurnToIdent_needs ?_⟩
  exact hn.of_bus rfl rfl rfl

/-! ### Behind the close of the act -/

theorem closeAct_identRecord (before d : State) : (closeAct before d).ident = (settleClosing before d).ident := by
  simp [closeAct]

/-- R116: the closing timer is stopped where its conditions do not hold. -/
theorem closeAct_closing_stops {before d : State} (h : closingRuns d = false) :
    (closeAct before d).ident.closing = none := by
  rw [closeAct_identRecord, settleClosing, if_neg (by simp [h])]
  rfl

/-- R116: an act that leaves the conditions of the closing timer as they were leaves the record. -/
theorem closeAct_ident_same {s d : State} (hb : d.page.boardDue = false) (hr : closingRuns d = closingRuns s)
    (hc : d.ident.closing.isSome = true → closingRuns s = true) : (closeAct s d).ident = d.ident := by
  rw [closeAct_identRecord, settleClosing]
  split
  · next h => rw [if_pos ⟨hr ▸ h, hb⟩]
  · next h =>
    have hn : d.ident.closing = none := by
      by_contra hx
      exact h (hr.trans (hc (Option.isSome_iff_ne_none.2 hx)))
    rw [← hn]
    rfl

/-- An act whose deed is that an ID falls due. -/
theorem pending_gives {c : Instr} {f : State → State} {s : State} {j : Ident} {P : State → Prop}
    (hc : exec c s = .next (act f s)) (hr : Running s) (hf : f s = becomePending (s.withIdent j))
    (hj : j.pending = false)
    (hP : ∀ i, FallsDue (s.withIdent j) i → P (closeAct s (idPendingReport (s.withIdent i)))) :
    Gives (exec c s) P := by
  obtain ⟨i, hi, hd⟩ := becomePending_ident (s := s.withIdent j) hj
  refine gives_deed hc hr (hf.trans hi) ?_
  have hu : enteredSetting s (idPendingReport ((s.withIdent j).withIdent i)) = false :=
    idPendingReport_unentered (s := (s.withIdent j).withIdent i) hd.pending rfl
  rw [finishSetup_unentered hu]
  exact hP i hd

/-- What such an act leaves of the record. -/
theorem pending_fields {s : State} {i : Ident} (hp : i.pending = true) (before : State) :
    (closeAct before (idPendingReport (s.withIdent i))).ident.pending = true
      ∧ (closeAct before (idPendingReport (s.withIdent i))).ident.overdue = i.overdue
      ∧ (closeAct before (idPendingReport (s.withIdent i))).ident.periodic = i.periodic
      ∧ (closeAct before (idPendingReport (s.withIdent i))).ident.grace = i.grace := by
  obtain ⟨-, h1, h2, h3, h4, -⟩ := closeAct_identFields before (idPendingReport (s.withIdent i))
  have hi := idPendingReport_ident (s := s.withIdent i) hp
  have e1 := congrArg Ident.pending hi
  have e2 := congrArg Ident.overdue hi
  have e3 := congrArg Ident.periodic hi
  have e4 := congrArg Ident.grace hi
  exact ⟨h1.trans (e1.trans hp), h2.trans e2, h3.trans e3, h4.trans e4⟩

section

variable {s : State}

/-- R115: the periodic timer expires with no ID pending. -/
theorem periodic_gives {P : State → Prop} (hr : Running s) (h : s.ident.periodic.isSome = true)
    (hp : s.ident.pending = false)
    (hP : ∀ i, FallsDue (s.withIdent { s.ident with periodic := none }) i →
      P (closeAct s (idPendingReport (s.withIdent i)))) : Gives (exec .periodicIdExpiry s) P :=
  pending_gives (f := periodicExpired) rfl hr (if_pos h) hp hP

/-- R116: the closing timer expires with no ID pending. -/
theorem closing_gives {P : State → Prop} (hr : Running s) (h : s.ident.closing.isSome = true)
    (hp : s.ident.pending = false)
    (hP : ∀ i, FallsDue (s.withIdent { s.ident with closing := none }) i →
      P (closeAct s (idPendingReport (s.withIdent i)))) : Gives (exec .closingExpiry s) P :=
  pending_gives (f := closingExpired) rfl hr (if_pos h) hp hP

/-- R117: the states that do not act on a pending ID. -/
theorem pending_floor {i : Ident} (h1 : s.floor.state ≠ .idle) (h2 : s.floor.state ≠ .resting)
    (h3 : s.floor.state ≠ .hang) (before : State) :
    closeAct before (idPendingReport (s.withIdent i)) = closeAct before (s.withIdent i) := by
  rw [idPendingReport_other (s := s.withIdent i) h1 h2 h3]

/-- R64, R116: in IDENT the closing timer is stopped. -/
theorem pending_closing {i : Ident} (hs : s.floor.state = .idle) (hm : s.mode = .serving)
    (hi : s.pins.txInhibit = false) (hp : i.pending = true) (before : State) :
    (closeAct before (idPendingReport (s.withIdent i))).ident.closing = none := by
  refine closeAct_closing_stops ?_
  rw [idPendingReport_serves (s := s.withIdent i) (.inl hs), serve_of_pending (s := s.withIdent i) hp,
    if_pos ⟨hm, hi⟩]
  simp [closingRuns]

/-- R121: at the grace timer's expiry the ID is overdue. -/
theorem graceExpired_gives (hr : Running s) (h : s.ident.grace.isSome = true) :
    Gives (exec .graceExpiry s) fun t =>
        t.ident.overdue = true ∧ t.ident.grace = none ∧ t.floor = s.floor
          ∧ (stepsMade s = true → s.ident.sender = none →
              t.ident.sender = some (newSender s.station true (grantIsCw s)))
          ∧ (stepsMade s = false → t.ident.sender = s.ident.sender) := by
  obtain ⟨i, hi, ho⟩ := becomeOverdue_ident s
  have hd : graceExpired s = s.withIdent i := (if_pos h).trans hi
  refine gives_deed (f := graceExpired) rfl hr hd ?_
  rw [finishSetup_unentered (by simp [enteredSetting])]
  obtain ⟨-, -, h2, -, h4, -, h6⟩ := closeAct_identFields s (s.withIdent i)
  rw [h2, h4, h6]
  exact ⟨ho.overdue, ho.grace, closeAct_floor .., ho.begins, ho.quiet⟩

/-- R116: in IDLE under TX_INHIBIT, or while CONFIGURING, the closing timer makes an ID pending. -/
theorem closing_inhibited (hr : Running s) (hs : Settled s) (hc : s.ident.closing.isSome = true)
    (hp : s.ident.pending = false) (hm : s.mode = .configuring ∨ s.pins.txInhibit = true) :
    Gives (exec .closingExpiry s) fun t =>
          t.floor = s.floor ∧ t.queue = s.queue
            ∧ t.ident = { s.ident with
                pending := true, closing := none
                overdue := if s.station.grace = 0 then true else s.ident.overdue
                grace := if s.station.grace = 0 then none else some (s.station.grace * 1000) } := by
  have hcr := hs.closing hc
  have hcr' := hcr
  simp only [closingRuns, Bool.and_eq_true, beq_iff_eq, List.isEmpty_iff] at hcr'
  obtain ⟨⟨-, hidle⟩, -⟩ := hcr'
  refine closing_gives hr hc hp fun i hi => ?_
  have hst : stepsMade s = false := by simp [stepsMade, hidle]
  have hd : idPendingReport (s.withIdent i) = s.withIdent i := by
    rw [idPendingReport_serves (s := s.withIdent i) (.inl hidle), serve_of_pending (s := s.withIdent i) hi.pending,
      if_neg, setFloorState_same (s := s.withIdent i) hidle]
    rintro ⟨h1, h2⟩
    have h1' : s.mode = .serving := h1
    have h2' : s.pins.txInhibit = false := h2
    rcases hm with hm | hm
    · simp [h1'] at hm
    · simp [h2'] at hm
  rw [hd]
  have hid := closeAct_ident_same (s := s) (d := s.withIdent i) hs.board
    (by simp [closingRuns, hi.window]) fun _ => hcr
  refine ⟨closeAct_floor .., closeAct_queue .., hid.trans ?_⟩
  have hw := hi.window
  have h1 := hi.periodic
  have h2 := hi.closing
  have h3 := hi.lastMode
  have h4 := hi.overdue
  have h5 := hi.grace
  have h6 := hi.quiet (.inr hst)
  have h7 := hi.pending
  cases i
  simp only [withIdent_ident, withIdent_station] at *
  subst hw h1 h2 h3 h4 h5 h6 h7
  rfl

/-- R117: a timer that expires with an ID pending already is stopped, and nothing else. -/
theorem expired_pending {c : Instr} {f : State → State} {j : Ident} (hr : Running s) (hs : Settled s)
    (hc : exec c s = .next (act f s)) (hf : f s = s.withIdent j) (hw : j.window = s.ident.window)
    (hj : j.closing.isSome = true → s.ident.closing.isSome = true) :
    Gives (exec c s) fun t => t.floor = s.floor ∧ t.queue = s.queue ∧ t.ident = j := by
  refine gives_deed hc hr hf ?_
  rw [finishSetup_unentered (by simp [enteredSetting])]
  exact ⟨closeAct_floor .., closeAct_queue .., closeAct_ident_same (s := s) (d := s.withIdent j) hs.board
    (by simp [closingRuns, hw]) fun h => hs.closing (hj h)⟩

end

/-- Settles O40: by the timer, and by what the floor makes of a pending ID. -/
theorem identificationFallsDue : Obligations.IdentificationFallsDue := by
  unfold Obligations.IdentificationFallsDue
  intro s hr hl
  refine ⟨fun h hp hg => ?_, fun h hp hg hs hm hi => ?_, fun h hp hg => ?_, fun h hp hg hs hm hi => ?_,
    fun hst h => ⟨fun hp hm => closing_inhibited hr hst h hp hm, fun hp => ?_⟩, fun hst h hp => ?_,
    graceExpired_gives hr⟩
  · refine periodic_gives hr h hp fun i hi => ?_
    obtain ⟨h1, h2, h3, h4⟩ := pending_fields (s := s) hi.pending s
    rw [h2, h3, h4]
    refine ⟨h1, hi.periodic, hi.overdue.trans (if_neg hg), hi.grace.trans (if_neg hg),
      fun hs hm hx => idPending_enters hs hm hx hi.pending s, fun x hs hx => ?_, fun n1 n2 n3 => ?_⟩
    · obtain ⟨ht, hid, hn⟩ := idPending_hang (i := i) hl hs hx
      have hte := ht.ended
      rw [finishSetup_notSetting (by simp [hid])] at hte
      obtain ⟨hif, hwo, -⟩ := closeAct_work s (idPendingReport (s.withIdent i))
      exact ⟨hte, by simp [hid], fun hne => standbyOutstanding_of_bus (hn hne) hwo hif⟩
    · rw [pending_floor n1 n2 n3]
      exact ⟨closeAct_floor .., closeAct_queue ..⟩
  · refine closing_gives hr h hp fun i hi' => ?_
    obtain ⟨h1, -, -, h4⟩ := pending_fields (s := s) hi'.pending s
    rw [h4]
    exact ⟨h1, pending_closing hs hm hi hi'.pending s, hi'.grace.trans (if_neg hg),
      (idPending_enters (.inl hs) hm hi hi'.pending s).1⟩
  · refine periodic_gives hr h hp fun i hi => ?_
    obtain ⟨h1, h2, h3, h4⟩ := pending_fields (s := s) hi.pending s
    rw [h2, h3, h4]
    refine ⟨h1, hi.overdue.trans (if_pos hg), hi.grace.trans (if_pos hg), hi.periodic,
      fun hs hm hx => idPending_enters hs hm hx hi.pending s, fun hs => ?_⟩
    rw [pending_floor (by simp [hs]) (by simp [hs]) (by simp [hs])]
    obtain ⟨-, -, -, -, -, -, h6⟩ := closeAct_identFields s (s.withIdent i)
    rw [h6]
    exact ⟨closeAct_floor .., hi.begins hg⟩
  · refine closing_gives hr h hp fun i hi' => ?_
    obtain ⟨h1, h2, -, h4⟩ := pending_fields (s := s) hi'.pending s
    rw [h2, h4]
    exact ⟨h1, hi'.overdue.trans (if_pos hg), hi'.grace.trans (if_pos hg), pending_closing hs hm hi hi'.pending s,
      (idPending_enters (.inl hs) hm hi hi'.pending s).1⟩
  · refine expired_pending (f := closingExpired) hr hst rfl ?_ rfl (by simp)
    exact (if_pos h).trans (if_pos hp)
  · refine expired_pending (f := periodicExpired) hr hst rfl ?_ rfl id
    exact (if_pos h).trans (if_pos hp)

end Sys2Proof.Machine

/-! O41: an identification completes (R119, R122, R124, R128). -/

namespace Sys2Proof.Machine

/-! ### A serving point's floor and record -/

theorem serveEntries_ident (l : List Entry) (s : State) :
    { (serveEntries l s).ident with lastMode := s.ident.lastMode } = s.ident := by
  induction l generalizing s with
  | nil => simp [serveEntries]
  | cons e rest ih =>
    unfold serveEntries
    split
    · simpa using ih (endEntry .refusedAtGrant (.refusal _) e s)
    · simp
    · simp [makeHolder]

/-- R113: a serving point changes the record's last mode alone. -/
theorem serve_ident (s : State) : { (serve s).ident with lastMode := s.ident.lastMode } = s.ident := by
  unfold serve
  split
  · simp
  · split
    · simp
    · exact serveEntries_ident ..

/-- A serving point leaves the floor with a new holder in SETTING, or with nobody's turn. -/
inductive Served : Floor → Prop
  | setting {f} (hs : f.state = .setting) (hh : f.holder.isSome = true) : Served f
  | rests {f} (hs : f.state = .idle ∨ f.state = .resting ∨ f.state = .ident) : Served f

theorem serveEntries_served (l : List Entry) (s : State) : Served (serveEntries l s).floor := by
  induction l generalizing s with
  | nil => exact .rests (by simp [serveEntries])
  | cons e rest ih =>
    unfold serveEntries
    split
    · exact ih _
    · exact .rests (by simp)
    · exact .setting (by simp [makeHolder_floor]) (by simp [makeHolder_floor, Floor.begun])

theorem serve_served (s : State) : Served (serve s).floor := by
  unfold serve
  split
  · exact .rests (by simp)
  · split
    · exact .rests (by simp)
    · exact serveEntries_served ..

theorem Served.notOnAir {f : Floor} (h : Served f) : f.state ≠ .onAir := by
  cases h with
  | setting hs _ => simp [hs]
  | rests hs => rcases hs with hs | hs | hs <;> simp [hs]

/-! ### The window behind a completion -/

/-- R114, R119: the record as a completion has left it, up to the key request of a next turn. -/
structure Unsent (s u : State) : Prop where
  pending  : u.ident.pending = false
  overdue  : u.ident.overdue = false
  grace    : u.ident.grace = none
  sender   : u.ident.sender = none
  pins     : u.pins = s.pins
  believed : u.bus.believed = s.bus.believed
  mode     : u.mode = .serving
  inhibit  : u.pins.txInhibit = false
  station  : u.station = s.station

/-- R114, R119: nobody is on the air, and the window is closed unless a TUNE that met a fault opened it. -/
structure WindowShut (s u : State) : Prop where
  unkeyed : u.keying.state = .unkeyed
  served  : Served u.floor ∨ u.floor.state = .granted
  window  : u.ident.window = false ∧ u.ident.periodic = none
    ∨ s.pins.ampFault = true ∧ s.bus.believed.amp = some .operate

/-- R49, R70, R114: the next turn is on the air, and its key request opened the window. -/
structure WindowOpens (s u : State) : Prop where
  next   : NextOnAir u
  window : u.ident.window = true ∧ u.ident.periodic = some (s.station.idInterval * 60000)

section

variable {s u : State}

theorem Unsent.of_eq {t : State} (h : Unsent s u) (hi : { t.ident with lastMode := u.ident.lastMode } = u.ident)
    (hp : t.pins = u.pins) (hb : t.bus.believed = u.bus.believed) (hm : t.mode = u.mode)
    (hs : t.station = u.station) : Unsent s t := by
  have h1 := congrArg Ident.pending hi
  have h2 := congrArg Ident.overdue hi
  have h3 := congrArg Ident.grace hi
  have h4 := congrArg Ident.sender hi
  exact ⟨h1.trans h.pending, h2.trans h.overdue, h3.trans h.grace, h4.trans h.sender, hp.trans h.pins,
    hb.trans h.believed, hm.trans h.mode, by rw [hp]; exact h.inhibit, hs.trans h.station⟩

theorem Unsent.of_ident {t : State} (h : Unsent s u) (hi : t.ident = u.ident)
    (hp : t.pins = u.pins) (hb : t.bus.believed = u.bus.believed) (hm : t.mode = u.mode)
    (hs : t.station = u.station) : Unsent s t :=
  h.of_eq (by rw [hi]) hp hb hm hs

theorem unkey_identOf (s : State) (h : s.ident.sender = none) : (unkey s).ident = s.ident := by
  have := unkey_identFields s
  unfold unkey
  split
  · rfl
  · simp [withdrawPoll, quietSender, ← h]

/-- The way to IDLE behind a completion. -/
theorem Unsent.enterIdle (h : Unsent s u) :
    Unsent s (enterIdle u) ∧ (Machine.enterIdle u).ident.window = u.ident.window
      ∧ (Machine.enterIdle u).ident.periodic = u.ident.periodic := by
  have hse := serve_ident (setFloorState .idle u)
  simp only [setFloorState_frame] at hse
  have hb : (Machine.enterIdle u).bus.believed = u.bus.believed := by
    rw [Machine.enterIdle, serve_believed]
    simp
  have hw := congrArg Ident.window hse
  have hp := congrArg Ident.periodic hse
  exact ⟨h.of_eq hse (by simp) hb (by simp) (by simp), hw, hp⟩

/-- The end of a turn behind a completion. -/
theorem Unsent.endTurn {c : EndCause} {d : EndDetail} (h : Unsent s u) : Unsent s (endTurn c d u) := by
  have hi : (endTurnCore c d u).ident = u.ident := by
    simp [endTurnCore, unkey_identOf u h.sender]
  have hb : (endTurnCore c d u).bus.believed = u.bus.believed := by
    rw [endTurnCore_bus, closeSetup_believed, unkey_believed]
  have hc : Unsent s (endTurnCore c d u) := h.of_eq (by rw [hi]) (by simp) hb (by simp) (by simp)
  exact hc.enterIdle.1

theorem enterIdle_served (s : State) : Served (enterIdle s).floor := serve_served _

theorem endTurn_served (c : EndCause) (d : EndDetail) (s : State) : Served (endTurn c d s).floor :=
  enterIdle_served (endTurnCore c d s)

/-- R114: what an assertion of PTT_OUT makes of the record. -/
theorem assertPtt_ident (u : State) : (assertPtt u).ident = (openWindow u).ident := by
  unfold assertPtt
  simp only
  split <;> rfl

theorem openWindow_opens (h : u.ident.window = false) :
    (openWindow u).ident = { u.ident with window := true, periodic := some (u.station.idInterval * 60000) } := by
  rw [openWindow, if_neg (by simp [h])]
  rfl

theorem Unsent.assertPtt (h : Unsent s u) : Unsent s (assertPtt u) := by
  have hi : (Machine.assertPtt u).ident.pending = u.ident.pending
      ∧ (Machine.assertPtt u).ident.overdue = u.ident.overdue
      ∧ (Machine.assertPtt u).ident.grace = u.ident.grace
      ∧ (Machine.assertPtt u).ident.sender = u.ident.sender := by
    rw [assertPtt_ident]
    unfold openWindow
    split <;> exact ⟨rfl, rfl, rfl, rfl⟩
  obtain ⟨h1, h2, h3, h4⟩ := hi
  exact ⟨h1.trans h.pending, h2.trans h.overdue, h3.trans h.grace, h4.trans h.sender, by simpa using h.pins,
    by simpa using h.believed, by simpa using h.mode, by simpa using h.inhibit, by simpa using h.station⟩

/-- R114: a TUNE that meets no fault finds the window closed, and opens it. -/
theorem Unsent.opens (hu : Unsent s u) (h : u.ident.window = false ∧ u.ident.periodic = none
      ∨ s.pins.ampFault = true ∧ s.bus.believed.amp = some .operate) (hf : ampFaultHolds (Machine.assertPtt u) = false) :
    (Machine.assertPtt u).ident.window = true ∧ (Machine.assertPtt u).ident.periodic = some (s.station.idInterval * 60000) := by
  have hw : u.ident.window = false := by
    rcases h with hw | ⟨h1, h2⟩
    · exact hw.1
    · have : ampFaultHolds (Machine.assertPtt u) = true := by
        simp only [ampFaultHolds, Bool.and_eq_true, beq_iff_eq, bne_iff_ne, assertPtt_frame, hu.pins, hu.believed]
        exact ⟨⟨h1, assertPtt_keyed _⟩, h2⟩
      rw [hf] at this
      cases this
  rw [assertPtt_ident, openWindow_opens hw]
  exact ⟨rfl, by rw [hu.station]⟩

theorem WindowShut.endTurn (c : EndCause) (d : EndDetail) (v : State)
    (hf : s.pins.ampFault = true ∧ s.bus.believed.amp = some .operate) : WindowShut s (endTurn c d v) :=
  ⟨(endTurn_amp c d v).1, .inl (endTurn_served c d v), .inr hf⟩

/-- R114, R130, R136: a TUNE's key request behind a completion. -/
theorem Unsent.keyRequest (hu : Unsent s u) (hk : u.keying.state = .unkeyed) (ha : u.floor.state = .onAir)
    (ht : grantIsTune u = true) (hh : u.floor.holder.isSome = true) (hw : u.ident.window = false ∧ u.ident.periodic = none
      ∨ s.pins.ampFault = true ∧ s.bus.believed.amp = some .operate) :
    Unsent s (keyRequest u) ∧ (WindowShut s (keyRequest u) ∨ WindowOpens s (keyRequest u)) := by
  have hasked := hu.assertPtt
  have on {t : State} (hf : t.floor = u.floor) : NextOnAir t :=
    ⟨by rw [hf]; exact ha, by rw [hf]; exact hh, (grantIsTune_of_floor (by rw [hf])).trans ht⟩
  refine keyRequest_tune (P := fun t => Unsent s t ∧ (WindowShut s t ∨ WindowOpens s t)) ha ht
    (fun hn => ?_) (fun _ hf _ => ⟨hasked, .inr ⟨on (by simp), hu.opens hw hf⟩⟩)
    (fun _ hf _ => ⟨?_, .inr ⟨on (by simp [keyedState]), hu.opens hw hf⟩⟩) fun _ hf => ?_
  · have hm := mayKey_iff.2 ⟨hk, .inl ha, hu.mode, hu.inhibit⟩
    rw [hn] at hm
    cases hm
  · exact hasked.of_ident (by simp [keyedState]) (by simp [keyedState]) (by simp [keyedState]) (by simp [keyedState])
      (by simp [keyedState])
  · have hfault : s.pins.ampFault = true ∧ s.bus.believed.amp = some .operate := by
      simp only [ampFaultHolds, Bool.and_eq_true, beq_iff_eq, hasked.pins, hasked.believed] at hf
      exact ⟨hf.1.1, hf.2⟩
    have hv : Unsent s (ampOutOfService (unkey (Machine.assertPtt u))) :=
      hasked.of_ident (by simp [ampOutOfService, unkey_identOf _ hasked.sender]) (by simp [ampOutOfService])
        (by simp [ampOutOfService, unkey_believed]) (by simp [ampOutOfService]) (by simp [ampOutOfService])
    exact ⟨hv.endTurn, .inl (.endTurn _ _ _ hfault)⟩

/-- R49, R70, R114, R136: an empty setup behind a completion. -/
theorem Unsent.setUp {before : State} (hu : Unsent s u) (hw : WindowShut s u) (he : emptySetup before u = true) :
    Unsent s (setUp u) ∧ (WindowShut s (setUp u) ∨ WindowOpens s (setUp u)) := by
  have hu1 : Unsent s (placeSetup [] u) := hu.of_eq (by simp) (by simp) (by simp) (by simp) (by simp)
  have hh : (placeSetup [] u).floor.holder.isSome = true := by
    have hs := (emptySetup_state he).1
    rcases hw.served with hs' | hs'
    · cases hs' with
      | setting _ hh => simpa using hh
      | rests hr => rcases hr with hr | hr | hr <;> simp [hs] at hr
    · simp [hs] at hs'
  have hk : (placeSetup [] u).keying.state = .unkeyed := by simpa using hw.unkeyed
  rw [setUp_empty he]
  unfold setupComplete
  split
  · next ht =>
    have hu2 : Unsent s (onAirState (placeSetup [] u)) :=
      hu1.of_eq (by simp [onAirState]) (by simp [onAirState]) (by simp [onAirState]) (by simp [onAirState])
        (by simp [onAirState])
    rw [enterOnAir_eq]
    exact hu2.keyRequest (by simpa [onAirState] using hk) (by simp) ((grantIsTune_of_floor (by simp)).trans ht)
      (by simpa using hh) (by simpa [onAirState] using hw.window)
  · refine ⟨hu1.of_eq (by simp) (by simp) (by simp) (by simp) (by simp), .inl ⟨by simpa using hk, .inr ?_, ?_⟩⟩
    · simp [enterGranted]
    · simpa using hw.window

theorem WindowOpens.notEmpty {before : State} (h : WindowOpens s u) : emptySetup before u = false := by
  by_contra he
  have := (emptySetup_state (before := before) (s := u) (by simpa using he)).1
  simp [h.next.1] at this

theorem Unsent.finishSetup {before : State} (hu : Unsent s u) (hw : WindowShut s u) :
    Unsent s (finishSetup before u)
      ∧ (WindowShut s (Machine.finishSetup before u) ∨ WindowOpens s (Machine.finishSetup before u)) := by
  refine finishSetup_empty (P := fun t => Unsent s t ∧ (WindowShut s t ∨ WindowOpens s t)) ⟨hu, .inl hw⟩
    fun t he ht => ?_
  rcases ht.2 with hs | ho
  · exact ht.1.setUp hs he
  · rw [ho.notEmpty] at he
    cases he

end

/-! ### The completion in IDENT -/

/-- R119: the record, the window and the station behind steps 1 to 4. -/
def sentState (snd : Sender) (s : State) : State := unkey (raiseIdentNotice snd (closeWindow (quietSender s)))

theorem identDone_eq (snd : Sender) (s : State) : identDone snd s = enterIdle (sentState snd s) := rfl

theorem sentState_ident (snd : Sender) (s : State) : (sentState snd s).ident = (closeWindow (quietSender s)).ident := by
  have h : (raiseIdentNotice snd (closeWindow (quietSender s))).ident = (closeWindow (quietSender s)).ident := by
    simp [raiseIdentNotice]
  rw [sentState, unkey_identOf _ (by rw [h]; rfl), h]

theorem sentState_frame (snd : Sender) (s : State) : (sentState snd s).floor = s.floor
    ∧ (sentState snd s).queue = s.queue ∧ (sentState snd s).pins = s.pins ∧ (sentState snd s).mode = s.mode
    ∧ (sentState snd s).station = s.station ∧ (sentState snd s).ram = s.ram
    ∧ (sentState snd s).bus.believed = s.bus.believed ∧ (sentState snd s).keying.state = .unkeyed :=
  ⟨by simp [sentState, raiseIdentNotice, quietSender], by simp [sentState, raiseIdentNotice, quietSender],
    by simp [sentState, raiseIdentNotice, quietSender], by simp [sentState, raiseIdentNotice, quietSender],
    by simp [sentState, raiseIdentNotice, quietSender], by simp [sentState, raiseIdentNotice, quietSender],
    by simp [sentState, raiseIdentNotice, quietSender, unkey_believed], by simp [sentState]⟩

/-- R128: every ATTACHED seat is told. -/
theorem raiseIdentNotice_mem (snd : Sender) {s : State} {x : SeatNo} (h : s.seats[x].attachment.isSome = true) :
    (⟨.ident snd.overlay snd.byKey snd.length, s.stamp⟩ : Notice) ∈ (raiseIdentNotice snd s).seats[x].notices := by
  rw [raiseIdentNotice, raiseAll_getElem]
  exact Seat.mem_receive _ _ h

theorem idComplete_gives {s : State} {snd : Sender} (hr : Running s) (hsnd : s.ident.sender = some snd)
    (ho : snd.overlay = false) (hs : s.floor.state = .ident) :
    Gives (exec .idComplete s) fun t =>
        t.ident.pending = false ∧ t.ident.overdue = false ∧ t.ident.grace = none
          ∧ t.ident.sender = none ∧ (s.queue = [] → t.floor.state = .idle)
          ∧ (NextOnAir t → t.ident.window = true
              ∧ t.ident.periodic = some (s.station.idInterval * 60000))
          ∧ (¬ NextOnAir t → t.keying.state = .unkeyed
              ∧ (s.queue = [] ∨ s.pins.ampFault = false ∨ s.bus.believed.amp ≠ some .operate →
                  t.ident.window = false ∧ t.ident.periodic = none))
          ∧ (∀ x : SeatNo, s.seats[x].attachment.isSome = true →
              Noticed s t x (.ident false snd.byKey snd.length)) := by
  have hd : idComplete s = enterIdle (sentState snd s) := by
    rw [idComplete, hsnd]
    simp only [hs, ho, and_self, if_true]
    exact identDone_eq snd s
  obtain ⟨hf, hq, hp, hm, hst, hram, hb, hk⟩ := sentState_frame snd s
  have hid := sentState_ident snd s
  refine gives_deed (f := idComplete) rfl hr hd ?_
  have told (x : SeatNo) (hx : s.seats[x].attachment.isSome = true) :
      Noticed s (closeAct s (finishSetup s (enterIdle (sentState snd s)))) x (.ident false snd.byKey snd.length) := by
    have h1 := raiseIdentNotice_mem snd (s := closeWindow (quietSender s)) (x := x) hx
    rw [ho] at h1
    have h2 : (⟨.ident false snd.byKey snd.length, s.stamp⟩ : Notice) ∈ (sentState snd s).seats[x].notices := by
      simpa [sentState, quietSender] using h1
    have hsp : Spared 6 x (sentState snd s) := ⟨by simp, by simp, by simp⟩
    exact Spared.noticed (body := .ident false snd.byKey snd.length) ⟨by simp [NoticeBody.kind], by simp [NoticeBody.kind], by simp [NoticeBody.kind]⟩
      (hsp.enterIdle _ h2 rfl) (by simp [partHeld, hram])
  have hpend : (sentState snd s).ident.pending = false := by rw [hid]; rfl
  by_cases hall : s.mode = .serving ∧ s.pins.txInhibit = false ∧ s.queue ≠ []
  · obtain ⟨hsm, hsi, hsq⟩ := hall
    have hu : Unsent s (sentState snd s) :=
      ⟨hpend, by rw [hid]; rfl, by rw [hid]; rfl, by rw [hid]; rfl, hp, hb, hm.trans hsm, by rw [hp]; exact hsi, hst⟩
    obtain ⟨hu', hw1, hw2⟩ := hu.enterIdle
    have hw : WindowShut s (enterIdle (sentState snd s)) :=
      ⟨by simpa using hk, .inl (enterIdle_served _), .inl ⟨hw1.trans (by rw [hid]; rfl), hw2.trans (by rw [hid]; rfl)⟩⟩
    obtain ⟨hf1, hf2⟩ := hu'.finishSetup (before := s) hw
    generalize finishSetup s (enterIdle (sentState snd s)) = u at *
    obtain ⟨c1, c2, c3, c4, c5, -, c7⟩ := closeAct_identFields s u
    obtain ⟨k1, -, -⟩ := closeAct_keyingFields s u
    have hnext : NextOnAir (closeAct s u) ↔ NextOnAir u := by
      simp only [NextOnAir, grantIsTune, closeAct_floor]
    rw [c1, c2, c3, c4, c5, c7, k1, hnext]
    refine ⟨hf1.pending, hf1.overdue, hf1.grace, hf1.sender, fun h => absurd h hsq, fun hn => ?_, fun hn => ?_, told⟩
    · rcases hf2 with h | h
      · rcases h.served with hs' | hs'
        · exact absurd hn.1 hs'.notOnAir
        · have := hn.1
          rw [hs'] at this
          cases this
      · exact h.window
    · rcases hf2 with h | h
      · refine ⟨h.unkeyed, fun hx => ?_⟩
        rcases h.window with hw | ⟨h1, h2⟩
        · exact hw
        · rcases hx with hx | hx | hx
          · exact absurd hx hsq
          · rw [h1] at hx
            cases hx
          · exact absurd h2 hx
      · exact absurd h.next hn
  · have hi : enterIdle (sentState snd s) = setFloorState .idle (sentState snd s) := by
      have hx : (setFloorState .idle (sentState snd s)).mode = .configuring
          ∨ (setFloorState .idle (sentState snd s)).pins.txInhibit = true
          ∨ (setFloorState .idle (sentState snd s)).queue = [] := by
        simp only [setFloorState_frame, hm, hp, hq]
        by_contra hx
        simp only [not_or] at hx
        refine hall ⟨?_, by simpa using hx.2.1, hx.2.2⟩
        cases hmm : s.mode with
        | serving => rfl
        | configuring => exact absurd hmm hx.1
      have hsame : setFloorState .idle (setFloorState .idle (sentState snd s)) = setFloorState .idle (sentState snd s) :=
        setFloorState_same (by simp)
      rw [enterIdle]
      rcases hx with hx | hx | hx
      · rw [serve, if_pos (.inl (by rw [hx]; simp)), hsame]
      · rw [serve_inhibited _ hx, hsame]
      · rw [serve_empty _ hx (by simpa using hpend), hsame]
    rw [hi] at told ⊢
    rw [finishSetup_notSetting (by simp)] at told ⊢
    obtain ⟨c1, c2, c3, c4, c5, -, c7⟩ := closeAct_identFields s (setFloorState .idle (sentState snd s))
    obtain ⟨k1, -, -⟩ := closeAct_keyingFields s (setFloorState .idle (sentState snd s))
    rw [c1, c2, c3, c4, c5, c7, k1]
    simp only [setFloorState_frame, hid]
    exact ⟨rfl, rfl, rfl, rfl, fun _ => by simp, fun hn => absurd hn.1 (by simp), fun _ => ⟨hk, fun _ => ⟨rfl, rfl⟩⟩, told⟩

/-! ### The completion of an overlay -/

theorem overlayComplete_gives {s : State} {snd : Sender} (hr : Running s) (hsnd : s.ident.sender = some snd)
    (ho : snd.overlay = true) :
    Gives (exec .overlayComplete s) fun t =>
        t.ident.window = true ∧ t.ident.pending = false ∧ t.ident.overdue = false
          ∧ t.ident.periodic = some (s.station.idInterval * 60000) ∧ t.ident.grace = none
          ∧ t.ident.sender = none ∧ t.keying.state = s.keying.state ∧ t.floor = s.floor
          ∧ (watching t = true → t.watch.steps = 0 ∧ t.watch.disorder = 0)
          ∧ (∀ x : SeatNo, s.seats[x].attachment.isSome = true →
              Noticed s t x (.ident true snd.byKey snd.length)) := by
  have hd : overlayComplete s = overlayDone snd s := by
    rw [overlayComplete, hsnd]
    exact if_pos ho
  have hw : openWindow (closeWindow (quietSender s))
      = (closeWindow (quietSender s)).withIdent { (closeWindow (quietSender s)).ident with
          window := true, periodic := some (s.station.idInterval * 60000) } := rfl
  generalize hv : raiseIdentNotice snd (openWindow (closeWindow (quietSender s))) = v
  have hdv : overlayDone snd s = if watching v then restartWindow v else v := by rw [← hv]; rfl
  have hi : v.ident = { (closeWindow (quietSender s)).ident with
      window := true, periodic := some (s.station.idInterval * 60000) } := by
    rw [← hv, hw]
    simp [raiseIdentNotice]
  have hk : v.keying = s.keying := by rw [← hv]; simp [raiseIdentNotice, quietSender]
  have hf : v.floor = s.floor := by rw [← hv]; simp [raiseIdentNotice, quietSender]
  have hra : v.ram = s.ram := by rw [← hv]; simp [raiseIdentNotice, quietSender]
  have hn (x : SeatNo) (hx : s.seats[x].attachment.isSome = true) :
      (⟨.ident true snd.byKey snd.length, s.stamp⟩ : Notice) ∈ v.seats[x].notices := by
    rw [← hv, ← ho]
    exact raiseIdentNotice_mem snd hx
  have hall : (overlayDone snd s).ident = v.ident ∧ (overlayDone snd s).keying = v.keying
      ∧ (overlayDone snd s).floor = v.floor ∧ (overlayDone snd s).ram = v.ram ∧ (overlayDone snd s).seats = v.seats
      ∧ (watching v = true → (overlayDone snd s).watch.steps = 0 ∧ (overlayDone snd s).watch.disorder = 0) := by
    rw [hdv]
    split
    · exact ⟨rfl, rfl, rfl, rfl, rfl, fun _ => ⟨rfl, rfl⟩⟩
    · next h => exact ⟨rfl, rfl, rfl, rfl, rfl, fun h' => absurd h' h⟩
  obtain ⟨a1, a2, a3, a4, a5, a6⟩ := hall
  refine gives_act (f := overlayComplete) rfl hr (by rw [hd, a3, hf]) (by rw [hd, a3, hf]) ?_
  rw [hd]
  obtain ⟨c1, c2, c3, c4, c5, -, c7⟩ := closeAct_identFields s (overlayDone snd s)
  obtain ⟨k1, -, -⟩ := closeAct_keyingFields s (overlayDone snd s)
  rw [c1, c2, c3, c4, c5, c7, k1, a1, hi, a2, hk]
  refine ⟨rfl, rfl, rfl, rfl, rfl, rfl, rfl, (closeAct_floor ..).trans (a3.trans hf), fun hwt => ?_, fun x hx => ?_⟩
  · have : watching v = true := by
      have he : watching (closeAct s (overlayDone snd s)) = watching v := by
        simp only [watching, overlayInProgress, grantIsTune, closeAct_floor, k1, c7, a1, a2, a3]
      rw [← he]
      exact hwt
    simpa using a6 this
  · exact closeAct_noticed (by rw [a5]; exact hn x hx) (by simp only [partHeld, a4, hra])

/-! ### Morse -/

theorem keyOut_settled {t : State} (hs : Settled t) (hr : t.pins.resetLow = false) (hk : t.keying.state = .keyed)
    (hf : t.floor.state = .ident) {snd : Sender} (hsnd : t.ident.sender = some snd) (hb : snd.byKey = true) :
    keyOut t = senderGate t := by
  simp [keyOut, hr, hk, hs.key, selectKey, hf, hsnd, hb]

theorem morseElementEnd_gives {s : State} {snd : Sender} {x y : Element} {more : List Element} (hr : Running s)
    (hsnd : s.ident.sender = some snd) (he : snd.elements = x :: y :: more) :
      Gives (exec .morseElementEnd s) fun t =>
        t.ident.sender = some { snd with elements := y :: more, left := y.dots * snd.dot }
          ∧ t.floor = s.floor ∧ t.keying.state = s.keying.state
          ∧ (s.keying.state = .keyed → s.floor.state = .ident → snd.byKey = true →
              keyOut t = y.down) := by
  have hd : elementEnd s = s.withIdent { s.ident with
      sender := some { snd with elements := y :: more, left := y.dots * snd.dot } } := by
    rw [elementEnd, hsnd]
    simp only [he]
  refine gives_deed (f := elementEnd) rfl hr hd ?_
  rw [finishSetup_unentered (by simp [enteredSetting])]
  generalize hv : s.withIdent { s.ident with
      sender := some { snd with elements := y :: more, left := y.dots * snd.dot } } = v
  have hvs : v.ident.sender = some { snd with elements := y :: more, left := y.dots * snd.dot } := by rw [← hv]; rfl
  have hvf : v.floor = s.floor := by rw [← hv]; rfl
  have hvk : v.keying = s.keying := by rw [← hv]; rfl
  have hvp : v.pins = s.pins := by rw [← hv]; rfl
  obtain ⟨-, -, -, -, -, -, c7⟩ := closeAct_identFields s v
  obtain ⟨k1, -, -⟩ := closeAct_keyingFields s v
  refine ⟨c7.trans hvs, (closeAct_floor ..).trans hvf, k1.trans (by rw [hvk]), fun hk hf hb => ?_⟩
  rw [keyOut_settled (closeAct_settled s v) (by simpa [hvp] using hr) (k1.trans (by rw [hvk]; exact hk))
    (by simpa [hvf] using hf) (c7.trans hvs) hb]
  simp [senderGate, hvs]

/-- Settles O41: the elements follow one another, and the last one's end completes the sending. -/
theorem identificationCompletes : Obligations.IdentificationCompletes := by
  unfold Obligations.IdentificationCompletes
  intro s snd hr hsnd
  refine ⟨idComplete_gives hr hsnd, overlayComplete_gives hr hsnd, fun x y more => morseElementEnd_gives hr hsnd,
    fun x he => ?_⟩
  have hd : elementEnd s = if snd.overlay then overlayComplete s else idComplete s := by
    rw [elementEnd, hsnd]
    simp only [he]
  have h1 : exec .morseElementEnd s = .next (act elementEnd s) := rfl
  have h2 : exec .overlayComplete s = .next (act overlayComplete s) := rfl
  have h3 : exec .idComplete s = .next (act idComplete s) := rfl
  rw [h1, h2, h3, act_running hr, act_running hr, act_running hr, hd]
  split <;> rfl

end Sys2Proof.Machine

/-! O43: the amplifier status poll (R138 to R140). -/

namespace Sys2Proof.Machine

/-! ### What the floor leaves of the bus and of the amplifier -/

/-- The engine's own fields are none of the work list, the transaction in flight or the believed setting. -/
theorem engineKept_of_work {s t : State}
    (h : { t.bus with
      inFlight := s.bus.inFlight, floorWork := s.bus.floorWork, pollWork := s.bus.pollWork
      cellWork := s.bus.cellWork, believed := s.bus.believed } = s.bus) : Kept s t .engine := by
  simp only [Kept]
  rw [← h]
  simp

/-- A piece of what the floor does: it leaves the engine and what is believed, puts no transaction in flight, and
neither counts a poll's failure nor returns the amplifier to service. -/
structure OffBus (s t : State) : Prop where
  believed : t.bus.believed = s.bus.believed
  engine   : Kept s t .engine
  cells    : t.bus.cellWork = s.bus.cellWork
  flight   : s.bus.inFlight = none → t.bus.inFlight = none
  failures : s.keying.failures = 0 → t.keying.failures = 0
  out      : s.keying.ampInService = false → t.keying.ampInService = false

section

variable {s t u : State}

theorem OffBus.refl (s : State) : OffBus s s := ⟨rfl, engineKept_of_work rfl, rfl, id, id, id⟩

theorem OffBus.trans (h : OffBus s t) (h' : OffBus t u) : OffBus s u :=
  ⟨h'.believed.trans h.believed, h.engine.trans h'.engine, h'.cells.trans h.cells,
    fun e => h'.flight (h.flight e), fun e => h'.failures (h.failures e), fun e => h'.out (h.out e)⟩

theorem OffBus.of_eq (hb : t.bus = s.bus) (hf : t.keying.failures = s.keying.failures)
    (ha : t.keying.ampInService = s.keying.ampInService) : OffBus s t :=
  ⟨by rw [hb], engineKept_of_work (by rw [hb]), by rw [hb], by rw [hb]; exact id, by rw [hf]; exact id,
    by rw [ha]; exact id⟩

theorem unkey_offBus (s : State) : OffBus s (unkey s) := by
  unfold unkey
  split
  · exact .refl s
  · exact ⟨rfl, engineKept_of_work rfl, rfl, id, fun _ => rfl, id⟩

theorem placeFloorTxn_offBus (o : Owner) (m : Message) (s : State) : OffBus s (placeFloorTxn o m s) :=
  ⟨rfl, engineKept_of_work rfl, rfl, id, id, id⟩

theorem closeSetup_offBus (c : EndCause) (s : State) : OffBus s (closeSetup c s) := by
  have hc : OffBus s (cancelSetup s) := ⟨rfl, engineKept_of_work rfl, rfl, fun e => by simp [cancelSetup, e], id, id⟩
  rw [closeSetup_eq]
  split
  · exact hc.trans (placeFloorTxn_offBus ..)
  · exact hc

theorem endTurnCore_offBus (c : EndCause) (d : EndDetail) (s : State) : OffBus s (endTurnCore c d s) :=
  ((unkey_offBus s).trans (closeSetup_offBus c _)).trans
    (.of_eq (endTurnCore_bus c d s) (by simp [endTurnCore]) (by simp [endTurnCore]))

theorem setFloorState_offBus (new : FloorState) (s : State) : OffBus s (setFloorState new s) :=
  .of_eq (by simp) (by simp) (by simp)

theorem enterIdent_offBus (s : State) : OffBus s (enterIdent s) := by
  have h : OffBus s (identReady s) := by
    unfold identReady
    simp only
    split
    · exact ⟨rfl, engineKept_of_work rfl, rfl, id, id, id⟩
    · exact .of_eq rfl rfl rfl
  exact h.trans (setFloorState_offBus ..)

theorem serve_offBus (s : State) : OffBus s (serve s) := by
  unfold serve
  split
  · exact setFloorState_offBus ..
  · split
    · exact enterIdent_offBus s
    · exact .of_eq (by simp) (by simp) (by simp)

theorem enterIdle_offBus (s : State) : OffBus s (enterIdle s) := (setFloorState_offBus .idle s).trans (serve_offBus _)

theorem endTurn_offBus (c : EndCause) (d : EndDetail) (s : State) : OffBus s (endTurn c d s) :=
  (endTurnCore_offBus c d s).trans (enterIdle_offBus _)

theorem assertPtt_offBus (s : State) : OffBus s (assertPtt s) := by
  refine .of_eq (by simp) ?_ ?_ <;>
  · unfold assertPtt openWindow
    simp only
    (repeat' split) <;> rfl

theorem ampOutOfService_offBus (s : State) : OffBus s (ampOutOfService s) := ⟨rfl, engineKept_of_work rfl, rfl, id, id, fun _ => rfl⟩

/-- R49: a setup that is complete. -/
theorem setupComplete_offBus (s : State) : OffBus s (setupComplete s) := by
  unfold setupComplete
  split
  · next ht =>
    have ho : OffBus s (onAirState s) := .of_eq (by simp [onAirState]) (by simp [onAirState]) (by simp [onAirState])
    have ht2 : grantIsTune (onAirState s) = true := (grantIsTune_of_floor (by simp)).trans ht
    rw [enterOnAir_eq]
    refine ho.trans (keyRequest_tune (by simp) ht2 (fun _ => .refl _) (fun _ _ _ => assertPtt_offBus _)
      (fun _ _ _ => (assertPtt_offBus _).trans (.of_eq (by simp [keyedState]) (by simp [keyedState])
        (by simp [keyedState]))) fun _ _ => ?_)
    exact (((assertPtt_offBus _).trans (unkey_offBus _)).trans (ampOutOfService_offBus _)).trans (endTurn_offBus ..)
  · exact .of_eq (by simp) (by simp) (by simp)

theorem setUp_offBus {before : State} (he : emptySetup before s = true) : OffBus s (setUp s) := by
  have hp : OffBus s (placeSetup [] s) := .of_eq (by simp) (by simp) (by simp)
  rw [setUp_empty he]
  exact hp.trans (setupComplete_offBus _)

theorem finishSetup_offBus (before s : State) : OffBus s (finishSetup before s) :=
  finishSetup_empty (OffBus.refl s) fun _ he ht => ht.trans (setUp_offBus he)

/-- R140: a failure count of 0 stays 0 at the close of the act. -/
theorem closeAct_failures {before : State} (h : s.keying.failures = 0) : (closeAct before s).keying.failures = 0 := by
  have hk : (closeAct before s).keying.failures = (settlePoll (settleClosing before s)).keying.failures := by
    simp [closeAct, settleLines]
  rw [hk]
  unfold settlePoll
  (repeat' split) <;> simp [h]

theorem closeAct_offBus (before s : State) : OffBus s (closeAct before s) := by
  obtain ⟨h1, h2, h3⟩ := closeAct_work before s
  exact ⟨closeAct_believed .., closeAct_kept before s .engine, h3, fun e => h1.trans e, closeAct_failures,
    fun e => (closeAct_keyingFields before s).2.2.trans e⟩

/-- R138: what the close of an act leaves of the poll where its conditions have not changed. -/
theorem closeAct_poll {before : State} (h : s.keying.poll.isSome = pollRuns s) :
    (closeAct before s).bus = s.bus ∧ (closeAct before s).keying.poll = s.keying.poll
      ∧ (closeAct before s).keying.failures = s.keying.failures := by
  have hc : (settleClosing before s).keying = s.keying ∧ (settleClosing before s).bus = s.bus
      ∧ pollRuns (settleClosing before s) = pollRuns s := by
    refine ⟨by simp, by simp, by simp [pollRuns]⟩
  have hs : settlePoll (settleClosing before s) = settleClosing before s := by
    unfold settlePoll
    rw [hc.1, hc.2.2, ← h]
    split
    · rfl
    · rfl
  have hk : (closeAct before s).keying.poll = (settlePoll (settleClosing before s)).keying.poll
      ∧ (closeAct before s).keying.failures = (settlePoll (settleClosing before s)).keying.failures
      ∧ (closeAct before s).bus = (settlePoll (settleClosing before s)).bus := by
    simp [closeAct, settleLines]
  rw [hs] at hk
  exact ⟨hk.2.2.trans hc.2.1, hk.1.trans (by rw [hc.1]), hk.2.1.trans (by rw [hc.1])⟩

end

/-! ### The poll's expiry and its failures -/

theorem pollExpired_gives {s : State} (hr : Running s) (hs : Settled s) (hp : s.keying.poll.isSome = true)
    (ho : pollOutstanding s = false) :
    Gives (exec .pollTimerExpiry s) fun t =>
      t.bus = { s.bus with pollWork := some ⟨.status, .poll, 0, 0, 0⟩ }
        ∧ t.keying.poll = some 1000 ∧ t.floor = s.floor := by
  have ho' : pollOutstanding (s.withKeying { s.keying with poll := some 1000 }) = false := ho
  have hd : pollExpired s = (s.withKeying { s.keying with poll := some 1000 }).withBus
      { s.bus with pollWork := some (newTxn .poll .status) } := by
    rw [pollExpired, if_pos hp, placePoll, if_neg (by simp [ho'])]
    rfl
  refine gives_deed (f := pollExpired) rfl hr hd ?_
  rw [finishSetup_unentered (by simp [enteredSetting])]
  have hrun : pollRuns s = true := by rw [← hs.poll, hp]
  obtain ⟨h1, h2, -⟩ := closeAct_poll (before := s) (s := (s.withKeying { s.keying with poll := some 1000 }).withBus
      { s.bus with pollWork := some (newTxn .poll .status) }) (by
    have : pollRuns ((s.withKeying { s.keying with poll := some 1000 }).withBus
      { s.bus with pollWork := some (newTxn .poll .status) }) = pollRuns s := rfl
    rw [this, hrun]
    rfl)
  exact ⟨h1, h2, closeAct_floor ..⟩

/-- R63: an EQUIPMENT report while ON_AIR. -/
theorem equipmentReport_onAir {s : State} {d : EquipDetail} (h : s.floor.state = .onAir) :
    equipmentReport d s = endTurn .equipment (.equipment d) s := if_pos h

theorem noStatusReport_onAir {s : State} (h : s.floor.state = .onAir) : noStatusReport s
    = endTurn .equipment (.equipment .noStatus) (s.withKeying { s.keying with failures := 0 }) :=
  equipmentReport_onAir (s := s.withKeying { s.keying with failures := 0 }) h

/-- A state in which the holder's turn still runs, changed in its keying and its bus alone. -/
theorem TurnYet.of_keying {s u : State} {h : Holder} (hl : FloorLaw s) (hh : s.floor.holder = some h)
    (hf : u.floor = s.floor) (hq : u.queue = s.queue) (hs : u.seats = s.seats) (hst : u.station = s.station)
    (hb : u.bus.believed.amp = s.bus.believed.amp) (ht : u.stamp = s.stamp) (hr : u.ram = s.ram) : TurnYet s u h :=
  ⟨by rw [hf]; exact hh, by rw [hf], by rw [hs]; exact attachment_isSome (hl.holder_attached h hh),
    by rw [hq]; exact hl.holder_not_queued h hh, by rw [hst], hb, ht, by simp [partHeld, hr]⟩

theorem noStatus_gives {s : State} {h : Holder} (hr : Running s) (hl : FloorLaw s) (hf : 2 ≤ s.keying.failures)
    (ha : s.floor.state = .onAir) (hh : s.floor.holder = some h) :
    Gives (exec .noStatus s) fun t =>
      EndedToIdle s t h .equipment (.equipment .noStatus) ∧ t.keying.failures = 0 := by
  have hd : noStatusReached s = endTurn .equipment (.equipment .noStatus)
      (s.withKeying { s.keying with failures := 0 }) := by
    rw [noStatusReached, if_pos hf, noStatusReport_onAir ha]
  refine gives_deed (f := noStatusReached) rfl hr hd ⟨?_, ?_⟩
  · have hy : TurnYet s (s.withKeying { s.keying with failures := 0 }) h :=
      .of_keying hl hh rfl rfl rfl rfl rfl rfl rfl
    exact hy.endedToIdle _ _ rfl rfl
  · exact closeAct_failures ((finishSetup_offBus ..).failures ((endTurn_offBus ..).failures rfl))

/-! ### A poll's outcome -/

/-- R139, R140: the outcome of a poll goes to the keying unit; a query leaves what is believed. -/
theorem finishTxn_poll {s : State} {x : Txn} (o : TxnOutcome) (reply : List Byte) (ho : x.owner = .poll)
    (hm : x.message = .status) :
    finishTxn x o reply s = pollReport o reply (s.withBus { s.bus with inFlight := none }) := by
  have hb : s.bus.believed.after s.station x.message o = s.bus.believed := by rw [hm]; rfl
  unfold finishTxn reportOutcome
  simp only [ho, withBus_bus, withBus_station, hb]
  rfl

theorem attempting_sending {s : State} {x : Txn} (he : s.bus.engine = .sending) (hx : s.bus.inFlight = some x) :
    attempting s = some x := by
  rw [attempting, if_pos (.inl he), hx]

theorem exec_attemptEnd (e : AttemptEnd) (s : State) : exec (.busAttemptEnd e) s = .next (act (attemptEnd e) s) := rfl

/-- R147: the part's closing sent, and its transaction off the bus. -/
def landed (s : State) : State :=
  s.withBus { s.bus with engine := .sending, attemptOpen := false, inFlight := none }

theorem TurnYet.landed {s : State} {h : Holder} (hl : FloorLaw s) (hh : s.floor.holder = some h) (k : Keying) :
    TurnYet s ((Machine.landed s).withKeying k) h := .of_keying hl hh rfl rfl rfl rfl rfl rfl rfl

/-- R139: a poll answered while ON_AIR. -/
theorem pollAnswered_gives {s : State} {h : Holder} {x : Txn} {fault swr check : Byte} (hr : Running s)
    (hl : FloorLaw s) (he : s.bus.engine = .sending) (hx : s.bus.inFlight = some x) (ho : x.owner = .poll)
    (hm : x.message = .status) (had : x.address ≠ s.station.ownAddress)
    (hc : checkByteOf [addressByteOf x.address true, 3, 6, fault, swr] = check) (ha : s.floor.state = .onAir)
    (hh : s.floor.holder = some h) :
      Gives (exec (.busAttemptEnd (.acknowledged [6, fault, swr] check)) s) fun t =>
        t.bus.inFlight = none ∧ t.keying.failures = 0
          ∧ (fault ≠ 0 → t.keying.ampInService = false
              ∧ EndedToIdle s t h .equipment (.equipment .ampFault))
          ∧ (fault = 0 → s.station.swrLimit < swr.toNat →
              EndedToIdle s t h .equipment (.equipment .reflection))
          ∧ (fault = 0 → swr.toNat ≤ s.station.swrLimit →
              t.floor = s.floor ∧ t.keying.state = s.keying.state) := by
  have hwrong : attemptWrong s x [6, fault, swr] check = false := by
    have hhead : x.header = [addressByteOf x.address true, 3] := by rw [Txn.header, hm]; rfl
    have hright : x.replyRight [6, fault, swr] check = true := by
      simp only [Txn.replyRight, hm, hhead, Message.length, List.length_cons, List.length_nil,
        List.cons_append, List.nil_append, hc]
      simp [statusKind]
    rw [attemptWrong, hright]
    simp [had]
  have hd : attemptEnd (.acknowledged [6, fault, swr] check) s
      = pollAnswered fault swr (landed s) := by
    rw [attemptEnd, attempting_sending he hx]
    simp only [hwrong, Bool.false_eq_true, if_false]
    rw [finishTxn_poll .done _ ho hm]
    rfl
  refine gives_deed (exec_attemptEnd _ s) hr hd ?_
  have hz : ((landed s).withKeying { s.keying with failures := 0 }).bus.inFlight = none := rfl
  have close {d : State} (ho : OffBus ((landed s).withKeying { s.keying with failures := 0 }) d) :
      (closeAct s (finishSetup s d)).bus.inFlight = none ∧ (closeAct s (finishSetup s d)).keying.failures = 0 := by
    have := (ho.trans (finishSetup_offBus s d)).trans (closeAct_offBus s _)
    exact ⟨this.flight rfl, this.failures rfl⟩
  by_cases hf : fault = 0
  · by_cases hsw : s.station.swrLimit < swr.toNat
    · have hp : pollAnswered fault swr (landed s) = endTurn .equipment (.equipment .reflection)
          ((landed s).withKeying { s.keying with failures := 0 }) := by
        have : pollAnswered fault swr (landed s)
            = equipmentReport .reflection ((landed s).withKeying { s.keying with failures := 0 }) :=
          (if_neg (not_not.2 hf)).trans (if_pos hsw)
        rw [this]
        exact equipmentReport_onAir ha
      rw [hp]
      obtain ⟨c1, c2⟩ := close (endTurn_offBus .equipment (.equipment .reflection) _)
      exact ⟨c1, c2, fun h => absurd hf h, fun _ _ => (TurnYet.landed hl hh _).endedToIdle _ _ rfl rfl,
        fun _ h => absurd hsw (not_lt.2 h)⟩
    · have hp : pollAnswered fault swr (landed s) = (landed s).withKeying { s.keying with failures := 0 } :=
        (if_neg (not_not.2 hf)).trans (if_neg hsw)
      rw [hp]
      obtain ⟨c1, c2⟩ := close (.refl _)
      refine ⟨c1, c2, fun h => absurd hf h, fun _ h => absurd h hsw, fun _ _ => ?_⟩
      rw [finishSetup_unentered (by simp [enteredSetting, landed])]
      exact ⟨closeAct_floor .., (closeAct_keyingFields ..).1⟩
  · generalize hv : ampOutOfService ((landed s).withKeying { s.keying with failures := 0 }) = v
    have hu : OffBus ((landed s).withKeying { s.keying with failures := 0 })
        (if v.bus.believed.amp = some .operate then unkey v else v) := by
      rw [← hv]
      split
      · exact (ampOutOfService_offBus _).trans (unkey_offBus _)
      · exact ampOutOfService_offBus _
    have hout : (if v.bus.believed.amp = some .operate then unkey v else v).keying.ampInService = false := by
      have : v.keying.ampInService = false := by rw [← hv]; rfl
      split
      · exact (unkey_offBus v).out this
      · exact this
    have hy : TurnYet s (if v.bus.believed.amp = some .operate then unkey v else v) h := by
      have hyv : TurnYet s v h := by
        rw [← hv]
        exact .of_keying hl hh rfl rfl rfl rfl rfl rfl rfl
      split
      · exact hyv.unkey
      · exact hyv
    have hpend : (if v.bus.believed.amp = some .operate then unkey v else v).ident.pending = s.ident.pending
        ∧ (if v.bus.believed.amp = some .operate then unkey v else v).queue = s.queue
        ∧ (if v.bus.believed.amp = some .operate then unkey v else v).floor.state = .onAir := by
      rw [← hv]
      split
      · exact ⟨unkey_pending _, by simp [ampOutOfService, landed], by simpa [ampOutOfService, landed] using ha⟩
      · exact ⟨rfl, rfl, ha⟩
    have hp : pollAnswered fault swr (landed s)
        = equipmentReport .ampFault (if v.bus.believed.amp = some .operate then unkey v else v) := by
      rw [← hv]
      exact if_pos hf
    rw [hp]
    generalize (if v.bus.believed.amp = some .operate then unkey v else v) = w at *
    rw [equipmentReport_onAir hpend.2.2]
    have hoff := hu.trans (endTurn_offBus .equipment (.equipment .ampFault) w)
    obtain ⟨c1, c2⟩ := close hoff
    refine ⟨c1, c2, fun _ => ⟨?_, hy.endedToIdle _ _ hpend.2.1 hpend.1⟩, fun h => absurd h hf, fun h => absurd h hf⟩
    exact (((endTurn_offBus ..).trans (finishSetup_offBus s _)).trans (closeAct_offBus s _)).out hout

/-- R140: a poll that fails while ON_AIR. -/
theorem pollFailed_gives {s : State} {h : Holder} {x : Txn} (hr : Running s) (hl : FloorLaw s)
    (he : s.bus.engine = .sending) (hx : s.bus.inFlight = some x) (ho : x.owner = .poll) (hm : x.message = .status)
    (hat : 3 ≤ x.attempts) (ha : s.floor.state = .onAir) (hh : s.floor.holder = some h) :
      Gives (exec (.busAttemptEnd .noAcknowledge) s) fun t =>
        t.bus.inFlight = none
          ∧ (s.keying.failures < 2 → t.floor = s.floor
              ∧ (Settled s → t.keying.failures = s.keying.failures + 1))
          ∧ (2 ≤ s.keying.failures →
              EndedToIdle s t h .equipment (.equipment .noStatus) ∧ t.keying.failures = 0) := by
  have hd : attemptEnd .noAcknowledge s = pollFailed (landed s) := by
    have h1 : attemptEnd .noAcknowledge s = attemptRefused x s := by
      rw [attemptEnd, attempting_sending he hx]
    have h2 : attemptRefused x s = finishTxn x .noAck [] (sendClosing s) := if_pos (by omega)
    rw [h1, h2, finishTxn_poll .noAck _ ho hm]
    rfl
  refine gives_deed (exec_attemptEnd _ s) hr hd ?_
  by_cases hf : 2 ≤ s.keying.failures
  · have hp : pollFailed (landed s) = endTurn .equipment (.equipment .noStatus)
        ((landed s).withKeying { s.keying with failures := 0 }) := by
      have h3 : 3 ≤ (landed s).keying.failures + 1 := by
        have : (landed s).keying.failures = s.keying.failures := rfl
        omega
      rw [pollFailed, if_pos h3]
      exact noStatusReport_onAir (s := landed s) ha
    rw [hp]
    have hoff := ((endTurn_offBus .equipment (.equipment .noStatus) ((landed s).withKeying
      { s.keying with failures := 0 })).trans (finishSetup_offBus s _)).trans (closeAct_offBus s _)
    exact ⟨hoff.flight rfl, fun h => absurd hf (not_le.2 h), fun _ =>
      ⟨(TurnYet.landed hl hh _).endedToIdle _ _ rfl rfl, hoff.failures rfl⟩⟩
  · have hp : pollFailed (landed s) = (landed s).withKeying { s.keying with failures := s.keying.failures + 1 } := by
      have h3 : ¬ 3 ≤ (landed s).keying.failures + 1 := by
        have : (landed s).keying.failures = s.keying.failures := rfl
        omega
      rw [pollFailed, if_neg h3]
      rfl
    rw [hp, finishSetup_unentered (by simp [enteredSetting, landed])]
    refine ⟨(closeAct_offBus s _).flight rfl, fun _ => ⟨closeAct_floor .., fun hs => ?_⟩, fun h => absurd h hf⟩
    exact (closeAct_poll (before := s) (s := (landed s).withKeying
      { s.keying with failures := s.keying.failures + 1 }) hs.poll).2.2

/-- Settles O43: the query, the findings and the failures of the poll. -/
theorem amplifierIsPolled : Obligations.AmplifierIsPolled := by
  unfold Obligations.AmplifierIsPolled
  intro s hr hl
  exact ⟨fun hs hp ho => pollExpired_gives hr hs hp ho, fun h hf ha hh => noStatus_gives hr hl hf ha hh,
    fun h x fault swr check he hx ho hm had hc ha hh => pollAnswered_gives hr hl he hx ho hm had hc ha hh,
    fun h x he hx ho hm hat ha hh => pollFailed_gives hr hl he hx ho hm hat ha hh⟩

end Sys2Proof.Machine

/-! O13, O15: keying up and the playout step (R53, R64, R90 to R94, R105, R108, R111, R118, R126, R131). -/

namespace Sys2Proof.Machine

/-! ### The playout step up to the watch (R91, R93, R94) -/

/-- A change of the playout queue and of the seats' counters alone. -/
structure StreamOnly (s d : State) : Prop where
  rest  : d = (s.withSeats d.seats).withPlayout d.playout
  seats : ∀ x : SeatNo, d.seats[x]
    = { s.seats[x] with counters := d.seats[x].counters, saturated := d.seats[x].saturated }

section

variable {s d u : State}

theorem StreamOnly.withPlayout (p : Playout) : StreamOnly s (s.withPlayout p) := ⟨rfl, fun _ => rfl⟩

theorem StreamOnly.trans (h : StreamOnly s d) (h' : StreamOnly d u) : StreamOnly s u where
  rest := by
    rw [h'.rest, h.rest]
    rfl
  seats := fun x => by
    have e := h'.seats x
    rw [h.seats x] at e
    exact e

theorem StreamOnly.fields (h : StreamOnly s d) :
    d.floor = s.floor ∧ d.keying = s.keying ∧ d.watch = s.watch ∧ d.queue = s.queue ∧ d.bus = s.bus
      ∧ d.ident = s.ident ∧ d.station = s.station ∧ d.stamp = s.stamp ∧ d.ram = s.ram := by
  rw [h.rest]
  exact ⟨rfl, rfl, rfl, rfl, rfl, rfl, rfl, rfl, rfl⟩

theorem StreamOnly.seat (h : StreamOnly s d) (x : SeatNo) :
    d.seats[x].attachment = s.seats[x].attachment ∧ d.seats[x].notices = s.seats[x].notices
      ∧ d.seats[x].criteria = s.seats[x].criteria ∧ d.seats[x].warned = s.seats[x].warned := by
  rw [h.seats x]
  exact ⟨rfl, rfl, rfl, rfl⟩

theorem raiseCounter_stream (seat : SeatNo) (n : CounterName) (s : State) :
    StreamOnly s (raiseCounter seat n s) where
  rest := rfl
  seats := fun x => by
    rw [raiseCounter, modSeat_getElem]
    split
    · next hx =>
      subst hx
      unfold Seat.count
      repeat' split
      all_goals rfl
    · rfl

theorem raiseHolderCounter_stream (n : CounterName) (s : State) : StreamOnly s (raiseHolderCounter n s) := by
  unfold raiseHolderCounter
  split
  · exact raiseCounter_stream _ n s
  · exact .withPlayout s.playout

theorem finishStep_eq (s : State) : ∃ key step,
    finishStep s = s.withPlayout { s.playout with carriedKey := key, step := step } := by
  unfold finishStep
  split
  · exact ⟨_, _, rfl⟩
  · exact ⟨s.playout.carriedKey, s.playout.step, rfl⟩

/-- R93: short of its 250th count the trim test moves the trim run alone. -/
theorem trimTest_eq (h : s.playout.trimRun < 249) :
    ∃ n, trimTest s = s.withPlayout { s.playout with trimRun := n } := by
  unfold trimTest
  split
  · rw [if_neg (by omega)]
    exact ⟨_, rfl⟩
  · exact ⟨_, rfl⟩

theorem trimFrame_stream (s : State) :
    StreamOnly s (trimFrame s) ∧ (trimFrame s).playout.u = s.playout.u := by
  unfold trimFrame
  split
  · exact ⟨(StreamOnly.withPlayout _).trans (raiseHolderCounter_stream ..), by simp [Playout.drop]⟩
  · exact ⟨.withPlayout s.playout, rfl⟩

theorem trimTest_stream (s : State) : StreamOnly s (trimTest s) ∧ (trimTest s).playout.u = s.playout.u := by
  unfold trimTest
  split
  · split
    · exact trimFrame_stream s
    · exact ⟨.withPlayout _, rfl⟩
  · exact ⟨.withPlayout _, rfl⟩

/-- R91 step 1: the frame of np is played. -/
theorem playFrame_plays {np : BitVec 16} {f : Frame}
    (hf : s.playout.frames.find? (fun x => x.seq == np) = some f) :
    ∃ c, playFrame np s = s.withPlayout { s.playout.drop np with u := 0, step := c }
      ∧ (∀ v, f.payload = .voice v → c = .samples v)
      ∧ ∀ ts, f.payload = .cw ts → c = .keying (effectOrder ts) := by
  unfold playFrame
  rw [hf]
  obtain ⟨seq, payload⟩ := f
  cases payload with
  | voice v => exact ⟨.samples v, rfl, by simp, by simp⟩
  | cw ts => exact ⟨.keying (effectOrder ts), rfl, by simp, by simp⟩

theorem find?_of_not_holds {p : Playout} {np : BitVec 16} (h : p.holds np = false) :
    p.frames.find? (fun x => x.seq == np) = none := by
  simpa [Playout.holds] using h

/-- R91 step 2: without the frame of np silence is played, and u and the underflow counter rise. -/
theorem playFrame_silent {np : BitVec 16} {h : Holder} (hn : s.playout.holds np = false)
    (ho : overlayInProgress s = false) (hh : s.floor.holder = some h) :
    ∃ key, playFrame np s = raiseCounter h.seat .underflow
      (s.withPlayout { s.playout with u := s.playout.u + 1, step := .silence, carriedKey := key }) := by
  unfold playFrame
  rw [find?_of_not_holds hn]
  simp only [ho]
  exact ⟨_, raiseHolderCounter_of_holder hh⟩

/-- R91: a playout step up to what the watch makes of it. -/
def stepped (np : BitVec 16) (s : State) : State :=
  let v := playFrame np (finishStep s)
  trimTest (v.withPlayout { v.playout with np := some (np + 1) })

theorem playoutStep_eq {np : BitVec 16} (hm : stepsMade s = true) (hnp : s.playout.np = some np) :
    playoutStep s = watchStep (!s.playout.holds np) (stepped np s) := by
  have hf : (finishStep s).playout.holds np = s.playout.holds np := by
    obtain ⟨key, step, e⟩ := finishStep_eq s
    rw [e]
    rfl
  unfold playoutStep
  rw [hnp]
  simp only [hm, if_true, hf]
  rfl

/-- R91, R93, R94: a step that plays the frame of np. -/
theorem stepped_plays {np : BitVec 16} {f : Frame}
    (hf : s.playout.frames.find? (fun x => x.seq == np) = some f) (ht : s.playout.trimRun < 249) :
    ∃ p, stepped np s = s.withPlayout p ∧ p.np = some (np + 1) ∧ p.u = 0 ∧ p.timer = s.playout.timer
      ∧ p.frames = s.playout.frames.filter (fun x => x.seq != np)
      ∧ (∀ v, f.payload = .voice v → p.step = .samples v)
      ∧ ∀ ts, f.payload = .cw ts → p.step = .keying (effectOrder ts) := by
  obtain ⟨key, step, e⟩ := finishStep_eq s
  obtain ⟨c, e', hv, hc⟩ := playFrame_plays (s := finishStep s) (np := np) (f := f) (by rw [e]; exact hf)
  rw [e] at e'
  unfold stepped
  rw [e, e']
  obtain ⟨n, e''⟩ := trimTest_eq (s := ((s.withPlayout { s.playout with carriedKey := key, step := step }).withPlayout
    { ({ s.playout with carriedKey := key, step := step } : Playout).drop np with u := 0, step := c }).withPlayout
    { ({ s.playout with carriedKey := key, step := step } : Playout).drop np with
      u := 0, step := c, np := some (np + 1) }) ht
  exact ⟨_, e'', rfl, rfl, rfl, rfl, hv, hc⟩

/-- R91, R93, R94: a step without the frame of np. -/
theorem stepped_silent {np : BitVec 16} {h : Holder} (hn : s.playout.holds np = false)
    (ho : overlayInProgress s = false) (hh : s.floor.holder = some h) (ht : s.playout.trimRun < 249) :
    ∃ p, stepped np s = raiseCounter h.seat .underflow (s.withPlayout p) ∧ p.np = some (np + 1)
      ∧ p.u = s.playout.u + 1 ∧ p.timer = s.playout.timer ∧ p.step = .silence
      ∧ p.frames = s.playout.frames := by
  obtain ⟨key, step, e⟩ := finishStep_eq s
  obtain ⟨key', e'⟩ := playFrame_silent (s := finishStep s) (np := np) (h := h) (by rw [e]; exact hn)
    (by rw [e]; exact ho) (by rw [e]; exact hh)
  rw [e] at e'
  unfold stepped
  rw [e, e']
  obtain ⟨n, e''⟩ := trimTest_eq (s := (raiseCounter h.seat .underflow (s.withPlayout
      { s.playout with u := s.playout.u + 1, step := .silence, carriedKey := key' })).withPlayout
    { s.playout with u := s.playout.u + 1, step := .silence, carriedKey := key', np := some (np + 1) }) ht
  exact ⟨{ s.playout with
    u := s.playout.u + 1, step := .silence, carriedKey := key', np := some (np + 1), trimRun := n },
    e'', rfl, rfl, rfl, rfl, rfl⟩

/-- R91, R93: whatever the trim test removes, a silent step raises u by one. -/
theorem stepped_starves {np : BitVec 16} {h : Holder} (hn : s.playout.holds np = false)
    (ho : overlayInProgress s = false) (hh : s.floor.holder = some h) :
    StreamOnly s (stepped np s) ∧ (stepped np s).playout.u = s.playout.u + 1 := by
  obtain ⟨key, step, e⟩ := finishStep_eq s
  obtain ⟨key', e'⟩ := playFrame_silent (s := finishStep s) (np := np) (h := h) (by rw [e]; exact hn)
    (by rw [e]; exact ho) (by rw [e]; exact hh)
  rw [e] at e'
  unfold stepped
  rw [e, e']
  exact ⟨((StreamOnly.withPlayout _).trans (raiseCounter_stream ..)).trans
    ((StreamOnly.withPlayout _).trans (trimTest_stream _).1), (trimTest_stream _).2⟩

end

/-! ### The figures of a seat off the floor (R97, R98, R112) -/

/-- The figures on a seat's board are as they were. -/
def SameFigures (x : SeatNo) (s t : State) : Prop :=
  t.seats[x].counters = s.seats[x].counters ∧ t.seats[x].saturated = s.seats[x].saturated
    ∧ t.seats[x].criteria = s.seats[x].criteria ∧ t.seats[x].warned = s.seats[x].warned

section

variable {x : SeatNo} {s t u : State}

theorem SameFigures.refl (s : State) : SameFigures x s s := ⟨rfl, rfl, rfl, rfl⟩

theorem SameFigures.trans (h : SameFigures x s t) (h' : SameFigures x t u) : SameFigures x s u := by
  obtain ⟨h1, h2, h3, h4⟩ := h
  obtain ⟨h1', h2', h3', h4'⟩ := h'
  exact ⟨h1'.trans h1, h2'.trans h2, h3'.trans h3, h4'.trans h4⟩

theorem SameFigures.of_seats (h : t.seats = s.seats) : SameFigures x s t := by
  unfold SameFigures
  rw [h]
  exact ⟨rfl, rfl, rfl, rfl⟩

theorem receive_figures (n : Notice) (r : Seat) : (r.receive n).counters = r.counters
    ∧ (r.receive n).saturated = r.saturated ∧ (r.receive n).criteria = r.criteria
    ∧ (r.receive n).warned = r.warned := by
  unfold Seat.receive
  split <;> exact ⟨rfl, rfl, rfl, rfl⟩

theorem modSeat_sameFigures {seat : SeatNo} {f : Seat → Seat} (h : seat ≠ x) :
    SameFigures x s (modSeat seat f s) := by
  unfold SameFigures
  rw [modSeat_getElem, if_neg h.symm]
  exact ⟨rfl, rfl, rfl, rfl⟩

theorem raise_sameFigures (seat : SeatNo) (body : NoticeBody) : SameFigures x s (raise seat body s) := by
  unfold SameFigures
  rw [raise_getElem]
  split
  · next hx =>
    subst hx
    exact receive_figures _ _
  · exact ⟨rfl, rfl, rfl, rfl⟩

theorem raiseAll_sameFigures (body : NoticeBody) : SameFigures x s (raiseAll body s) := by
  unfold SameFigures
  rw [raiseAll_getElem]
  exact receive_figures _ _

theorem setFloorState_sameFigures (new : FloorState) : SameFigures x s (setFloorState new s) := by
  unfold setFloorState
  split
  · exact .refl s
  · simp only
    split
    · refine .trans (.trans (.of_seats ?_) (raiseAll_sameFigures _)) (raiseAll_sameFigures _)
      (repeat' split) <;> rfl
    · refine .trans (.of_seats ?_) (raiseAll_sameFigures _)
      (repeat' split) <;> rfl

theorem noticePositions_sameFigures (p : Nat) (l : List Entry) :
    SameFigures x s (noticePositions p l s) := by
  induction l generalizing p s with
  | nil => exact .refl s
  | cons e rest ih => exact (raise_sameFigures _ _).trans (ih (p + 1))

theorem removeEntry_sameFigures (seat : SeatNo) : SameFigures x s (removeEntry seat s) :=
  ((SameFigures.of_seats rfl).trans (raise_sameFigures seat (.queue 0))).trans (noticePositions_sameFigures _ _)

theorem endEntry_sameFigures (c : EndCause) (d : EndDetail) (e : Entry) :
    SameFigures x s (endEntry c d e s) := (raise_sameFigures _ _).trans (removeEntry_sameFigures _)

theorem beginTurnFigures_sameFigures {seat : SeatNo} (h : seat ≠ x) :
    SameFigures x s (beginTurnFigures seat s) :=
  (modSeat_sameFigures (f := fun r => { r with
    counters := Counters.zero, saturated := false, criteria := Criteria.empty, warned := false }) h).trans
    (.of_seats rfl)

theorem makeHolder_sameFigures {e : Entry} {g : Grant} (h : e.seat ≠ x) :
    SameFigures x s (makeHolder e g s) := by
  unfold makeHolder
  refine .trans (.trans ?_ (raise_sameFigures _ _)) (setFloorState_sameFigures _)
  exact (((removeEntry_sameFigures _).trans (.of_seats rfl)).trans (beginTurnFigures_sameFigures h)).trans
    (.of_seats rfl)

theorem serveEntries_sameFigures {l : List Entry} (hq : s.queue = l) (h : OffFloor x s) :
    SameFigures x s (serveEntries l s) := by
  induction l generalizing s with
  | nil => exact setFloorState_sameFigures .idle
  | cons e rest ih =>
    unfold serveEntries
    split
    · exact (endEntry_sameFigures ..).trans
        (ih (endEntry_head_queue hq) ((endEntry_moves ..).keeps_offFloor h))
    · exact setFloorState_sameFigures .resting
    · exact makeHolder_sameFigures (h.queue e (by simp [hq]))

theorem serve_sameFigures (h : OffFloor x s) : SameFigures x s (serve s) := by
  unfold serve
  split
  · exact setFloorState_sameFigures .idle
  · split
    · unfold enterIdent
      simp only
      exact (SameFigures.of_seats (by split <;> rfl)).trans (setFloorState_sameFigures .ident)
    · exact serveEntries_sameFigures rfl h

theorem endTurn_sameFigures {c : EndCause} {d : EndDetail} (h : ∀ e ∈ s.queue, e.seat ≠ x) :
    SameFigures x s (endTurn c d s) := by
  have he : SameFigures x (closeSetup c (unkey s)) (raiseEnd c d (closeSetup c (unkey s))) := by
    unfold raiseEnd
    split
    · exact raise_sameFigures _ _
    · exact .refl _
  have hc : SameFigures x s (endTurnCore c d s) :=
    ((SameFigures.of_seats (by simp)).trans he).trans (.of_seats rfl)
  have ho : OffFloor x (setFloorState .idle (endTurnCore c d s)) :=
    OffFloor.of_eq (s := endTurnCore c d s) (.endTurnCore h) (by simp) (by simp)
  exact (hc.trans (setFloorState_sameFigures .idle)).trans (serve_sameFigures ho)

theorem setUp_sameFigures {before : State} (h : OffFloor x s) (he : emptySetup before s = true) :
    SameFigures x s (setUp s) := by
  rw [setUp_empty he]
  refine .trans (.of_seats (by simp)) (t := placeSetup [] s) ?_
  unfold setupComplete
  split
  · next ht =>
    have ht' : grantIsTune (onAirState (placeSetup [] s)) = true := by simpa [grantIsTune] using ht
    have ho : SameFigures x (placeSetup [] s) (onAirState (placeSetup [] s)) :=
      (SameFigures.of_seats rfl).trans (setFloorState_sameFigures .onAir)
    rw [enterOnAir_eq]
    refine ho.trans (keyRequest_tune (by simp) ht' (fun _ => .refl _) (fun _ _ _ => .of_seats (by simp))
      (fun _ _ _ => .of_seats (by simp [keyedState])) fun _ _ => ?_)
    exact (SameFigures.of_seats (by simp [ampOutOfService])).trans
      (endTurn_sameFigures (by simpa [ampOutOfService, onAirState] using h.queue))
  · exact (SameFigures.of_seats rfl).trans (setFloorState_sameFigures .granted)

theorem finishSetup_sameFigures {before : State} (h : OffFloor x s) :
    SameFigures x s (finishSetup before s) :=
  (finishSetup_empty (P := fun t => SameFigures x s t ∧ OffFloor x t) ⟨.refl s, h⟩ fun t he ht =>
    ⟨ht.1.trans (setUp_sameFigures ht.2 he), (setUp_moves t).keeps_offFloor ht.2⟩).1

end

/-! ### What the watch makes of a step (R103, R105, R108) -/

section

variable {s u : State} {h : Holder}

/-- R103: a step that plays a frame is counted alone. -/
theorem watchStep_heard (s : State) : ∃ w, watchStep false s = s.withWatch w ∧ w.criteria = s.watch.criteria
    ∧ w.warned = s.watch.warned := by
  unfold watchStep
  split
  · simp only [Bool.false_eq_true, if_false]
    unfold countStep restartWindow
    split
    · exact ⟨_, rfl, rfl, rfl⟩
    · exact ⟨_, rfl, rfl, rfl⟩
  · exact ⟨s.watch, rfl, rfl, rfl⟩

theorem countStep_eq (s : State) : ∃ w, countStep s = s.withWatch w ∧ w.criteria = s.watch.criteria
    ∧ w.warned = s.watch.warned := by
  unfold countStep restartWindow
  split
  · exact ⟨_, rfl, rfl, rfl⟩
  · exact ⟨_, rfl, rfl, rfl⟩

/-- R108: what the warning leaves, given or not. -/
structure Warned (s t : State) : Prop where
  criteria : t.watch.criteria = s.watch.criteria
  seats    : ∀ x : SeatNo, t.seats[x].attachment = s.seats[x].attachment
    ∧ t.seats[x].counters = s.seats[x].counters ∧ t.seats[x].saturated = s.seats[x].saturated
    ∧ t.seats[x].criteria = s.seats[x].criteria

theorem receive_warned (n : Notice) (r : Seat) :
    let r' := Seat.receive n { r with warned := true }
    r'.attachment = r.attachment ∧ r'.counters = r.counters ∧ r'.saturated = r.saturated
      ∧ r'.criteria = r.criteria := by
  unfold Seat.receive
  split <;> exact ⟨rfl, rfl, rfl, rfl⟩

theorem linkWarning_warned (s : State) : Warned s (linkWarning s) := by
  unfold linkWarning
  split
  · simp only
    split
    · next seat _ =>
      refine ⟨by simp, fun x => ?_⟩
      by_cases hx : x = seat
      · subst hx
        rw [raise_getElem, if_pos rfl, modSeat_getElem, if_pos rfl]
        exact receive_warned _ _
      · rw [raise_getElem, if_neg hx, modSeat_getElem, if_neg hx]
        exact ⟨rfl, rfl, rfl, rfl⟩
    · exact ⟨rfl, fun x => ⟨rfl, rfl, rfl, rfl⟩⟩
  · exact ⟨rfl, fun x => ⟨rfl, rfl, rfl, rfl⟩⟩

/-- R108, R112: the weak-link warning is given. -/
theorem linkWarning_due (hc : s.station.criteria.starve = true) (hw : s.watch.warned = false)
    (hu : s.playout.u = max 1 (s.station.starveLimit / 2)) (hh : s.floor.holder = some h) :
    linkWarning s = raise h.seat (.warnLink s.playout.u s.station.starveLimit)
      (modSeat h.seat (fun r => { r with warned := true })
        (s.withWatch { s.watch with warned := true })) := by
  unfold linkWarning
  rw [if_pos (by simp [hc, hu, warningLevel, hw])]
  simp only [holderSeat]
  have hs : (s.withWatch { s.watch with warned := true }).floor.holder = some h := hh
  rw [hs]
  rfl

end

end Sys2Proof.Machine

/-! O13: the playout step (R53, R90 to R94, R105, R108, R111). -/

namespace Sys2Proof.Machine

/-! ### A criterion that is met (R53, R104 to R112) -/

section

variable {s u : State} {h : Holder} {c : Criterion}

theorem addCriterion_eq (hh : u.floor.holder = some h) : addCriterion c u
    = modSeat h.seat (fun r => { r with criteria := u.watch.criteria.add c })
        (u.withWatch { u.watch with criteria := u.watch.criteria.add c }) := by
  have hs : holderSeat (u.withWatch { u.watch with criteria := u.watch.criteria.add c }) = some h.seat := by
    have e : (u.withWatch { u.watch with criteria := u.watch.criteria.add c }).floor.holder = some h := hh
    rw [holderSeat, e]
    rfl
  unfold addCriterion
  simp only [hs]
  rfl

/-- R107, R112: a criterion added to the set and to the board changes no more. -/
structure Added (c : Criterion) (h : Holder) (u t : State) : Prop where
  watch : t.watch = { u.watch with criteria := u.watch.criteria.add c }
  board : t.seats[h.seat].criteria = u.watch.criteria.add c
  seats : ∀ x : SeatNo, t.seats[x].attachment = u.seats[x].attachment ∧ t.seats[x].notices = u.seats[x].notices
    ∧ t.seats[x].counters = u.seats[x].counters ∧ t.seats[x].saturated = u.seats[x].saturated
    ∧ t.seats[x].warned = u.seats[x].warned

theorem addCriterion_added (hh : u.floor.holder = some h) : Added c h u (addCriterion c u) := by
  rw [addCriterion_eq hh]
  refine ⟨rfl, by rw [modSeat_getElem, if_pos rfl], fun x => ?_⟩
  rw [modSeat_getElem]
  split
  · next hx =>
    subst hx
    exact ⟨rfl, rfl, rfl, rfl, rfl⟩
  · exact ⟨rfl, rfl, rfl, rfl, rfl⟩

theorem criterionMet_watching (hc : u.station.criteria.has c = true) (hw : watching u = true) :
    criterionMet c u = stall (restartWindow (addCriterion c u)) := by
  rw [criterionMet, if_pos hc, if_pos hw]

theorem stall_eq (hr : u.station.rejoin ≠ 0) : stall u = setFloorState .stalled
    ((unkey u).withFloor { u.floor with rejoin := some u.station.rejoin }) := by
  unfold stall
  simp only [unkey_frame, if_neg hr]

theorem stall_ends (hr : u.station.rejoin = 0) :
    stall u = endTurn .link (.criteria u.watch.criteria) (unkey u) := by
  unfold stall
  simp only [unkey_frame, if_pos hr]

theorem unkey_queueFields (u : State) :
    (unkey u).playout.frames = u.playout.frames ∧ (unkey u).playout.np = u.playout.np
      ∧ (unkey u).playout.earlyRun = u.playout.earlyRun := by
  unfold unkey
  split <;> exact ⟨rfl, rfl, rfl⟩

theorem watching_onAir (hw : watching u = true) : u.floor.state = .onAir ∧ u.keying.state = .keyed := by
  simp only [watching, Bool.and_eq_true, beq_iff_eq] at hw
  exact hw.1.1

theorem setFloorState_watch {new : FloorState} (h : new ≠ .granted) (u : State) :
    (setFloorState new u).watch = u.watch := by
  unfold setFloorState
  split
  · rfl
  · simp only [h]
    split <;> (try split) <;> rfl

/-- R53, R107, R112: the turn is stalled by a criterion. -/
structure StalledBy (c : Criterion) (h : Holder) (u t : State) : Prop where
  floor   : t.floor = { u.floor with state := .stalled, rejoin := some u.station.rejoin }
  unkeyed : t.keying.state = .unkeyed
  queue   : t.queue = u.queue
  watch   : t.watch = { criteria := u.watch.criteria.add c, warned := u.watch.warned, steps := 0, disorder := 0 }
  board   : t.seats[h.seat].criteria = u.watch.criteria.add c
  figures : ∀ x : SeatNo, t.seats[x].counters = u.seats[x].counters
    ∧ t.seats[x].saturated = u.seats[x].saturated ∧ t.seats[x].warned = u.seats[x].warned
  silent  : ∀ (k : Nat) (x : SeatNo), k ≠ 1 → k ≠ 8 → Silent k x u t
  frames  : t.playout.frames = u.playout.frames ∧ t.playout.np = u.playout.np

theorem criterionMet_stalls (hc : u.station.criteria.has c = true) (hw : watching u = true)
    (hh : u.floor.holder = some h) (hr : u.station.rejoin ≠ 0) : StalledBy c h u (criterionMet c u) := by
  obtain ⟨hwatch, hboard, hseats⟩ := addCriterion_added (c := c) hh
  have hr' : (restartWindow (addCriterion c u)).station.rejoin ≠ 0 := by simpa using hr
  have hrw : (restartWindow (addCriterion c u)).seats = (addCriterion c u).seats := rfl
  have hfig : ∀ x : SeatNo, SameFigures x (restartWindow (addCriterion c u))
      (stall (restartWindow (addCriterion c u))) := fun x => by
    rw [stall_eq hr']
    exact (SameFigures.of_seats (by simp)).trans (setFloorState_sameFigures .stalled)
  have hon : (addCriterion c u).floor.state = .onAir := by simpa using (watching_onAir hw).1
  rw [criterionMet_watching hc hw]
  constructor
  case floor => simp [stall_eq hr']
  case unkeyed => simp [stall_eq hr']
  case queue => simp [stall_eq hr']
  case watch =>
    rw [stall_eq hr', setFloorState_watch (by decide)]
    change (unkey (restartWindow (addCriterion c u))).watch = _
    simp [restartWindow, hwatch]
  case board =>
    obtain ⟨-, -, hcr, -⟩ := hfig h.seat
    rw [hcr, hrw, hboard]
  case figures =>
    intro x
    obtain ⟨h1, h2, -, h4⟩ := hfig x
    obtain ⟨-, -, k1, k2, k4⟩ := hseats x
    rw [h1, h2, h4, hrw]
    exact ⟨k1, k2, k4⟩
  case silent =>
    intro k x h1 h8
    rw [stall_eq hr']
    refine .trans (t := addCriterion c u) (fun n hn _ => ?_) ((setFloorState_silent .stalled h1 h8).after (by simp))
    rw [(hseats x).2.1]
    exact hn
  case frames =>
    obtain ⟨hf, hn, -⟩ := unkey_queueFields (restartWindow (addCriterion c u))
    rw [stall_eq hr', setFloorState_playout, if_neg (by simp [FloorState.streaming])]
    exact ⟨hf.trans (by simp), hn.trans (by simp)⟩

/-- R53, R111: with a rejoin window of 0 the turn ends LINK. -/
theorem criterionMet_ends (hc : u.station.criteria.has c = true) (hw : watching u = true)
    (hy : TurnYet s u h) (hr : u.station.rejoin = 0) :
    ∃ v, criterionMet c u = endTurn .link (.criteria (u.watch.criteria.add c)) v ∧ TurnYet s v h
      ∧ v.queue = u.queue ∧ v.ident.pending = u.ident.pending
      ∧ ∀ x : SeatNo, v.seats[x].notices = u.seats[x].notices ∧ v.seats[x].warned = u.seats[x].warned := by
  obtain ⟨hwatch, hboard, hseats⟩ := addCriterion_added (c := c) hy.holder
  refine ⟨unkey (restartWindow (addCriterion c u)), ?_, TurnYet.unkey ?_, by simp, by
    rw [unkey_pending]
    simp, fun x => ?_⟩
  · rw [criterionMet_watching hc hw, stall_ends (by simpa using hr)]
    simp [restartWindow, hwatch]
  · obtain ⟨ha, -⟩ := hseats h.seat
    exact ⟨by simpa using hy.holder, by simpa using hy.keyedMs, by
        change (addCriterion c u).seats[h.seat].attachment.isSome = true
        rw [ha]
        exact hy.attached, by simpa using hy.alone, by simpa using hy.present, by simpa using hy.amp,
      by simpa using hy.stamp, by simpa [partHeld] using hy.held⟩
  · obtain ⟨-, hn, -, -, hwd⟩ := hseats x
    rw [unkey_seats]
    exact ⟨hn, hwd⟩

end

/-! ### O13: the playout step -/

section

variable {s d : State} {h : Holder} {np : BitVec 16}

/-- R105, R108: the watch's part in a silent step: the warning, then STARVE at the limit. -/
theorem watchStep_silent (hw : watching d = true) : ∃ w, w.criteria = d.watch.criteria
    ∧ w.warned = d.watch.warned
    ∧ watchStep true d = if d.playout.u = d.station.starveLimit
        then criterionMet .starve (linkWarning (d.withWatch w)) else linkWarning (d.withWatch w) := by
  obtain ⟨w, e, hc, hwd⟩ := countStep_eq d
  refine ⟨w, hc, hwd, ?_⟩
  unfold watchStep
  rw [if_pos hw]
  simp only [if_true, linkWarning_frame]
  rw [e]
  rfl

/-- R13, R90: the state in which the step of an expired interval is made. -/
abbrev intervalAgain (s : State) : State := s.withPlayout { s.playout with timer := some 20 }

theorem playoutExpired_steps (hm : stepsMade s = true) (hnp : s.playout.np = some np)
    (ht : s.playout.timer.isSome = true) : playoutExpired s
      = watchStep (!s.playout.holds np) (stepped np (intervalAgain s)) := by
  rw [playoutExpired, if_pos ht]
  exact playoutStep_eq hm hnp

theorem stepsMade_iff : stepsMade s = true ↔ s.floor.state = .onAir ∧ s.keying.state = .keyed
    ∧ grantIsTune s = false := by
  simp [stepsMade, and_assoc]

theorem watching_of {t : State} (hf : t.floor = s.floor) (hk : t.keying = s.keying) (hi : t.ident = s.ident) :
    watching t = watching s := by
  simp [watching, hf, hk, grantIsTune, overlayInProgress, hi]

theorem stepsMade_of_watching (hw : watching s = true) :
    stepsMade s = true ∧ overlayInProgress s = false := by
  simp only [watching, Bool.and_eq_true, beq_iff_eq, Bool.not_eq_true'] at hw
  obtain ⟨⟨⟨ha, hk⟩, ht⟩, ho⟩ := hw
  exact ⟨stepsMade_iff.2 ⟨ha, hk, ht⟩, ho⟩

/-- R108: a silent step in which STARVE is not met leaves the floor and the queue as they are. -/
structure StepQuiet (d t : State) : Prop where
  floor   : t.floor = d.floor
  keying  : t.keying = d.keying
  playout : t.playout = d.playout
  figures : ∀ x : SeatNo, t.seats[x].counters = d.seats[x].counters
    ∧ t.seats[x].saturated = d.seats[x].saturated

theorem linkWarning_quiet (w : Watch) (d : State) : StepQuiet d (linkWarning (d.withWatch w)) :=
  ⟨by simp, by simp, by simp, fun x => by
    obtain ⟨-, hc, hs, -⟩ := (linkWarning_warned (d.withWatch w)).seats x
    exact ⟨hc, hs⟩⟩

theorem watchStep_quiet (hu : d.station.criteria.starve = false ∨ d.playout.u ≠ d.station.starveLimit) :
    StepQuiet d (watchStep true d) := by
  by_cases hw : watching d = true
  · obtain ⟨w, -, -, e⟩ := watchStep_silent hw
    rw [e]
    split
    · next hl =>
      have hc : (linkWarning (d.withWatch w)).station.criteria.has .starve = false := by
        simpa [Criteria.has] using hu.resolve_right (by simpa using hl)
      rw [criterionMet, if_neg (by rw [hc]; simp)]
      exact linkWarning_quiet w d
    · exact linkWarning_quiet w d
  · rw [watchStep, if_neg hw]
    exact ⟨rfl, rfl, rfl, fun _ => ⟨rfl, rfl⟩⟩

/-- The state behind the warning of a silent step of a watched stream, where the act has changed nothing else. -/
structure Starving (s l : State) (h : Holder) : Prop where
  yet      : FloorLaw s → TurnYet s l h
  floor    : l.floor = s.floor
  queue    : l.queue = s.queue
  station  : l.station = s.station
  pending  : l.ident.pending = s.ident.pending
  criteria : l.watch.criteria = s.watch.criteria
  watching : Machine.watching l = true
  ram      : l.ram = s.ram
  stamp    : l.stamp = s.stamp
  warns    : s.playout.u + 1 = max 1 (s.station.starveLimit / 2) → s.watch.warned = false →
    s.station.criteria.starve = true → FloorLaw s →
    (⟨.warnLink (s.playout.u + 1) s.station.starveLimit, s.stamp⟩ : Notice) ∈ l.seats[h.seat].notices
      ∧ l.seats[h.seat].warned = true ∧ l.watch.warned = true

theorem starving (hw : Machine.watching s = true) (hd : StreamOnly (intervalAgain s) d)
    (hu : d.playout.u = s.playout.u + 1) (hh : s.floor.holder = some h) (w : Watch)
    (hc : w.criteria = d.watch.criteria) (hwd : w.warned = d.watch.warned) :
    Starving s (linkWarning (d.withWatch w)) h := by
  obtain ⟨hf, hk, hwa, hq, hb, hi, hst, hstamp, hram⟩ := hd.fields
  obtain ⟨hlc, hls⟩ := linkWarning_warned (d.withWatch w)
  constructor
  case yet =>
    intro hl
    have ha : (linkWarning (d.withWatch w)).seats[h.seat].attachment = s.seats[h.seat].attachment :=
      (hls h.seat).1.trans (hd.seat h.seat).1
    exact ⟨by simp [hf, hh], by simp [hf], by
        rw [ha]
        exact attachment_isSome (hl.holder_attached h hh),
      by simpa [hq] using hl.holder_not_queued h hh, by simp [hst], by simp [hb], by simp [hstamp],
      by simp [partHeld, hram]⟩
  case floor => simp [hf]
  case queue => simp [hq]
  case station => simp [hst]
  case pending => simp [hi]
  case criteria => exact hlc.trans (hc.trans (by rw [hwa]; rfl))
  case watching =>
    rw [watching_of (s := s) (by simp [hf]) (by simp [hk]) (by simp [hi])]
    exact hw
  case ram => simp [hram]
  case stamp => simp [hstamp]
  case warns =>
    intro hu' hwn hcs hl
    have hnw : (d.withWatch w).watch.warned = false := hwd.trans (by rw [hwa]; exact hwn)
    have hdue := linkWarning_due (s := d.withWatch w) (h := h) (by simpa [hst] using hcs) hnw
      (by simpa [hu, hst] using hu') (by simpa [hf] using hh)
    have ha : (modSeat h.seat (fun r => { r with warned := true }) ((d.withWatch w).withWatch
        { (d.withWatch w).watch with warned := true })).seats[h.seat].attachment.isSome = true := by
      rw [modSeat_getElem, if_pos rfl]
      change d.seats[h.seat].attachment.isSome = true
      rw [(hd.seat h.seat).1]
      exact attachment_isSome (hl.holder_attached h hh)
    rw [hdue]
    refine ⟨?_, ?_, rfl⟩
    · have hm := raise_mem (.warnLink (d.withWatch w).playout.u (d.withWatch w).station.starveLimit) ha
      have he : (d.withWatch w).playout.u = s.playout.u + 1 ∧ (d.withWatch w).station.starveLimit
        = s.station.starveLimit ∧ (d.withWatch w).stamp = s.stamp := ⟨hu, by simp [hst], hstamp⟩
      obtain ⟨e1, e2, e3⟩ := he
      rw [e1, e2] at hm ⊢
      have e4 : (modSeat h.seat (fun r => { r with warned := true }) ((d.withWatch w).withWatch
        { (d.withWatch w).watch with warned := true })).stamp = s.stamp := e3
      rwa [e4] at hm
    · obtain ⟨-, -, -, e⟩ := raise_sameFigures (x := h.seat) (s := modSeat h.seat (fun r => { r with warned := true })
        ((d.withWatch w).withWatch { (d.withWatch w).watch with warned := true })) h.seat
        (.warnLink (d.withWatch w).playout.u (d.withWatch w).station.starveLimit)
      rw [e, modSeat_getElem, if_pos rfl]

/-- R91, R105: the silent step of a watched stream comes to the warning, and at the limit to STARVE. -/
theorem playoutExpired_starves (hw : watching s = true) (hnp : s.playout.np = some np)
    (ht : s.playout.timer.isSome = true) (hn : s.playout.holds np = false) (hh : s.floor.holder = some h) :
    ∃ l, Starving s l h ∧ playoutExpired s
      = if s.playout.u + 1 = s.station.starveLimit then criterionMet .starve l else l := by
  obtain ⟨hm, ho⟩ := stepsMade_of_watching hw
  obtain ⟨hd, hu⟩ := stepped_starves (s := intervalAgain s) (np := np) (h := h) hn ho hh
  obtain ⟨hf, hk, -, -, -, hi, hst, -, -⟩ := hd.fields
  obtain ⟨w, hc, hwd, e⟩ := watchStep_silent (d := stepped np (intervalAgain s))
    (by rw [watching_of (s := s) hf hk hi]; exact hw)
  refine ⟨_, starving hw hd hu hh w hc hwd, ?_⟩
  rw [playoutExpired_steps hm hnp ht, hn]
  have hlim : (stepped np (intervalAgain s)).station.starveLimit = s.station.starveLimit := by
    rw [hst]
    rfl
  rw [hu, hlim] at e
  exact e

end

/-- R90, R91, R93, R94: a step that plays, or that plays silence with STARVE not met. -/
theorem playoutStep_played {s : State} {np : BitVec 16} (hr : Running s) (hm : stepsMade s = true)
    (hnp : s.playout.np = some np) (ht : s.playout.timer.isSome = true) (htr : s.playout.trimRun < 249)
    {f : Frame} (hf : s.playout.frames.find? (fun x => x.seq == np) = some f) :
    Gives (exec .playoutStep s) fun t =>
      t.playout.np = some (np + 1) ∧ t.playout.u = 0 ∧ t.playout.timer = some 20
        ∧ t.playout.frames = s.playout.frames.filter (fun x => x.seq != np)
        ∧ (∀ v, f.payload = .voice v → t.playout.step = .samples v)
        ∧ (∀ ts, f.payload = .cw ts → t.playout.step = .keying (effectOrder ts))
        ∧ t.floor = s.floor ∧ t.keying.state = .keyed := by
  have hh : s.playout.holds np = true :=
    List.any_eq_true.2 ⟨f, List.mem_of_find?_eq_some hf, List.find?_some (p := fun x : Frame => x.seq == np) hf⟩
  obtain ⟨p, e, hpn, hpu, hpt, hpf, hv, hc⟩ := stepped_plays (s := intervalAgain s) (np := np) (f := f) hf htr
  obtain ⟨w, e', -, -⟩ := watchStep_heard ((intervalAgain s).withPlayout p)
  have hd : playoutExpired s = ((intervalAgain s).withPlayout p).withWatch w := by
    rw [playoutExpired_steps hm hnp ht, hh, e]
    exact e'
  refine gives_act (f := playoutExpired) rfl hr (by rw [hd]; rfl) (by rw [hd]; rfl) ?_
  rw [hd]
  have hp : (closeAct s (((intervalAgain s).withPlayout p).withWatch w)).playout = p := by simp
  rw [hp]
  exact ⟨hpn, hpu, hpt, hpf, hv, hc, by simp, by simpa using (stepsMade_iff.1 hm).2.1⟩

/-- R91, R97: a silent step that meets no criterion. -/
theorem playoutStep_unheard {s : State} {np : BitVec 16} (hr : Running s) (hm : stepsMade s = true)
    (hnp : s.playout.np = some np) (ht : s.playout.timer.isSome = true) (htr : s.playout.trimRun < 249)
    (hn : s.playout.holds np = false) (ho : overlayInProgress s = false)
    (hu : s.station.criteria.starve = false ∨ s.playout.u + 1 ≠ s.station.starveLimit) {h : Holder}
    (hh : s.floor.holder = some h) :
    Gives (exec .playoutStep s) fun t =>
      t.playout.np = some (np + 1) ∧ t.playout.u = s.playout.u + 1
        ∧ t.playout.timer = some 20 ∧ t.playout.step = .silence
        ∧ t.playout.frames = s.playout.frames ∧ Counted s t h.seat [.underflow]
        ∧ t.floor = s.floor ∧ t.keying.state = .keyed := by
  obtain ⟨p, e, hpn, hpu, hpt, hps, hpf⟩ := stepped_silent (s := intervalAgain s) (np := np) (h := h) hn ho hh htr
  have hpe : (stepped np (intervalAgain s)).playout = p ∧ (stepped np (intervalAgain s)).floor = s.floor
      ∧ (stepped np (intervalAgain s)).keying = s.keying
      ∧ (stepped np (intervalAgain s)).station = s.station := by
    rw [e]
    simp
  obtain ⟨hp, hfl, hky, hst⟩ := hpe
  have hd : playoutExpired s = watchStep true (stepped np (intervalAgain s)) := by
    rw [playoutExpired_steps hm hnp ht, hn]
    rfl
  obtain ⟨hqf, hqk, hqp, hqx⟩ := watchStep_quiet (d := stepped np (intervalAgain s))
    (by rw [hst, hp, hpu]; exact hu)
  have hcount : Counted s (playoutExpired s) h.seat [.underflow] := by
    have hc : Counted s (stepped np (intervalAgain s)) h.seat [.underflow] := by
      rw [e]
      exact Counted.of_seats (counted_raiseCounter _ _ _) rfl rfl
    intro x
    obtain ⟨h1, h2⟩ := hqx x
    rw [hd, h1, h2]
    exact hc x
  refine gives_act (f := playoutExpired) rfl hr (by rw [hd, hqf, hfl]) (by rw [hd, hqf, hfl]) ?_
  have hp' : (closeAct s (playoutExpired s)).playout = p := by
    rw [hd]
    simpa using hqp.trans hp
  rw [hp']
  exact ⟨hpn, hpu, hpt, hps, hpf, hcount.close s, by simp [hd, hqf, hfl],
    by simpa [hd, hqk, hky] using (stepsMade_iff.1 hm).2.1⟩

section

variable {s l : State} {h : Holder}

/-- R53: at the limit the turn is stalled. -/
theorem Starving.stalls (hs : Starving s l h) (hh : s.floor.holder = some h)
    (hc : s.station.criteria.starve = true) (hr : s.station.rejoin ≠ 0) :
    StalledBy .starve h l (criterionMet .starve l) :=
  criterionMet_stalls (by rw [hs.station]; exact hc) hs.watching (by rw [hs.floor]; exact hh)
    (by rw [hs.station]; exact hr)

/-- R53, R111: or it ends LINK, and the warning stands. -/
theorem Starving.ends (hs : Starving s l h) (hl : FloorLaw s) (hc : s.station.criteria.starve = true)
    (hr : s.station.rejoin = 0) :
    EndedToIdle s (closeAct s (finishSetup s (criterionMet .starve l))) h .link
        (.criteria { s.watch.criteria with starve := true })
      ∧ (closeAct s (finishSetup s (criterionMet .starve l))).seats[h.seat].warned = l.seats[h.seat].warned
      ∧ ∀ body : NoticeBody, body.kind = 5 → (⟨body, s.stamp⟩ : Notice) ∈ l.seats[h.seat].notices →
        Noticed s (closeAct s (finishSetup s (criterionMet .starve l))) h.seat body := by
  obtain ⟨v, e, hy, hq, hp, hx⟩ := criterionMet_ends (c := .starve) (by rw [hs.station]; exact hc) hs.watching
    (hs.yet hl) (by rw [hs.station]; exact hr)
  obtain ⟨hxn, hxw⟩ := hx h.seat
  rw [hs.criteria] at e
  have hoff : OffFloor h.seat (endTurn .link (.criteria (s.watch.criteria.add .starve)) v) :=
    (hy.told .link _).done.off
  refine ⟨?_, ?_, fun body hk hn => Spared.noticed ⟨by simp [hk], by simp [hk], by simp [hk]⟩ ?_ ?_⟩
  · rw [e]
    exact hy.endedToIdle .link _ (hq.trans hs.queue) (hp.trans hs.pending)
  · have hk := (closeAct_kept s (finishSetup s (criterionMet .starve l)) .figures h.seat).2.2.2
    rw [hk, e]
    obtain ⟨-, -, -, h1⟩ := endTurn_sameFigures (c := .link)
      (d := .criteria (s.watch.criteria.add .starve)) hy.alone
    obtain ⟨-, -, -, h2⟩ := finishSetup_sameFigures (before := s) hoff
    rw [h2, h1, hxw]
  · rw [e]
    have hsp : Spared body.kind h.seat v := ⟨by simp [hk], by simp [hk], by simp [hk]⟩
    exact hsp.endTurn _ (by rw [hxn]; exact hn) rfl
  · simp [partHeld, hs.ram]

end

/-- Settles O13: a step that plays the frame of np or silence by what the trim test leaves of it, and a silent
step of a watched stream by the state behind the warning, from which STARVE stalls the turn or ends it. -/
theorem playoutStepPlaysOrStarves : Obligations.PlayoutStepPlaysOrStarves := by
  unfold Obligations.PlayoutStepPlaysOrStarves
  refine ⟨fun s np hr hm hnp ht htr => ⟨fun f hf => playoutStep_played hr hm hnp ht htr hf,
    fun hn ho hu h hh => playoutStep_unheard hr hm hnp ht htr hn ho hu hh⟩,
    fun s np h hr hl hw hnp ht hn hh hc => ?_⟩
  obtain ⟨l, hs, e⟩ := playoutExpired_starves hw hnp ht hn hh
  have hon : l.floor.state ≠ .setting := by
    rw [hs.floor, (watching_onAir hw).1]
    decide
  have quiet (hu : s.playout.u + 1 ≠ s.station.starveLimit) : playoutExpired s = l := by rw [e, if_neg hu]
  have met (hu : s.playout.u + 1 = s.station.starveLimit) : playoutExpired s = criterionMet .starve l := by
    rw [e, if_pos hu]
  have given {P : State → Prop} (d : State) (hd : playoutExpired s = d)
      (hP : P (closeAct s (finishSetup s d))) : Gives (exec .playoutStep s) P :=
    gives_deed (f := playoutExpired) rfl hr hd hP
  have still {d : State} (hd : d.floor.state ≠ .setting) : finishSetup s d = d := finishSetup_notSetting hd
  refine ⟨fun hu hwn => ?warning, fun hrj hu => ?stalls, fun hrj hu => ?ends⟩
  case ends => exact given _ (met hu) (hs.ends hl hc hrj).1
  case stalls =>
    have hst := hs.stalls hh hc hrj
    have hset : (criterionMet .starve l).floor.state ≠ .setting := by
      simp [hst.floor]
    refine given _ (met hu) ?_
    rw [still hset]
    have hfig := (closeAct_kept s (criterionMet .starve l) .figures h.seat).2.2.1
    have hwt : (closeAct s (criterionMet .starve l)).watch = (criterionMet .starve l).watch := by simp
    rw [hfig, hwt, hst.watch, hst.board, hs.criteria]
    exact ⟨by simp [hst.floor, hs.floor, hs.station], by simp [hst.unkeyed], by simp [hst.queue, hs.queue],
      rfl, rfl, rfl, rfl⟩
  case warning =>
    obtain ⟨hn, hwd, hww⟩ := hs.warns hu hwn hc hl
    by_cases hlim : s.playout.u + 1 = s.station.starveLimit
    · by_cases hrj : s.station.rejoin = 0
      · obtain ⟨hend, hkw, htold⟩ := hs.ends hl hc hrj
        exact given _ (met hlim) ⟨htold _ rfl hn, hkw.trans hwd, fun hne => absurd hlim hne,
          fun _ hne => absurd hrj hne, fun _ _ => hend⟩
      · have hst := hs.stalls hh hc hrj
        have hset : (criterionMet .starve l).floor.state ≠ .setting := by
          simp [hst.floor]
        refine given _ (met hlim) ?_
        rw [still hset]
        have hfig := (closeAct_kept s (criterionMet .starve l) .figures h.seat).2.2.2
        have hwt : (closeAct s (criterionMet .starve l)).watch = (criterionMet .starve l).watch := by simp
        have hnot := closeAct_noticed (before := s) (hst.silent 5 h.seat (by decide) (by decide) _ hn rfl)
          (by simp [partHeld, hs.ram])
        rw [hfig, hwt, hst.watch, (hst.figures h.seat).2.2]
        exact ⟨hnot, hwd, fun hne => absurd hlim hne, fun _ _ => ⟨hww, by simp [hst.floor]⟩,
          fun _ he => absurd he hrj⟩
    · refine given _ (quiet hlim) ?_
      rw [still hon]
      have hfig := (closeAct_kept s l .figures h.seat).2.2.2
      have one (h1 : s.station.starveLimit = 1) : False := by
        have : s.playout.u + 1 = 1 := by rw [hu, h1]; rfl
        omega
      refine ⟨closeAct_noticed hn (by simp [partHeld, hs.ram]), hfig.trans hwd, fun _ => ⟨?_, ?_⟩,
        fun h1 => (one h1).elim, fun h1 => (one h1).elim⟩
      · simpa using hww
      · simpa using hs.floor

end Sys2Proof.Machine

/-! O15: keying up (R64, R118, R126, R130, R131). -/

namespace Sys2Proof.Machine

section

variable {s : State}

/-- R64, R130: the floor's key request in IDENT. -/
theorem askIdent_leads (hi : s.floor.state = .ident) (ha : s.floor.identAsked = false)
    (hf : floorOutstanding s = false) (hm : s.mode = .serving) (hx : s.pins.txInhibit = false)
    (hp : s.pins.ampFault = false) (hk : s.keying.state = .unkeyed) (hl : s.station.lead ≠ 0) :
    askIdent s = assertPtt (s.withFloor { s.floor with identAsked := true }) := by
  rw [askIdent, if_pos (by simp [mayAskIdent, hi, ha, hf])]
  exact keyRequest_leads (mayKey_iff.2 ⟨hk, .inr hi, hm, hx⟩) (fun h => by simp [hp] at h) hl

/-- R131: what enters KEYED goes on in IDENT with the callsign. -/
theorem enterKeyed_ident (hi : s.floor.state = .ident) : enterKeyed s = startIdentSender (keyedState s) := by
  have hi' : (keyedState s).floor.state = .ident := hi
  rw [enterKeyed_eq]
  change keyedNews (keyedState s) = _
  rw [keyedNews, hi']

theorem maybeOverlay_eq (s : State) :
    ∃ i, maybeOverlay s = s.withIdent i ∧ i.window = s.ident.window := by
  unfold maybeOverlay
  split
  · exact ⟨_, rfl, rfl⟩
  · exact ⟨s.ident, rfl, rfl⟩

/-- R91, R121, R131: and with the stream on the air, behind an overlay that is overdue, with a first playout
step. -/
theorem enterKeyed_stream (ha : s.floor.state = .onAir) (ht : grantIsTune s = false) :
    ∃ i w, enterKeyed s = playoutStep (((keyedState s).withIdent i).withWatch w)
      ∧ i.window = s.ident.window := by
  have ha' : (keyedState s).floor.state = .onAir := ha
  have ht' : grantIsTune (keyedState s) = false := ht
  obtain ⟨i, hi, hw⟩ := maybeOverlay_eq (keyedState s)
  rw [enterKeyed_eq]
  change ∃ i w, keyedNews (keyedState s) = _ ∧ _
  rw [keyedNews, ha']
  simp only [ht', hi, Bool.false_eq_true, if_false]
  split
  · exact ⟨i, _, rfl, hw⟩
  · exact ⟨i, (keyedState s).watch, rfl, hw⟩

/-- R91, R131: the first step of the stream plays the frame of np. -/
theorem enterKeyed_plays {np : BitVec 16} {f : Frame} (ha : s.floor.state = .onAir)
    (ht : grantIsTune s = false) (hnp : s.playout.np = some np)
    (htr : s.playout.trimRun < 249) (hf : s.playout.frames.find? (fun x => x.seq == np) = some f) :
    ∃ i p w, enterKeyed s = (((keyedState s).withIdent i).withPlayout p).withWatch w
      ∧ i.window = s.ident.window ∧ p.np = some (np + 1) ∧ p.u = 0
      ∧ p.timer = some 20 ∧ p.frames = s.playout.frames.filter (fun x => x.seq != np) := by
  obtain ⟨i, w, e, hi⟩ := enterKeyed_stream ha ht
  have hm : stepsMade (((keyedState s).withIdent i).withWatch w) = true := stepsMade_iff.2 ⟨ha, rfl, ht⟩
  have hh : (((keyedState s).withIdent i).withWatch w).playout.holds np = true :=
    List.any_eq_true.2 ⟨f, List.mem_of_find?_eq_some hf, List.find?_some (p := fun x : Frame => x.seq == np) hf⟩
  obtain ⟨p, e', hpn, hpu, hpt, hpf, -⟩ := stepped_plays
    (s := ((keyedState s).withIdent i).withWatch w) (np := np) (f := f) hf htr
  obtain ⟨w', e'', -, -⟩ := watchStep_heard ((((keyedState s).withIdent i).withWatch w).withPlayout p)
  refine ⟨i, p, w', ?_, hi, hpn, hpu, hpt, hpf⟩
  rw [e, playoutStep_eq hm hnp, hh, e']
  exact e''

end

theorem selectSource_tune {t : State} (hk : t.keying.state = .keyed) (ha : t.floor.state = .onAir)
    (ht : grantIsTune t = true) (ho : overlayInProgress t = false) : selectSource t = .tuneTone := by
  simp [selectSource, hk, ha, ht, ho]

/-- Settles O15: the key request of IDENT is `assertPtt`, and the lead timer's expiry is `enterKeyed` with its
news for the floor's state. -/
theorem keyingUpTakesTheLeadDelay : Obligations.KeyingUpTakesTheLeadDelay := by
  unfold Obligations.KeyingUpTakesTheLeadDelay
  refine fun s hr => ⟨fun hi ha hf hm hx hp hk hl => ?asks, fun hk hi => ?ident, fun hk ha ht hs => ?tune,
    fun np f hk ha ht _ hnp htr hf => ?stream⟩
  case asks =>
    have hd : askIdent s = assertPtt (s.withFloor { s.floor with identAsked := true }) :=
      askIdent_leads hi ha hf hm hx hp hk hl
    have hky := assertPtt_leads (s := s.withFloor { s.floor with identAsked := true }) hl
    refine gives_act (f := askIdent) rfl hr (by rw [hd]; simp) (by rw [hd]; simp) ?_
    rw [hd]
    exact ⟨by simp [hky], by simp [hky], by simp, by simp⟩
  all_goals
    have hlead : leadExpired s = enterKeyed s := by rw [leadExpired, if_pos hk]
  case ident =>
    have hd : leadExpired s = startIdentSender (keyedState s) := hlead.trans (enterKeyed_ident hi)
    refine gives_act (f := leadExpired) rfl hr (by rw [hd]; rfl) (by rw [hd]; rfl) ?_
    rw [hd]
    simp [startIdentSender, keyedState]
  case tune =>
    have hd : leadExpired s = startTuneTone (keyedState s) := hlead.trans (enterKeyed_tune ha ht)
    refine gives_act (f := leadExpired) rfl hr (by rw [hd]; rfl) (by rw [hd]; rfl) ?_
    rw [hd]
    have hsrc : (closeAct s (startTuneTone (keyedState s))).source = .tuneTone := by
      rw [(closeAct_settled s _).source]
      refine selectSource_tune (by simp [keyedState]) (by simpa [keyedState] using ha)
        ((grantIsTune_of_floor (by simp [keyedState])).trans ht) ?_
      simp [overlayInProgress, keyedState, hs]
    have htone : (closeAct s (startTuneTone (keyedState s))).tone = (startTuneTone (keyedState s)).tone := by simp
    rw [htone]
    exact ⟨by simp [keyedState], hsrc, rfl, rfl, rfl, rfl, by simp [keyedState]⟩
  case stream =>
    obtain ⟨i, p, w, e, -, hpn, hpu, hpt, hpf⟩ := enterKeyed_plays ha ht hnp (by omega) hf
    have hd := hlead.trans e
    refine gives_act (f := leadExpired) rfl hr (by rw [hd]; rfl) (by rw [hd]; rfl) ?_
    rw [hd]
    have hp : (closeAct s ((((keyedState s).withIdent i).withPlayout p).withWatch w)).playout = p := by simp
    rw [hp]
    exact ⟨by simp [keyedState], by simp [keyedState], hpt, hpn, hpu, hpf, by simp [keyedState]⟩

end Sys2Proof.Machine

/-! O11: the take of an audio cell (R82, R83, R87, R97, R99, R104). -/

namespace Sys2Proof.Machine

/-! ### The take (R13, R82, R161) -/

/-- R13, R161: the state in which an audio cell is taken: its hand-over byte is written and its seat's deadline
renewed. -/
def cellTaken (seat : SeatNo) (cell : AudioCellNo) (s : State) : State :=
  renewPresence seat (writeHandover (.audio seat cell) 1 s)

/-- What the take makes of the frame. -/
def frameTaken (seat : SeatNo) (cell : AudioCellNo) (s : State) : State :=
  if streamFrame seat (audioHead s (.audio seat cell)) s then
    placeFrame seat ⟨(audioHead s (.audio seat cell)).seq, audioPayload s (.audio seat cell)⟩
      (cellTaken seat cell s)
  else raiseCounter seat .refused (cellTaken seat cell s)

section

variable {s t u d : State} {seat : SeatNo} {cell : AudioCellNo} {P : State → Prop} {h : Holder}

theorem cellBytes_audio_writeHandover {i k : Nat} (v : Byte) (s : State) (hk : i + k < 384) :
    cellBytes (writeHandover (.audio seat cell) v s) (.audio seat cell) i k
      = cellBytes s (.audio seat cell) i k :=
  Memory.readBlock_congr fun j hj =>
    read_writeHandover_other v s (by simp only [CellRef.handoverAddress, CellRef.size]; omega)

theorem cellByte_audio_writeHandover {i : Nat} (v : Byte) (s : State) (hi : i < 383) :
    cellByte (writeHandover (.audio seat cell) v s) (.audio seat cell) i
      = cellByte s (.audio seat cell) i :=
  read_writeHandover_other v s (by simp only [CellRef.handoverAddress, CellRef.size]; omega)

/-- R82: the hand-over byte is no byte of the frame. -/
theorem audioFrame_writeHandover (v : Byte) (s : State) :
    audioHead (writeHandover (.audio seat cell) v s) (.audio seat cell) = audioHead s (.audio seat cell)
      ∧ audioPayload (writeHandover (.audio seat cell) v s) (.audio seat cell)
        = audioPayload s (.audio seat cell) := by
  constructor
  · simp [audioHead, cellByte_audio_writeHandover, cellBytes_audio_writeHandover]
  · simp only [audioPayload, cellByte_audio_writeHandover v s (show 0 < 383 by decide),
      cellByte_audio_writeHandover v s (show 1 < 383 by decide),
      cellBytes_audio_writeHandover v s (show 16 + 320 < 384 by decide)]
    rw [cellBytes_audio_writeHandover v s (by omega)]

theorem acceptHandover_audio (seat : SeatNo) (cell : AudioCellNo) (s : State) :
    acceptHandover (.audio seat cell) s = writeHandover (.audio seat cell) 0 (frameTaken seat cell s) := by
  obtain ⟨hh, hp⟩ := audioFrame_writeHandover (seat := seat) (cell := cell) 1 s
  simp only [acceptHandover, takeAudioCell, hh, hp]
  rfl

theorem audioCellTake_gives (hp : PortTakes s) (hc : partHeld s (.audio seat cell) = false)
    (hd : frameTaken seat cell s = d)
    (hP : P (closeAct s (finishSetup s (writeHandover (.audio seat cell) 0 d)))) :
    Gives (exec (.audioCellTake seat cell) s) P := by
  refine ⟨_, exec_handedCell rfl s, ?_⟩
  rw [handOver_open _ hp, act_running hp.1, writeToHandover_hostHeld hc, acceptHandover_audio, hd]
  exact hP

/-- The part writes no audio cell. -/
theorem not_partWrites_audio (seat : SeatNo) (cell : AudioCellNo) :
    ¬ partWrites (CellRef.audio seat cell).handoverAddress := by
  have hc : cell.val = 0 ∨ cell.val = 1 ∨ cell.val = 2 ∨ cell.val = 3 := by omega
  rintro (⟨x, h, h'⟩ | ⟨x, h⟩ | ⟨n, ⟨h, h'⟩ | h⟩)
  all_goals
    simp only [CellRef.handoverAddress, CellRef.base, CellRef.size, seatArea] at *
    omega

/-- R161: the cell goes back to the host. -/
theorem audioCell_returned (before s d : State) :
    partHeld (closeAct before (finishSetup s (writeHandover (.audio seat cell) 0 d))) (.audio seat cell)
      = false := by
  have hr := (closeAct_ramKept before (finishSetup s (writeHandover (.audio seat cell) 0 d))).reads _
    (not_partWrites_audio seat cell)
  have h0 := partHeld_writeHandover_same (.audio seat cell) 0 d
  have hm : (finishSetup s (writeHandover (.audio seat cell) 0 d)).ram
    = (writeHandover (.audio seat cell) 0 d).ram := by simp
  rw [partHeld, hr, hm]
  exact h0

theorem cellTaken_attachment (x : SeatNo) :
    (cellTaken seat cell s).seats[x].attachment = renewedAt s seat x := by
  rw [cellTaken, renewPresence, modSeat_getElem, renewedAt]
  split
  · next h => subst h; rfl
  · rfl

/-- R13: the take renews the deadline of its seat. -/
theorem audioCell_renews (hd : Moves (cellTaken seat cell s) d) (before : State) :
    RenewedAtTake s (closeAct before (finishSetup s (writeHandover (.audio seat cell) 0 d))) seat := fun x => by
  have hc := closeAct_kept before (finishSetup s (writeHandover (.audio seat cell) 0 d)) .attachments x
  have hf := (finishSetup_moves s (writeHandover (.audio seat cell) 0 d)).seatsKept.attachment x
  rw [hc, hf]
  exact (hd.seatsKept.attachment x).trans (cellTaken_attachment x)

theorem frameTaken_moves (seat : SeatNo) (cell : AudioCellNo) (s : State) :
    Moves (cellTaken seat cell s) (frameTaken seat cell s) := by
  unfold frameTaken
  split
  · exact placeFrame_moves ..
  · exact raiseCounter_moves ..

/-- R13, R161: whatever becomes of the frame, the cell goes back and the deadline is renewed. -/
theorem audioCellTake_given {Q : State → Prop} (hp : PortTakes s) (hc : partHeld s (.audio seat cell) = false)
    (hd : frameTaken seat cell s = d)
    (hQ : Q (closeAct s (finishSetup s (writeHandover (.audio seat cell) 0 d)))) :
    Gives (exec (.audioCellTake seat cell) s) fun t =>
      partHeld t (.audio seat cell) = false ∧ RenewedAtTake s t seat ∧ Q t :=
  audioCellTake_gives hp hc hd ⟨audioCell_returned .., audioCell_renews (hd ▸ frameTaken_moves seat cell s) s, hQ⟩

/-! ### The counters (R97, R99) -/

theorem count_congr {r r' : Seat} {w : Bool} (n : CounterName)
    (h : r.counters = r'.counters ∧ r.saturated = r'.saturated) :
    (Seat.count w n r).counters = (Seat.count w n r').counters
      ∧ (Seat.count w n r).saturated = (Seat.count w n r').saturated := by
  obtain ⟨hc, hs⟩ := h
  unfold Seat.count
  rw [hc]
  (repeat' split) <;> exact ⟨rfl, by simp [hs]⟩

theorem counts_congr {r r' : Seat} {w : Bool} (names : List CounterName)
    (h : r.counters = r'.counters ∧ r.saturated = r'.saturated) :
    (names.foldl (fun r n => Seat.count w n r) r).counters
        = (names.foldl (fun r n => Seat.count w n r) r').counters
      ∧ (names.foldl (fun r n => Seat.count w n r) r).saturated
        = (names.foldl (fun r n => Seat.count w n r) r').saturated := by
  induction names generalizing r r' with
  | nil => exact h
  | cons n rest ih => exact ih (count_congr n h)

/-- What is counted from, is the counters and the station's wrap flag. -/
theorem Counted.of_counters {s s' t : State} {names : List CounterName} (h : Counted s' t seat names)
    (hs : ∀ x : SeatNo, s'.seats[x].counters = s.seats[x].counters
      ∧ s'.seats[x].saturated = s.seats[x].saturated) (hst : s'.station = s.station) :
    Counted s t seat names := fun x => by
  obtain ⟨hc, hsat⟩ := h x
  rw [hst] at hc hsat
  simp only at hc hsat ⊢
  rw [hc, hsat]
  split
  · exact counts_congr names (hs x)
  · exact hs x

theorem Counted.and {names : List CounterName} {n : CounterName} (h : Counted s t seat names)
    (hst : t.station = s.station) : Counted s (raiseCounter seat n t) seat (names ++ [n]) := fun x => by
  obtain ⟨hc, hsat⟩ := counted_raiseCounter seat n t x
  have hx := h x
  rw [hc, hsat]
  simp only at hx ⊢
  split
  · next e =>
    rw [if_pos e] at hx
    rw [List.foldl_append, hst]
    exact count_congr n hx
  · next e =>
    rw [if_neg e] at hx
    exact hx

theorem cellTaken_counters (x : SeatNo) :
    (cellTaken seat cell s).seats[x].counters = s.seats[x].counters
      ∧ (cellTaken seat cell s).seats[x].saturated = s.seats[x].saturated := by
  rw [cellTaken, renewPresence, modSeat_getElem]
  split
  · next h => subst h; exact ⟨rfl, rfl⟩
  · exact ⟨rfl, rfl⟩

theorem Counted.ofTaken {names : List CounterName} (h : Counted (cellTaken seat cell s) t seat names) :
    Counted s t seat names := h.of_counters cellTaken_counters rfl

end

/-! ### The placing of a stream frame (R87 to R89, R104) -/

section

variable {s t u d : State} {seat : SeatNo} {cell : AudioCellNo} {h : Holder} {f : Frame} {np : BitVec 16}

/-- R83: what makes a frame a stream frame. -/
theorem streamFrame_facts {head : AudioFrame} (h : streamFrame seat head s = true) :
    holderSeat s = some seat ∧ s.floor.state.streaming = true ∧ grantIsTune s = false := by
  unfold streamFrame at h
  split at h
  · next g hg =>
    simp only [Bool.and_eq_true, beq_iff_eq] at h
    obtain ⟨⟨⟨hh, hs⟩, hk⟩, -⟩ := h
    refine ⟨hh, hs, ?_⟩
    cases hm : g.mode <;> simp_all [grantIsTune, kindMatches]
  · simp at h

/-- R89: no start threshold is reported on the air, nor below it. -/
theorem reportThreshold_quiet
    (h : u.floor.state = .onAir ∨ u.playout.frames.length < u.station.threshold) : reportThreshold u = u := by
  unfold reportThreshold thresholdReached
  split
  · next ht =>
    have ha : u.floor.state = .onAir := h.resolve_right (by simpa using ht)
    rw [startThreshold, ha]
  · rfl

/-- R104: the disorder count as the watch keeps it. -/
def disordered (u : State) : Watch :=
  if watching u = true ∨ recording u = true then { u.watch with disorder := min 50 (u.watch.disorder + 1) }
  else u.watch

/-- R104: with DISORDER off, or short of its limit, the count alone is raised. -/
theorem disorderSeen_quiet
    (h : u.station.criteria.disorder = false ∨ u.watch.disorder + 1 ≠ u.station.disorderLimit) :
    disorderSeen u = u.withWatch (disordered u) := by
  unfold disorderSeen disordered
  by_cases hw : watching u = true ∨ recording u = true
  · rw [if_pos (by simpa using hw), if_pos hw]
    simp only
    split
    · next hl =>
      obtain ⟨hlt, hlim⟩ := hl
      have hlim' : min 50 (u.watch.disorder + 1) = u.station.disorderLimit := hlim
      have hlt' : u.watch.disorder < u.station.disorderLimit := hlt
      have hoff : u.station.criteria.disorder = false := h.resolve_right (by omega)
      have hhas : (u.withWatch { u.watch with disorder := min 50 (u.watch.disorder + 1) }).station.criteria.has
        .disorder = false := hoff
      rw [criterionMet, if_neg (by rw [hhas]; simp)]
    · rfl
  · rw [if_neg (by simpa using hw), if_neg hw]
    rfl

/-- R104: at its limit DISORDER is met. -/
theorem disorderSeen_met (hw : watching u = true ∨ recording u = true) (hl : u.station.disorderLimit ≤ 50)
    (h : u.watch.disorder + 1 = u.station.disorderLimit) : disorderSeen u
      = criterionMet .disorder (u.withWatch { u.watch with disorder := u.station.disorderLimit }) := by
  have hmin : min 50 (u.watch.disorder + 1) = u.station.disorderLimit := by omega
  unfold disorderSeen
  rw [if_pos (by simpa using hw)]
  simp only [hmin]
  have hlt : u.watch.disorder < u.station.disorderLimit := by omega
  exact if_pos ⟨hlt, rfl⟩

theorem placeFrame_some (seat : SeatNo) (f : Frame) (hnp : u.playout.np = some np) : placeFrame seat f u
    = if 32768 ≤ (f.seq - np).toNat then disorderSeen (raiseCounter seat .late u)
      else if 16 ≤ (f.seq - np).toNat then
        if 3 ≤ u.playout.earlyRun then resyncReports (resyncStream seat f u)
        else disorderSeen (raiseCounter seat .early
          (u.withPlayout { u.playout with earlyRun := u.playout.earlyRun + 1 }))
      else if u.playout.holds f.seq then disorderSeen (raiseCounter seat .duplicate u)
      else reportThreshold (insertFrame seat f (u.withPlayout { u.playout with earlyRun := 0 })) := by
  unfold placeFrame
  rw [hnp]

/-- R87: a frame is out of order: late, early with less than three in a row before it, or a duplicate. -/
theorem placeFrame_late (hnp : u.playout.np = some np) (hd : 32768 ≤ (f.seq - np).toNat) :
    placeFrame seat f u = disorderSeen (raiseCounter seat .late u) := by
  rw [placeFrame_some seat f hnp, if_pos hd]

theorem placeFrame_early (hnp : u.playout.np = some np) (hd : 16 ≤ (f.seq - np).toNat)
    (hd' : (f.seq - np).toNat < 32768) (he : u.playout.earlyRun < 3) :
    placeFrame seat f u = disorderSeen (raiseCounter seat .early
      (u.withPlayout { u.playout with earlyRun := u.playout.earlyRun + 1 })) := by
  rw [placeFrame_some seat f hnp, if_neg (Nat.not_le.2 hd'), if_pos hd, if_neg (Nat.not_le.2 he)]

theorem placeFrame_duplicate (hnp : u.playout.np = some np) (hd : (f.seq - np).toNat < 16)
    (hh : u.playout.holds f.seq = true) :
    placeFrame seat f u = disorderSeen (raiseCounter seat .duplicate u) := by
  rw [placeFrame_some seat f hnp, if_neg (by omega), if_neg (Nat.not_le.2 hd), if_pos hh]

/-- R87: or it is inserted, np being defined or the first of its stream. -/
theorem placeFrame_inserts (hnp : u.playout.np = some np) (hd : (f.seq - np).toNat < 16)
    (hh : u.playout.holds f.seq = false) : placeFrame seat f u
      = reportThreshold (insertFrame seat f (u.withPlayout { u.playout with earlyRun := 0 })) := by
  rw [placeFrame_some seat f hnp, if_neg (by omega), if_neg (Nat.not_le.2 hd), if_neg (by simp [hh])]

theorem placeFrame_first (hnp : u.playout.np = none) : placeFrame seat f u
    = reportThreshold (insertFrame seat f (u.withPlayout { u.playout with np := some f.seq })) := by
  simp [placeFrame, hnp]

/-- R88: a fourth early frame in a row resyncs the stream. -/
theorem placeFrame_resyncs (hnp : u.playout.np = some np) (hd : 16 ≤ (f.seq - np).toNat)
    (hd' : (f.seq - np).toNat < 32768) (he : 3 ≤ u.playout.earlyRun) :
    placeFrame seat f u = resyncReports (resyncStream seat f u) := by
  rw [placeFrame_some seat f hnp, if_neg (Nat.not_le.2 hd'), if_pos hd, if_pos he]

theorem frameTaken_placed {head : AudioFrame} (hh : head = audioHead s (.audio seat cell))
    (hs : streamFrame seat head s = true) : frameTaken seat cell s
      = placeFrame seat ⟨head.seq, audioPayload s (.audio seat cell)⟩ (cellTaken seat cell s) := by
  subst hh
  exact if_pos hs

/-- A frame that is placed without a word to the floor. -/
structure Placed (s : State) (seat : SeatNo) (d : State) (p : Playout) (w : Watch)
    (names : List CounterName) : Prop where
  floor   : d.floor = s.floor
  playout : d.playout = p
  watch   : d.watch = w
  counted : Counted s d seat names

theorem Placed.closed {p : Playout} {w : Watch} {names : List CounterName} (h : Placed s seat d p w names)
    (c : CellRef) : Placed s seat (closeAct s (finishSetup s (writeHandover c 0 d))) p w names := by
  have hf : finishSetup s (writeHandover c 0 d) = writeHandover c 0 d :=
    finishSetup_kept (by simp [h.floor]) (by simp [h.floor])
  have hc : Counted s (writeHandover c 0 d) seat names := h.counted
  rw [hf]
  exact ⟨by simp [h.floor], by simp [h.playout], by simp [h.watch], hc.close s⟩

/-- R87, R97: a frame inserted with no start threshold to report. -/
theorem insertFrame_placed {p : Playout}
    (ht : s.floor.state = .onAir ∨ p.frames.length + 1 < s.station.threshold) :
    Placed s seat (reportThreshold (insertFrame seat f ((cellTaken seat cell s).withPlayout p)))
      { p with frames := p.frames ++ [f] } s.watch [.taken] := by
  rw [reportThreshold_quiet (u := insertFrame seat f ((cellTaken seat cell s).withPlayout p))
    (ht.imp id fun h => by simpa [insertFrame, cellTaken] using h)]
  exact ⟨rfl, rfl, rfl, Counted.ofTaken (Counted.of_seats (counted_raiseCounter _ _ _) rfl rfl)⟩

/-- R97, R104: a frame out of order with DISORDER not met. -/
theorem disorderSeen_placed {p : Playout} {n : CounterName}
    (hq : s.station.criteria.disorder = false ∨ s.watch.disorder + 1 ≠ s.station.disorderLimit) :
    Placed s seat (disorderSeen (raiseCounter seat n ((cellTaken seat cell s).withPlayout p))) p
      (disordered s) [n] := by
  rw [disorderSeen_quiet (u := raiseCounter seat n ((cellTaken seat cell s).withPlayout p)) hq]
  exact ⟨rfl, rfl, rfl, Counted.ofTaken (Counted.of_seats (counted_raiseCounter _ _ _) rfl rfl)⟩

end

/-- Settles O11: by the distance of the frame from np, each place it takes leaving the floor alone. -/
theorem audioFrameIsPlacedByItsDistance : Obligations.AudioFrameIsPlacedByItsDistance := by
  unfold Obligations.AudioFrameIsPlacedByItsDistance
  refine fun s seat cell head hp hc hhead => ⟨fun hs => ?refused, fun hs hnp ht => ?first,
    fun np d seen hs hnp hd hseen hq ht he => ?placed⟩
  case refused =>
    have hd : frameTaken seat cell s = raiseCounter seat .refused (cellTaken seat cell s) := by
      subst hhead
      exact if_neg (by simp [hs])
    have hpl : Placed s seat (raiseCounter seat .refused (cellTaken seat cell s)) s.playout s.watch [.refused] :=
      ⟨rfl, rfl, rfl, Counted.ofTaken (counted_raiseCounter _ _ _)⟩
    obtain ⟨hf, hpo, hw, hct⟩ := hpl.closed (.audio seat cell)
    exact audioCellTake_given hp hc hd ⟨hpo, hf, hw, hct⟩
  case first =>
    have hd := (frameTaken_placed hhead hs).trans (placeFrame_first (u := cellTaken seat cell s) hnp)
    obtain ⟨hf, hpo, hw, hct⟩ := (insertFrame_placed (seat := seat) (cell := cell) (s := s)
      (f := ⟨head.seq, audioPayload s (.audio seat cell)⟩)
      (p := { s.playout with np := some head.seq }) ht).closed (.audio seat cell)
    exact audioCellTake_given hp hc hd ⟨hf, hpo, hw, hct⟩
  case placed =>
    have hpl := frameTaken_placed hhead hs
    have hseen' : seen = disordered s := hseen
    subst hd
    split
    · next hl =>
      have hd := hpl.trans (placeFrame_late (u := cellTaken seat cell s) hnp hl)
      obtain ⟨hf, hpo, hw, hct⟩ := (disorderSeen_placed (seat := seat) (cell := cell) (p := s.playout)
        (n := .late) hq).closed (.audio seat cell)
      exact audioCellTake_given hp hc hd ⟨hf, hpo, hw.trans hseen'.symm, hct⟩
    · next hl =>
      split
      · next h16 =>
        have hl' := Nat.not_le.1 hl
        have hd := hpl.trans (placeFrame_early (u := cellTaken seat cell s) hnp h16 hl' (he h16 hl'))
        obtain ⟨hf, hpo, hw, hct⟩ := (disorderSeen_placed (seat := seat) (cell := cell)
          (p := { s.playout with earlyRun := s.playout.earlyRun + 1 }) (n := .early) hq).closed
          (.audio seat cell)
        exact audioCellTake_given hp hc hd ⟨hf, hpo, hw.trans hseen'.symm, hct⟩
      · next h16 =>
        have h16' := Nat.not_le.1 h16
        split
        · next hh =>
          have hd := hpl.trans (placeFrame_duplicate (u := cellTaken seat cell s) hnp h16' hh)
          obtain ⟨hf, hpo, hw, hct⟩ := (disorderSeen_placed (seat := seat) (cell := cell) (p := s.playout)
            (n := .duplicate) hq).closed (.audio seat cell)
          exact audioCellTake_given hp hc hd ⟨hf, hpo, hw.trans hseen'.symm, hct⟩
        · next hh =>
          have hd := hpl.trans (placeFrame_inserts (u := cellTaken seat cell s) hnp h16'
            (Bool.eq_false_iff.2 hh))
          obtain ⟨hf, hpo, hw, hct⟩ := (insertFrame_placed (seat := seat) (cell := cell) (s := s)
            (f := ⟨head.seq, audioPayload s (.audio seat cell)⟩)
            (p := { s.playout with earlyRun := 0 }) ht).closed (.audio seat cell)
          exact audioCellTake_given hp hc hd ⟨hf, hpo, hw, hct⟩

end Sys2Proof.Machine

/-! O12: the start threshold, a resync and DISORDER act on the floor (R51, R53, R54, R88, R89, R104 to R107,
R109). -/

namespace Sys2Proof.Machine

section

variable {s t u d : State} {seat : SeatNo} {cell : AudioCellNo} {h : Holder} {f : Frame} {np : BitVec 16}
  {p : Playout}

/-- R13, R161: the take changes the hand-over byte and the attachments alone. -/
@[simp] theorem cellTaken_frame (seat : SeatNo) (cell : AudioCellNo) (s : State) :
    (cellTaken seat cell s).floor = s.floor ∧ (cellTaken seat cell s).queue = s.queue
      ∧ (cellTaken seat cell s).station = s.station ∧ (cellTaken seat cell s).pins = s.pins
      ∧ (cellTaken seat cell s).mode = s.mode ∧ (cellTaken seat cell s).keying = s.keying
      ∧ (cellTaken seat cell s).ident = s.ident ∧ (cellTaken seat cell s).watch = s.watch
      ∧ (cellTaken seat cell s).playout = s.playout ∧ (cellTaken seat cell s).bus = s.bus
      ∧ (cellTaken seat cell s).stamp = s.stamp := ⟨rfl, rfl, rfl, rfl, rfl, rfl, rfl, rfl, rfl, rfl, rfl⟩

/-- An act of an audio cell behind which the floor is not in SETTING is closed as it stands. -/
theorem finishSetup_cell {c : CellRef} (hd : d.floor.state ≠ .setting) :
    finishSetup s (writeHandover c 0 d) = writeHandover c 0 d := finishSetup_notSetting (by simpa using hd)

/-- R51, R54: ON_AIR is entered with the stream as it is. -/
theorem onAirState_playout (u : State) : (onAirState u).playout = u.playout := by
  rw [onAirState, setFloorState_playout, if_neg (by simp [FloorState.streaming])]
  rfl

theorem onAirState_sameFigures (x : SeatNo) : SameFigures x u (onAirState u) :=
  (SameFigures.of_seats rfl).trans (setFloorState_sameFigures .onAir)

/-- R89: the frame of a taken cell is inserted. -/
abbrev inserted (seat : SeatNo) (cell : AudioCellNo) (f : Frame) (p : Playout) (s : State) : State :=
  insertFrame seat f ((cellTaken seat cell s).withPlayout p)

theorem inserted_counted : Counted s (inserted seat cell f p s) seat [.taken] :=
  Counted.ofTaken (Counted.of_seats (counted_raiseCounter _ _ _) rfl rfl)

/-- R51, R54, R89: at the start threshold the floor enters ON_AIR. -/
theorem reportThreshold_onAir (hs : s.floor.state = .granted ∨ s.floor.state = .stalled)
    (ht : s.station.threshold ≤ p.frames.length + 1) :
    reportThreshold (inserted seat cell f p s) = keyRequest (onAirState (inserted seat cell f p s)) := by
  have hl : thresholdReached (inserted seat cell f p s) = true := by
    simpa [thresholdReached, insertFrame] using ht
  have hf : (inserted seat cell f p s).floor.state = s.floor.state := rfl
  rw [reportThreshold, if_pos hl, startThreshold, hf, ← enterOnAir_eq]
  rcases hs with e | e <;> rw [e]

/-- R89: a frame that finds its place in the window, and the stream it makes. -/
theorem frameTaken_inserts {head : AudioFrame} (hh : head = audioHead s (.audio seat cell))
    (hs : streamFrame seat head s = true)
    (hp : s.playout.np = none ∨ ∃ np, s.playout.np = some np ∧ (head.seq - np).toNat < 16
      ∧ s.playout.holds head.seq = false) :
    ∃ p, frameTaken seat cell s
        = reportThreshold (inserted seat cell ⟨head.seq, audioPayload s (.audio seat cell)⟩ p s)
      ∧ p.frames = s.playout.frames ∧ p.trimRun = s.playout.trimRun
      ∧ p.np = some (s.playout.np.getD head.seq) := by
  have hpl := frameTaken_placed hh hs
  rcases hp with hn | ⟨np, hn, hd, hx⟩
  · refine ⟨{ s.playout with np := some head.seq }, hpl.trans (placeFrame_first hn), rfl, rfl, ?_⟩
    rw [hn]
    rfl
  · refine ⟨{ s.playout with earlyRun := 0 }, hpl.trans (placeFrame_inserts hn hd hx), rfl, rfl, ?_⟩
    change s.playout.np = _
    rw [hn]
    rfl

/-- R51, R54, R130: at the start threshold the station is keyed with its lead delay. -/
theorem thresholdLeads (hp : PortTakes s) (hc : partHeld s (.audio seat cell) = false)
    (hd : frameTaken seat cell s = reportThreshold (inserted seat cell f p s)) (hf : p.frames = s.playout.frames)
    (hs : s.floor.state = .granted ∨ s.floor.state = .stalled)
    (ht : s.station.threshold ≤ s.playout.frames.length + 1) (hm : s.mode = .serving)
    (hi : s.pins.txInhibit = false) (ha : s.pins.ampFault = false) (hk : s.keying.state = .unkeyed)
    (hl : s.station.lead ≠ 0) :
    Gives (exec (.audioCellTake seat cell) s) fun t =>
      t.floor = { s.floor with state := .onAir, startWait := none, rejoin := none }
        ∧ t.keying.state = .leading ∧ t.keying.lead = some s.station.lead
        ∧ pttOut t = true ∧ keyOut t = false ∧ t.ident.window = true
        ∧ t.playout.frames = s.playout.frames ++ [f] ∧ Counted s t seat [.taken] := by
  have hd' := (hd.trans (reportThreshold_onAir hs (by rw [hf]; exact ht))).trans
    (onAir_leads (s := inserted seat cell f p s) hm hi (fun h => by
      have : s.pins.ampFault = true := h.1
      simp [ha] at this) hk hl)
  have hkey := assertPtt_leads (s := onAirState (inserted seat cell f p s)) (by simpa [onAirState, insertFrame] using hl)
  refine audioCellTake_gives hp hc hd' ?_
  rw [finishSetup_cell (by simp)]
  have hks : (closeAct s (writeHandover (.audio seat cell) 0
      (assertPtt (onAirState (inserted seat cell f p s))))).keying.state = .leading := by simp [hkey]
  have hpl : (closeAct s (writeHandover (.audio seat cell) 0
      (assertPtt (onAirState (inserted seat cell f p s))))).pins = s.pins := by
    simp
  have hfl : (onAirState (inserted seat cell f p s)).playout.frames = s.playout.frames ++ [f] := by
    rw [onAirState_playout, ← hf]
    rfl
  refine ⟨by simp [insertFrame], hks, ?_, ?_, ?_, by simp, by simp [hfl], Counted.close ?_ s⟩
  · simp [hkey]
  · rw [pttOut, hks, hpl, hp.1]
    rfl
  · rw [keyOut, hks]
    simp
  · refine Counted.of_kept (t := inserted seat cell f p s) inserted_counted fun x => ?_
    have hx := onAirState_sameFigures (u := inserted seat cell f p s) x
    have e : (writeHandover (.audio seat cell) 0 (assertPtt (onAirState (inserted seat cell f p s)))).seats
      = (onAirState (inserted seat cell f p s)).seats := by simp
    rw [e]
    exact hx

theorem find?_of_holds {frames : List Frame} (hh : frames.any (fun x => x.seq == np) = true) :
    ∃ g, frames.find? (fun x => x.seq == np) = some g := by
  rw [← Option.isSome_iff_exists, List.find?_isSome]
  simpa using hh

/-- R91, R131: KEYED entered on the air with the frame of np held. -/
structure KeyedOn (v z : State) (np : BitVec 16) : Prop where
  floor  : z.floor = v.floor
  keying : z.keying.state = .keyed ∧ z.keying.lead = none
  window : z.ident.window = v.ident.window
  played : z.playout.np = some (np + 1) ∧ z.playout.timer = some 20 ∧ z.playout.u = 0
  seats  : z.seats = v.seats
  pins   : z.pins = v.pins

theorem enterKeyed_keyedOn {v : State} {g : Frame} (ha : v.floor.state = .onAir) (ht : grantIsTune v = false)
    (hnp : v.playout.np = some np) (htr : v.playout.trimRun < 249)
    (hf : v.playout.frames.find? (fun x => x.seq == np) = some g) : KeyedOn v (enterKeyed v) np := by
  obtain ⟨i, q, w, e, hi, hqn, hqu, hqt, -⟩ := enterKeyed_plays ha ht hnp htr hf
  rw [e]
  exact ⟨by simp [keyedState], ⟨by simp [keyedState], by simp [keyedState]⟩, by simp [hi],
    ⟨by simp [hqn], by simp [hqt], by simp [hqu]⟩, by simp [keyedState], by simp [keyedState]⟩

/-- R51, R54, R91, R131: with a lead delay of 0 the station is KEYED at once and plays the frame of np. -/
theorem thresholdKeys (hp : PortTakes s) (hc : partHeld s (.audio seat cell) = false)
    (hd : frameTaken seat cell s = reportThreshold (inserted seat cell f p s)) (hf : p.frames = s.playout.frames)
    (hs : s.floor.state = .granted ∨ s.floor.state = .stalled)
    (ht : s.station.threshold ≤ s.playout.frames.length + 1) (hm : s.mode = .serving)
    (hi : s.pins.txInhibit = false) (ha : s.pins.ampFault = false) (hk : s.keying.state = .unkeyed)
    (hl : s.station.lead = 0) (hnt : grantIsTune s = false) (hnp : p.np = some np)
    (hh : (p.frames ++ [f]).any (fun x => x.seq == np) = true) (htr : p.trimRun < 249) :
    Gives (exec (.audioCellTake seat cell) s) fun t =>
      t.floor = { s.floor with state := .onAir, startWait := none, rejoin := none }
        ∧ t.keying.state = .keyed ∧ t.keying.lead = none ∧ pttOut t = true
        ∧ t.ident.window = true ∧ t.playout.np = some (np + 1)
        ∧ t.playout.timer = some 20 ∧ t.playout.u = 0 ∧ Counted s t seat [.taken] := by
  have hpo : (assertPtt (onAirState (inserted seat cell f p s))).playout
      = { p with frames := p.frames ++ [f] } := by
    have e : (assertPtt (onAirState (inserted seat cell f p s))).playout
      = (onAirState (inserted seat cell f p s)).playout := by simp
    rw [e, onAirState_playout]
    rfl
  have hkeys : keyRequest (onAirState (inserted seat cell f p s))
      = enterKeyed (assertPtt (onAirState (inserted seat cell f p s))) := by
    refine keyRequest_keys (mayKey_iff.2 ⟨by simpa [insertFrame] using hk, .inl (by simp), by
      simpa [insertFrame] using hm, by simpa [insertFrame] using hi⟩) (fun h => ?_) (by simpa [insertFrame] using hl)
    simp [insertFrame, ha] at h
  obtain ⟨g, hg⟩ := find?_of_holds hh
  have hkd : KeyedOn (assertPtt (onAirState (inserted seat cell f p s)))
      (enterKeyed (assertPtt (onAirState (inserted seat cell f p s)))) np :=
    enterKeyed_keyedOn (g := g) (by simp) ((grantIsTune_of_floor (by simp [insertFrame])).trans hnt)
      (by rw [hpo]; exact hnp) (by rw [hpo]; exact htr) (by rw [hpo]; exact hg)
  refine audioCellTake_gives hp hc ((hd.trans (reportThreshold_onAir hs (by rw [hf]; exact ht))).trans hkeys) ?_
  generalize enterKeyed (assertPtt (onAirState (inserted seat cell f p s))) = z at hkd
  obtain ⟨hzf, ⟨hzk, hzl⟩, hzw, ⟨hzn, hzt, hzu⟩, hzs, hzp⟩ := hkd
  have hzf' : z.floor = { s.floor with state := .onAir, startWait := none, rejoin := none } :=
    hzf.trans (by simp [insertFrame])
  have hpin : (closeAct s (writeHandover (.audio seat cell) 0 z)).pins = s.pins := by simp [hzp]
  rw [finishSetup_cell (by simp [hzf'])]
  refine ⟨by simp [hzf'], by simp [hzk], by simp [hzl], ?_, by simp [hzw], by simp [hzn], by simp [hzt],
    by simp [hzu], Counted.close ?_ s⟩
  · rw [pttOut, hpin, hp.1]
    simp [hzk]
  · refine Counted.of_kept (t := inserted seat cell f p s) inserted_counted fun x => ?_
    have e : (writeHandover (.audio seat cell) 0 z).seats = (onAirState (inserted seat cell f p s)).seats :=
      hzs.trans (by simp)
    rw [e]
    exact onAirState_sameFigures (u := inserted seat cell f p s) x

/-! ### A resync (R88, R106) -/

/-- R104 to R107: off the air and not recording, a criterion is met without consequence. -/
theorem criterionMet_unheard {c : Criterion} (hw : watching u = false) (hr : recording u = false) :
    criterionMet c u = u := by
  simp [criterionMet, hw, hr]

theorem criterionMet_recording {c : Criterion} (hc : u.station.criteria.has c = true)
    (hs : u.floor.state = .stalled) : criterionMet c u = addCriterion c u := by
  simp [criterionMet, hc, watching, recording, hs]

/-- R88: the stream as a resync leaves it. -/
abbrev resynced (seat : SeatNo) (cell : AudioCellNo) (f : Frame) (s : State) : State :=
  resyncStream seat f (cellTaken seat cell s)

theorem resynced_counted : Counted s (resynced seat cell f s) seat [.taken, .resync] :=
  Counted.ofTaken (Counted.and (names := [.taken]) (Counted.of_seats (counted_raiseCounter _ _ _) rfl rfl) rfl)

theorem resynced_playout : (resynced seat cell f s).playout
    = { s.playout with frames := [f], np := some f.seq, earlyRun := 0 } := rfl

theorem resynced_frame : (resynced seat cell f s).floor = s.floor ∧ (resynced seat cell f s).watch = s.watch
    ∧ (resynced seat cell f s).keying = s.keying ∧ (resynced seat cell f s).station = s.station
    ∧ (resynced seat cell f s).ident = s.ident := by
  simp [resyncStream, insertFrame]

/-- R106: the threshold is not reported on the air, nor with one frame short of it. -/
theorem resyncReports_quiet (h : s.floor.state = .onAir ∨ 1 < s.station.threshold) :
    resyncReports (resynced seat cell f s) = criterionMet .resync (resynced seat cell f s) := by
  rw [resyncReports, if_neg]
  rintro ⟨ht, ha⟩
  have ht' : s.station.threshold ≤ 1 := by
    rw [thresholdReached, resynced_playout] at ht
    simpa using ht
  rcases h with h | h
  · exact ha h
  · omega

/-- R88: below the start threshold in GRANTED nothing else follows. -/
theorem resyncGranted (hp : PortTakes s) (hc : partHeld s (.audio seat cell) = false)
    (hd : frameTaken seat cell s = resyncReports (resynced seat cell f s)) (hs : s.floor.state = .granted)
    (ht : 1 < s.station.threshold) :
    Gives (exec (.audioCellTake seat cell) s) fun t =>
      t.playout = { s.playout with frames := [f], np := some f.seq, earlyRun := 0 }
        ∧ t.floor = s.floor ∧ Counted s t seat [.taken, .resync] := by
  obtain ⟨hfl, hwt, -⟩ := resynced_frame (seat := seat) (cell := cell) (f := f) (s := s)
  have hst : (resynced seat cell f s).floor.state = .granted := by rw [hfl, hs]
  have hw : watching (resynced seat cell f s) = false := Bool.eq_false_iff.2 fun h => by
    have ha := (watching_onAir h).1
    rw [hst] at ha
    cases ha
  have hr : recording (resynced seat cell f s) = false := by
    rw [recording, hst]
    rfl
  have hd' := (hd.trans (resyncReports_quiet (.inr ht))).trans (criterionMet_unheard hw hr)
  have hpl : Placed s seat (resynced seat cell f s)
      { s.playout with frames := [f], np := some f.seq, earlyRun := 0 } s.watch [.taken, .resync] :=
    ⟨hfl, resynced_playout, hwt, resynced_counted⟩
  obtain ⟨hf, hpo, -, hct⟩ := hpl.closed (.audio seat cell)
  exact audioCellTake_gives hp hc hd' ⟨hpo, hf, hct⟩

/-- R107, R109, R112: a criterion added in STALLED, in the set and on the board, and nothing else. -/
theorem recorded_closed {c : Criterion} (hp : PortTakes s) (hc : partHeld s (.audio seat cell) = false)
    (hd : frameTaken seat cell s = addCriterion c u) (hf : u.floor = s.floor) (hk : u.keying = s.keying)
    (hh : s.floor.holder = some h) (hs : h.seat = seat) :
    Gives (exec (.audioCellTake seat cell) s) fun t =>
      t.playout = u.playout ∧ t.floor = s.floor ∧ t.keying.state = s.keying.state
        ∧ t.watch = { u.watch with criteria := u.watch.criteria.add c }
        ∧ t.seats[seat].criteria = u.watch.criteria.add c
        ∧ ∀ names, Counted s u seat names → Counted s t seat names := by
  obtain ⟨hw, hb, hx⟩ := addCriterion_added (c := c) (u := u) (h := h) (by rw [hf, hh])
  have hfin : finishSetup s (writeHandover (.audio seat cell) 0 (addCriterion c u))
      = writeHandover (.audio seat cell) 0 (addCriterion c u) :=
    finishSetup_kept (by simp [hf]) (by simp [hf])
  refine audioCellTake_gives hp hc hd ?_
  rw [hfin]
  refine ⟨by simp, by simp [hf], by simp [hk], ?_, ?_, fun names hn => Counted.close ?_ s⟩
  · have e : (closeAct s (writeHandover (.audio seat cell) 0 (addCriterion c u))).watch
        = (addCriterion c u).watch := by simp
    rw [e, hw]
  · have hcr := (closeAct_kept s (writeHandover (.audio seat cell) 0 (addCriterion c u)) .figures seat).2.2.1
    subst hs
    exact hcr.trans hb
  · intro x
    obtain ⟨-, -, h1, h2, -⟩ := hx x
    obtain ⟨n1, n2⟩ := hn x
    exact ⟨h1.trans n1, h2.trans n2⟩

/-- R53: a criterion met while watching stalls the turn. -/
theorem stalled_closed {c : Criterion} (hp : PortTakes s) (hc : partHeld s (.audio seat cell) = false)
    (hd : frameTaken seat cell s = criterionMet c u) (hcr : u.station.criteria.has c = true)
    (hw : watching u = true) (hf : u.floor = s.floor) (hst : u.station = s.station)
    (hh : s.floor.holder = some h) (hs : h.seat = seat) (hr : s.station.rejoin ≠ 0) :
    Gives (exec (.audioCellTake seat cell) s) fun t =>
      t.playout.frames = u.playout.frames ∧ t.playout.np = u.playout.np
        ∧ t.floor = { s.floor with state := .stalled, rejoin := some s.station.rejoin }
        ∧ t.keying.state = .unkeyed ∧ t.watch.steps = 0 ∧ t.watch.disorder = 0
        ∧ t.watch.criteria = u.watch.criteria.add c ∧ t.seats[seat].criteria = u.watch.criteria.add c := by
  have hsb := criterionMet_stalls hcr hw (h := h) (by rw [hf, hh]) (by rw [hst]; exact hr)
  have hfin : finishSetup s (writeHandover (.audio seat cell) 0 (criterionMet c u))
      = writeHandover (.audio seat cell) 0 (criterionMet c u) := finishSetup_cell (by simp [hsb.floor])
  have hcrit := (closeAct_kept s (writeHandover (.audio seat cell) 0 (criterionMet c u)) .figures seat).2.2.1
  have hwt : (closeAct s (writeHandover (.audio seat cell) 0 (criterionMet c u))).watch
    = (criterionMet c u).watch := by simp
  refine audioCellTake_gives hp hc hd ?_
  rw [hfin, hwt, hsb.watch]
  subst hs
  exact ⟨by simp [hsb.frames.1], by simp [hsb.frames.2], by simp [hsb.floor, hf, hst], by simp [hsb.unkeyed],
    rfl, rfl, rfl, hcrit.trans hsb.board⟩

/-- R53, R111: or, with a rejoin window of 0, it ends the turn LINK. -/
theorem linkEnded_closed {c : Criterion} (hp : PortTakes s) (hc : partHeld s (.audio seat cell) = false)
    (hd : frameTaken seat cell s = criterionMet c u) (hcr : u.station.criteria.has c = true)
    (hw : watching u = true) (hy : TurnYet s u h) (hst : u.station = s.station) (hr : s.station.rejoin = 0)
    (hq : u.queue = s.queue) (hi : u.ident = s.ident) :
    Gives (exec (.audioCellTake seat cell) s) fun t =>
      EndedToIdle s t h .link (.criteria (u.watch.criteria.add c)) := by
  obtain ⟨v, e, hyv, hqv, hpv, -⟩ := criterionMet_ends hcr hw hy (by rw [hst]; exact hr)
  refine audioCellTake_gives hp hc (hd.trans e) ?_
  have htold := hyv.told .link (.criteria (u.watch.criteria.add c))
  have hidle : StoodIdle s (endTurn .link (.criteria (u.watch.criteria.add c)) v) :=
    endTurn_stoodIdle _ _ (fun h0 => by rw [hqv, hq, h0]) (fun h0 => by rw [hpv, hi, h0])
  generalize endTurn .link (.criteria (u.watch.criteria.add c)) v = z at htold hidle
  have htold' : TurnTold s (writeHandover (.audio seat cell) 0 z) h .link (.criteria (u.watch.criteria.add c)) :=
    htold.of_eq rfl rfl rfl rfl rfl rfl (partHeld_writeHandover_other 0 z (by simp))
  exact htold'.endedToIdle (hidle.of_eq rfl)

/-! ### DISORDER (R104, R107, R109) -/

/-- A frame that is late, early or a duplicate. -/
theorem placeFrame_disordered (hnp : s.playout.np = some np)
    (hd : 32768 ≤ (f.seq - np).toNat ∨ 16 ≤ (f.seq - np).toNat ∧ s.playout.earlyRun < 3
      ∨ (f.seq - np).toNat < 16 ∧ s.playout.holds f.seq = true) :
    ∃ n p, placeFrame seat f (cellTaken seat cell s)
      = disorderSeen (raiseCounter seat n ((cellTaken seat cell s).withPlayout p)) := by
  by_cases hl : 32768 ≤ (f.seq - np).toNat
  · exact ⟨.late, s.playout, placeFrame_late hnp hl⟩
  · rcases hd with hd | ⟨hd, he⟩ | ⟨hd, hh⟩
    · exact absurd hd hl
    · exact ⟨.early, _, placeFrame_early hnp hd (Nat.not_le.1 hl) he⟩
    · exact ⟨.duplicate, s.playout, placeFrame_duplicate hnp hd hh⟩

/-- R104: the disorder count at its limit, in which DISORDER is met. -/
abbrev disorderFull (seat : SeatNo) (cell : AudioCellNo) (n : CounterName) (p : Playout) (s : State) : State :=
  (raiseCounter seat n ((cellTaken seat cell s).withPlayout p)).withWatch
    { s.watch with disorder := s.station.disorderLimit }

theorem disorderFull_frame (n : CounterName) (p : Playout) :
    (disorderFull seat cell n p s).floor = s.floor
      ∧ (disorderFull seat cell n p s).keying = s.keying ∧ (disorderFull seat cell n p s).station = s.station
      ∧ (disorderFull seat cell n p s).ident = s.ident ∧ (disorderFull seat cell n p s).queue = s.queue
      ∧ (disorderFull seat cell n p s).watch = { s.watch with disorder := s.station.disorderLimit } := by
  simp

theorem frameTaken_disorder {head : AudioFrame} (hhead : head = audioHead s (.audio seat cell))
    (hs : streamFrame seat head s = true) (hnp : s.playout.np = some np)
    (hd : 32768 ≤ (head.seq - np).toNat ∨ 16 ≤ (head.seq - np).toNat ∧ s.playout.earlyRun < 3
      ∨ (head.seq - np).toNat < 16 ∧ s.playout.holds head.seq = true)
    (hl : s.station.disorderLimit ≤ 50) (hm : s.watch.disorder + 1 = s.station.disorderLimit)
    (hw : watching s = true ∨ recording s = true) :
    ∃ n p, frameTaken seat cell s = criterionMet .disorder (disorderFull seat cell n p s) := by
  obtain ⟨n, p, e⟩ := placeFrame_disordered (seat := seat) (cell := cell)
    (f := ⟨head.seq, audioPayload s (.audio seat cell)⟩) hnp hd
  exact ⟨n, p, ((frameTaken_placed hhead hs).trans e).trans
    (disorderSeen_met (u := raiseCounter seat n ((cellTaken seat cell s).withPlayout p)) hw hl hm)⟩

theorem disorderFull_yet (n : CounterName) (p : Playout) (hl : FloorLaw s) (hh : s.floor.holder = some h) :
    TurnYet s (disorderFull seat cell n p s) h where
  holder := hh
  keyedMs := rfl
  attached := by
    have hm : Moves (cellTaken seat cell s) (raiseCounter seat n (cellTaken seat cell s)) :=
      raiseCounter_moves ..
    have he : (disorderFull seat cell n p s).seats = (raiseCounter seat n (cellTaken seat cell s)).seats := rfl
    have ha := attachment_isSome (hl.holder_attached h hh)
    rw [he, hm.seatsKept.attachment, cellTaken_attachment, renewedAt]
    split <;> simpa using ha
  alone := hl.holder_not_queued h hh
  present := rfl
  amp := rfl
  stamp := rfl
  held := partHeld_writeHandover_other (c := .audio seat cell) 1 s (by simp)

end

/-- Settles O12: by the case the frame comes to, each closed with what its criterion or its threshold does to the
floor. -/
theorem thresholdAndResyncActOnTheFloor : Obligations.ThresholdAndResyncActOnTheFloor := by
  unfold Obligations.ThresholdAndResyncActOnTheFloor
  refine fun s seat cell head h hp hc hhead hs hh => ?_
  obtain ⟨hholder, -, hnt⟩ := streamFrame_facts hs
  have hseat : h.seat = seat := by simpa [holderSeat, hh] using hholder
  refine ⟨fun hst ht hm hi ha hk => ⟨fun hnp hl => ?leads, fun np hnp hl htr => ?keys⟩,
    fun np hnp hd hd' he => ?resync,
    fun np d hnp hdeq hd hcr hl hm => ?disorder⟩
  case leads =>
    obtain ⟨p, hd, hf, -, -⟩ := frameTaken_inserts hhead hs hnp
    exact thresholdLeads hp hc hd hf hst ht hm hi ha hk hl
  case keys =>
    have hplace : s.playout.np = none ∨ ∃ np, s.playout.np = some np ∧ (head.seq - np).toNat < 16
        ∧ s.playout.holds head.seq = false := by
      rcases hnp with ⟨hn, -⟩ | ⟨hn, hd, hx, -⟩
      · exact .inl hn
      · exact .inr ⟨np, hn, hd, hx⟩
    obtain ⟨p, hd, hf, htr', hpn⟩ := frameTaken_inserts hhead hs hplace
    have hnp' : p.np = some np := by
      rcases hnp with ⟨hn, e⟩ | ⟨hn, -⟩
      · rw [hpn, hn, e]
        rfl
      · rw [hpn, hn]
        rfl
    refine thresholdKeys hp hc hd hf hst ht hm hi ha hk hl hnt hnp' ?_ (by rw [htr']; exact htr)
    rw [hf, List.any_append]
    rcases hnp with ⟨-, e⟩ | ⟨-, -, -, e | e⟩
    · simp [e]
    · simp [e]
    · have e' : s.playout.frames.any (fun x => x.seq == np) = true := e
      simp [e']
  case resync =>
    have hd : frameTaken seat cell s
        = resyncReports (resynced seat cell ⟨head.seq, audioPayload s (.audio seat cell)⟩ s) :=
      (frameTaken_placed hhead hs).trans (placeFrame_resyncs (u := cellTaken seat cell s) hnp hd hd' he)
    obtain ⟨hfl, hwt, hky, hsn, hid⟩ := resynced_frame (seat := seat) (cell := cell)
      (f := ⟨head.seq, audioPayload s (.audio seat cell)⟩) (s := s)
    have hpo := resynced_playout (seat := seat) (cell := cell)
      (f := ⟨head.seq, audioPayload s (.audio seat cell)⟩) (s := s)
    have hct := resynced_counted (seat := seat) (cell := cell)
      (f := ⟨head.seq, audioPayload s (.audio seat cell)⟩) (s := s)
    have hquiet := resyncReports_quiet (seat := seat) (cell := cell)
      (f := ⟨head.seq, audioPayload s (.audio seat cell)⟩) (s := s)
    refine ⟨fun hst ht => resyncGranted hp hc hd hst ht, ?_⟩
    generalize resynced seat cell ⟨head.seq, audioPayload s (.audio seat cell)⟩ s = r at *
    refine ⟨fun hst ht hcr => ?_, fun hw hcr hr => ?_⟩
    · have hcr' : r.station.criteria.has .resync = true := by rw [hsn]; exact hcr
      have hd := (hd.trans (hquiet (.inr ht))).trans (criterionMet_recording hcr' (by rw [hfl, hst]))
      obtain ⟨t, et, htp, hf, hk, hw, hb, hn⟩ := recorded_closed hp hc hd hfl hky hh hseat
      rw [hwt] at hw hb
      exact ⟨t, et, htp.trans hpo, hf, hk, hw, hb, hn _ hct⟩
    · have hcr' : r.station.criteria.has .resync = true := by rw [hsn]; exact hcr
      have hw' : watching r = true := by rw [watching_of hfl hky hid]; exact hw
      have hd := hd.trans (hquiet (.inl (watching_onAir hw).1))
      obtain ⟨t, et, hpf, hpn, hf, hk, -, -, hwc, -⟩ := stalled_closed hp hc hd hcr' hw' hfl hsn hh hseat hr
      rw [hpo] at hpf hpn
      exact ⟨t, et, hpf, hpn, by rw [hf], by rw [hf], by rw [hf], hk, by rw [hwc]; rfl⟩
  case disorder =>
    subst hdeq
    have full (hwr : watching s = true ∨ recording s = true) : ∃ r, frameTaken seat cell s
        = criterionMet .disorder r ∧ r.floor = s.floor ∧ r.keying = s.keying ∧ r.station = s.station
          ∧ r.ident = s.ident ∧ r.queue = s.queue
          ∧ r.watch = { s.watch with disorder := s.station.disorderLimit } ∧ (FloorLaw s → TurnYet s r h) := by
      obtain ⟨n, p, e⟩ := frameTaken_disorder hhead hs hnp hd hl hm hwr
      obtain ⟨h1, h2, h3, h4, h5, h6⟩ := disorderFull_frame (seat := seat) (cell := cell) (s := s) n p
      exact ⟨_, e, h1, h2, h3, h4, h5, h6, fun hlaw => disorderFull_yet n p hlaw hh⟩
    refine ⟨fun hst => ?_, fun hw hr => ?_, fun hw hr hlaw => ?_⟩
    · obtain ⟨r, e, hfl, hky, hsn, -, -, hwt, -⟩ := full (.inr (by simp [recording, hst]))
      have hcr' : r.station.criteria.has .disorder = true := by rw [hsn]; exact hcr
      have e' := e.trans (criterionMet_recording hcr' (by rw [hfl, hst]))
      obtain ⟨t, et, -, hf, hk, hw, hb, -⟩ := recorded_closed hp hc e' hfl hky hh hseat
      rw [hwt] at hw hb
      exact ⟨t, et, hf, hk, hw, hb⟩
    · obtain ⟨r, e, hfl, hky, hsn, hid, -, hwt, -⟩ := full (.inl hw)
      have hcr' : r.station.criteria.has .disorder = true := by rw [hsn]; exact hcr
      have hw' : watching r = true := by rw [watching_of hfl hky hid]; exact hw
      obtain ⟨t, et, -, -, hf, hk, h1, h2, h3, h4⟩ := stalled_closed hp hc e hcr' hw' hfl hsn hh hseat hr
      rw [hwt] at h3 h4
      exact ⟨t, et, hf, hk, h1, h2, h3, h4⟩
    · obtain ⟨r, e, hfl, hky, hsn, hid, hq, hwt, hy⟩ := full (.inl hw)
      have hcr' : r.station.criteria.has .disorder = true := by rw [hsn]; exact hcr
      have hw' : watching r = true := by rw [watching_of hfl hky hid]; exact hw
      obtain ⟨t, et, hend⟩ := linkEnded_closed hp hc e hcr' hw' (hy hlaw) hsn hr hq hid
      rw [hwt] at hend
      exact ⟨t, et, hend⟩

end Sys2Proof.Machine

/-! O33: WITHDRAW (R40, R43 to R45). -/

namespace Sys2Proof.Machine

/-! ### An entry and its place in the queue (R39, R40, R42) -/

section

variable {s w : State} {seat x : SeatNo} {front behind l : List Entry} {e : Entry}

theorem entriesBefore_split (hf : ∀ y ∈ front, y.seat ≠ seat) (he : e.seat = seat) :
    entriesBefore seat (front ++ e :: behind) = front := by
  induction front with
  | nil => simp [entriesBefore, he]
  | cons y rest ih =>
    have hy : y.seat ≠ seat := hf y List.mem_cons_self
    have ih' := ih fun z hz => hf z (List.mem_cons_of_mem _ hz)
    simpa [entriesBefore, hy] using ih'

theorem entriesBehind_split (hf : ∀ y ∈ front, y.seat ≠ seat) (he : e.seat = seat) :
    entriesBehind seat (front ++ e :: behind) = behind := by
  induction front with
  | nil => simp [entriesBehind, he]
  | cons y rest ih =>
    have hy : y.seat ≠ seat := hf y List.mem_cons_self
    have ih' := ih fun z hz => hf z (List.mem_cons_of_mem _ hz)
    simpa [entriesBehind, hy] using ih'

/-- R42: each of the entries is told its place. -/
theorem noticePositions_mem {p : Nat} (hn : (l.map Entry.seat).Nodup)
    (ha : ∀ y ∈ l, s.seats[y.seat].attachment.isSome = true) {i : Nat} (hi : i < l.length) :
    (⟨.queue (p + i), s.stamp⟩ : Notice) ∈ (noticePositions p l s).seats[l[i].seat].notices := by
  induction l generalizing p s i with
  | nil => simp at hi
  | cons y rest ih =>
    rw [List.map_cons, List.nodup_cons] at hn
    cases i with
    | zero =>
      have hs : Silent 2 y.seat (raise y.seat (.queue p) s)
          (noticePositions (p + 1) rest (raise y.seat (.queue p) s)) :=
        noticePositions_silent fun _ z hz h => hn.1 (h ▸ List.mem_map_of_mem hz)
      exact hs _ (raise_mem (.queue p) (ha y List.mem_cons_self)) rfl
    | succ i =>
      have ha' : ∀ z ∈ rest, (raise y.seat (.queue p) s).seats[z.seat].attachment.isSome = true := fun z hz => by
        rw [(raise_seatsKept y.seat (.queue p) s).attachment]
        exact ha z (List.mem_cons_of_mem _ hz)
      have h := ih (p := p + 1) hn.2 ha' (i := i) (by simpa using hi)
      rw [show p + 1 + i = p + (i + 1) by omega] at h
      have hst : (raise y.seat (.queue p) s).stamp = s.stamp := by simp
      rw [hst] at h
      exact h

/-- R40, R43: what the removal of a seat's entry leaves. -/
structure EntryGone (s w : State) (seat : SeatNo) (front behind : List Entry) : Prop where
  queue  : w.queue = front ++ behind
  off    : ∀ y ∈ w.queue, y.seat ≠ seat
  told   : (⟨.queue 0, s.stamp⟩ : Notice) ∈ w.seats[seat].notices
  moved  : ∀ i (hi : i < behind.length),
    (⟨.queue (front.length + 1 + i), s.stamp⟩ : Notice) ∈ w.seats[behind[i].seat].notices

theorem removeEntry_gone (hq : s.queue = front ++ e :: behind) (he : e.seat = seat)
    (hn : (s.queue.map Entry.seat).Nodup) (ha : ∀ y ∈ s.queue, s.seats[y.seat].attachment.isSome = true) :
    EntryGone s (removeEntry seat s) seat front behind := by
  rw [hq, List.map_append, List.map_cons, List.nodup_append, List.nodup_cons] at hn
  obtain ⟨hnf, ⟨heb, hnb⟩, hfb⟩ := hn
  have hf : ∀ y ∈ front, y.seat ≠ seat := fun y hy h =>
    hfb y.seat (List.mem_map_of_mem hy) e.seat List.mem_cons_self (h.trans he.symm)
  have hb : ∀ y ∈ behind, y.seat ≠ seat := fun y hy h =>
    heb (he.trans h.symm ▸ List.mem_map_of_mem hy)
  have hr : removeEntry seat s = noticePositions (front.length + 1) behind
      (raise seat (.queue 0) (s.withQueue (front ++ behind))) := by
    unfold removeEntry
    rw [hq, entriesBefore_split hf he, entriesBehind_split hf he]
  have hqr : (removeEntry seat s).queue = front ++ behind := by
    rw [hr]
    simp
  refine ⟨hqr, fun y hy => ?_, ?_, fun i hi => ?_⟩
  · rw [hqr] at hy
    rcases List.mem_append.1 hy with hy | hy
    · exact hf y hy
    · exact hb y hy
  · rw [hr]
    refine noticePositions_silent (fun _ => hb) _ (raise_mem (.queue 0) ?_) rfl
    subst he
    exact ha e (by simp [hq])
  · rw [hr]
    refine noticePositions_mem hnb (fun y hy => ?_) hi
    rw [(raise_seatsKept seat (.queue 0) _).attachment]
    exact ha y (by simp [hq, hy])

/-! ### A queue change as a serving point -/

theorem alike_placeAnswer (seat : SeatNo) (a : Answer) (u : State) : Alike (placeAnswer seat a u) u :=
  ⟨by simp, by simp, by simp, by simp, by simp, by simp, by simp, by simp, by simp,
    fun x => placeAnswer_notices seat x a u, by simp⟩

theorem queueChanged_away (h : w.floor.state ≠ .idle) (h' : w.floor.state ≠ .resting) : queueChanged w = w := by
  rw [queueChanged, if_neg (by simp [h, h'])]

/-- R44: while CONFIGURING or under TX_INHIBIT the queue's change leaves IDLE as it is. -/
theorem queueChanged_still (h : w.floor.state ≠ .idle ∨ w.pins.txInhibit = true ∨ w.mode = .configuring)
    (h' : w.floor.state ≠ .resting) : queueChanged w = w := by
  by_cases hi : w.floor.state = .idle
  · rw [queueChanged, if_pos (.inl hi), serve, if_pos, setFloorState_same hi]
    rcases h with h | h | h
    · exact absurd hi h
    · exact .inr h
    · exact .inl (by simp [h])
  · exact queueChanged_away hi h'

theorem queueChanged_serves (h : w.floor.state = .idle ∨ w.floor.state = .resting) :
    queueChanged w = serve w := if_pos h

/-- R43: the serving point at which an order has left the queue changed. -/
theorem servePoint_of_order {rest : List SeatNo}
    (ha : ∀ x : SeatNo, w.seats[x].attachment = (orderTaken seat rest s).seats[x].attachment)
    (hf : w.floor = s.floor) (hh : s.floor.holder = none) (hb : w.bus = s.bus) (hst : w.station = s.station)
    (hmo : w.mode = s.mode) (hp : w.pins = s.pins) (hk : w.keying = s.keying)
    (hi : w.ident.pending = s.ident.pending) (hsp : w.stamp = s.stamp) (hr : w.ram = s.ram)
    (hin : ∀ m, grantInputs w m = grantInputs s m) : ServePoint (orderTaken seat rest s) w where
  holder := by rw [hf, hh]
  work := by simp [hb]
  flight := by simp [hb]
  believed := by simp [hb]
  station := by simp [hst]
  mode := by simp [hmo]
  pins := by simp [hp]
  keying := by simp [hk]
  pending := by simp [hi]
  stamp := by simp [hsp]
  ram := by simp [hr]
  inputs m := by
    rw [hin m]
    simp [grantInputs, memberOf]
  attached := ha

theorem tuneFaults_orderTaken {rest : List SeatNo} {g : Grant} :
    TuneFaults (orderTaken seat rest s) g ↔ TuneFaults s g := Iff.rfl

/-- R45: a resting head that is still short of headroom waits on. -/
theorem serve_rests {fig : Figures} {n : Nat} {head : Entry} {more : List Entry} (hs : Serves w)
    (hq : w.queue = head :: more) (hr : w.floor.state = .resting)
    (hc : computeGrant (grantInputs w head.member) head.req = .short fig n) : serve w = w := by
  obtain ⟨hm, hi, hp⟩ := hs
  have he : serveEntries (head :: more) w = w := by
    rw [serveEntries, hc]
    exact setFloorState_same hr
  rw [serve, if_neg (by simp [hm, hi]), if_neg (by simp [hp]), hq, he]

theorem grantTaken_ofOrder {rest : List SeatNo} {t : State} {g : Grant}
    (h : GrantTaken (orderTaken seat rest s) t g) : GrantTaken s t g :=
  h.congr (by simp) (by simp) (by simp) (by simp) (by simp) (by simp) (by simp)

theorem holderNone_of_resting (hl : FloorLaw s) (h : s.floor.state = .resting) : s.floor.holder = none := by
  have hh := hl.holder_state
  rw [h] at hh
  simpa [FloorState.hasHolder] using hh

end

/-! ### WITHDRAW (R43) -/

section

variable {s : State} {seat : SeatNo} {rest : List SeatNo} {front behind : List Entry} {e : Entry}

/-- R43: the queue without the seat's entry, before the floor considers it. -/
abbrev withdrawn (seat : SeatNo) (rest : List SeatNo) (s : State) : State :=
  removeEntry seat (orderTaken seat rest s)

theorem withdraw_acts {d : State} {P : State → Prop} (h : OrderReady 12 seat rest s)
    (hq : queued s seat = true) (hd : queueChanged (withdrawn seat rest s) = d)
    (hP : P (closeAct s (finishSetup s (placeAnswer seat (answerWith s seat .done []) d)))) :
    Gives (exec .withdraw s) P := by
  have hq' : queued (orderTaken seat rest s) seat = true := by simpa [queued] using hq
  refine execOrder_acts (d := d) (reply := plain .done) h ?_ hP
  rw [doWithdraw, if_pos hq', hd]

theorem withdrawn_gone (hl : FloorLaw s) (hq : s.queue = front ++ e :: behind) (he : e.seat = seat) :
    EntryGone (orderTaken seat rest s) (withdrawn seat rest s) seat front behind :=
  removeEntry_gone (by simpa using hq) he (by simpa using hl.queue_seats) fun y hy => by
    have hy' : y ∈ s.queue := by simpa using hy
    exact attachment_isSome (m := y.member) (by rw [attachedMember_orderTaken]; exact hl.queue_attached y hy')

theorem grantInputs_removeEntry (seat : SeatNo) (s : State) (m : MemberNo) :
    grantInputs (removeEntry seat s) m = grantInputs s m := by
  simp [grantInputs, memberOf]

theorem withdrawn_servePoint (hl : FloorLaw s) (hr : s.floor.state = .resting) :
    ServePoint (orderTaken seat rest s) (withdrawn seat rest s) :=
  servePoint_of_order (removeEntry_moves ..).seatsKept.attachment (by simp) (holderNone_of_resting hl hr) (by simp) (by simp)
    (by simp) (by simp) (by simp) (by simp) (by simp) (by simp)
    fun m => by rw [grantInputs_removeEntry, grantInputs_orderTaken]

/-- R43: a withdrawal of which the floor makes nothing. -/
theorem withdraw_still (h : OrderReady 12 seat rest s) (hl : FloorLaw s) (hq : s.queue = front ++ e :: behind)
    (he : e.seat = seat) (hd : queueChanged (withdrawn seat rest s) = withdrawn seat rest s) :
    Gives (exec .withdraw s) fun t =>
      t.handovers = rest ∧ t.queue = front ++ behind ∧ t.floor = s.floor ∧ Noticed s t seat (.queue 0)
        ∧ (∀ i : Fin behind.length, Noticed s t behind[i].seat (.queue (front.length + 1 + i.val)))
        ∧ Answered s t seat (answerWith s seat .done []) := by
  have hg := withdrawn_gone (rest := rest) hl hq he
  have hqd : queued s seat = true := by simp [queued, hq, he]
  have hst : (orderTaken seat rest s).stamp = s.stamp := by simp
  have hfin : finishSetup s (placeAnswer seat (answerWith s seat .done []) (withdrawn seat rest s))
      = placeAnswer seat (answerWith s seat .done []) (withdrawn seat rest s) :=
    finishSetup_kept (by simp) (by simp)
  have told {x : SeatNo} {body : NoticeBody}
      (hn : (⟨body, (orderTaken seat rest s).stamp⟩ : Notice) ∈ (withdrawn seat rest s).seats[x].notices) :
      Noticed s (closeAct s (placeAnswer seat (answerWith s seat .done []) (withdrawn seat rest s))) x body := by
    rw [hst] at hn
    refine closeAct_noticed ?_ (by simp [partHeld])
    rw [placeAnswer_notices]
    exact hn
  have hans := order_answered (s := s) (d := withdrawn seat rest s) seat (answerWith s seat .done []) (by simp)
  refine withdraw_acts h hqd hd ?_
  rw [hfin] at hans ⊢
  exact ⟨by simp, by simp [hg.queue], by simp, told hg.told, fun i => told (hg.moved i.val i.isLt), hans⟩

/-- R43, R45: a withdrawal from under a resting floor. -/
theorem withdraw_serves {P : State → Prop} (h : OrderReady 12 seat rest s) (hl : FloorLaw s)
    (hq : s.queue = front ++ e :: behind) (he : e.seat = seat) (hr : s.floor.state = .resting)
    (hP : ∀ d, Alike d (serve (withdrawn seat rest s)) →
      Noticed s (closeAct s (finishSetup s d)) seat (.queue 0) →
      Answered s (closeAct s (finishSetup s d)) seat (answerWith s seat .done []) →
      P (closeAct s (finishSetup s d))) :
    Gives (exec .withdraw s) P := by
  have hg := withdrawn_gone (rest := rest) hl hq he
  have hqd : queued s seat = true := by simp [queued, hq, he]
  have hst : (orderTaken seat rest s).stamp = s.stamp := by simp
  have hsp : Spared 2 seat (withdrawn seat rest s) := ⟨by simp, by simp, fun _ =>
    ⟨by simp [holderNone_of_resting hl hr], hg.off⟩⟩
  have hoff : OffFloor seat (serve (withdrawn seat rest s)) :=
    (serve_moves (.inr (by simpa using hr))).keeps_offFloor (hsp.off (.inl rfl))
  refine withdraw_acts h hqd (queueChanged_serves (.inr (by simpa using hr))) (hP _ (alike_placeAnswer ..) ?_ ?_)
  · refine Spared.noticed (body := .queue 0) ⟨by simp [NoticeBody.kind], by simp [NoticeBody.kind], fun _ =>
      hoff.of_eq (by simp) (by simp)⟩ ?_ (by simp [partHeld])
    rw [placeAnswer_notices]
    have hn := hg.told
    rw [hst] at hn
    exact hsp.serve _ hn rfl
  · exact order_answered seat _ (by simp)

end

/-- Settles O33: the entry's removal, and the serving point of a floor at rest. -/
theorem withdrawRemovesTheEntry : Obligations.WithdrawRemovesTheEntry := by
  unfold Obligations.WithdrawRemovesTheEntry
  refine fun s seat rest front behind e h hl => ⟨fun hq => ?refused, fun hq he => ⟨fun hst hnr => ?still,
    fun hr hf hb hp => ?emptied, fun head more hr hfb hp hm hi => ?considered⟩⟩
  case refused =>
    refine execOrder_refused h ?_
    rw [doWithdraw, if_neg (by simpa [queued] using hq)]
  case still =>
    exact withdraw_still h hl hq he (queueChanged_still (by simpa using hst) (by simpa using hnr))
  case emptied =>
    refine withdraw_serves h hl hq he hr fun d hd hn ha => ?_
    have hg := withdrawn_gone (rest := rest) hl hq he
    obtain ⟨hf', hq'⟩ := servedIdle (w := withdrawn seat rest s)
      (.inr (.inr ⟨by simp [hg.queue, hf, hb], by simpa using hp⟩)) hd
    rw [finishSetup_notSetting (by simp [hf'])] at hn ha ⊢
    exact ⟨by simp [hq', hg.queue, hf, hb], by simp [hf'], hn, ha⟩
  case considered =>
    have hg := withdrawn_gone (rest := rest) hl hq he
    have hw := withdrawn_servePoint (seat := seat) (rest := rest) hl hr
    have hs : Serves (withdrawn seat rest s) := hw.serves (by simpa using hm) (by simpa using hi) (by simpa using hp)
    have hqw : (withdrawn seat rest s).queue = [] ++ head :: more := hg.queue.trans hfb
    refine ⟨fun fig hh hc => ?_, fun fig hh g hc ht => ?_⟩
    · have hs' : queueChanged (withdrawn seat rest s) = withdrawn seat rest s :=
        (queueChanged_serves (.inr (by simpa using hr))).trans
          (serve_rests hs hqw (by simpa using hr) (by
            rw [grantInputs_removeEntry, grantInputs_orderTaken]
            exact hc))
      obtain ⟨t, et, -, htq, htf, hn, hns, ha⟩ := withdraw_still h hl hq he hs'
      exact ⟨t, et, htq, htf, hn, hns, ha⟩
    · refine withdraw_serves h hl hq he hr fun d hd hn ha => ?_
      obtain ⟨hhold, -, -⟩ := servedHead (s := s) (fig := fig) (h := hh) (g := g) hw hs hqw (by simp) (by
        rw [grantInputs_orderTaken]
        exact hc) (by rwa [tuneFaults_orderTaken]) hd (by simp [hr])
      exact ⟨hhold.queue, grantTaken_ofOrder hhold.taken, hhold.holder, hhold.grant, hn, ha⟩

end Sys2Proof.Machine

/-! O30: REQUEST (R38, R39, R41, R42, R44, R45). -/

namespace Sys2Proof.Machine

/-! ### The checks of a REQUEST (R41) -/

/-- R41: a REQUEST that passes the checks on its seat, its body and its class. -/
structure Asks (s : State) (seat : SeatNo) (m : MemberNo) (q : Request) : Prop where
  serving  : s.mode = .serving
  attached : attachedMember s seat = some m
  notShut  : s.floor.state ≠ .shut
  body     : parseRequest s seat = some q
  flag     : bodyByte s seat 11 = 0 ∨ bodyByte s seat 11 = 1
  allowed  : bodyByte s seat 11 = 1 → (memberOf s m).priority = true

/-- R39, R41: the entry that a REQUEST would have. -/
abbrev askedEntry (s : State) (seat : SeatNo) (m : MemberNo) (q : Request) : Entry :=
  ⟨seat, m, q, bodyByte s seat 11 == 1⟩

section

variable {s w : State} {seat : SeatNo} {rest : List SeatNo} {m : MemberNo} {q : Request} {h : Holder}

theorem Asks.orderTaken (ha : Asks s seat m q) : Asks (orderTaken seat rest s) seat m q where
  serving := by simpa using ha.serving
  attached := by simpa using ha.attached
  notShut := by simpa using ha.notShut
  body := by simpa using ha.body
  flag := by simpa using ha.flag
  allowed := by simpa [memberOf] using ha.allowed

theorem flag_facts (hf : bodyByte s seat 11 = 0 ∨ bodyByte s seat 11 = 1) :
    ¬ 1 < (bodyByte s seat 11).toNat
      ∧ ((bodyByte s seat 11).toNat == 1) = (bodyByte s seat 11 == 1)
      ∧ ((bodyByte s seat 11).toNat = 1 → bodyByte s seat 11 = 1) := by
  rcases hf with e | e <;> rw [e] <;> decide

/-- R41: what becomes of it, by what the seat holds. -/
theorem doRequest_queued (ha : Asks s seat m q) (hq : queued s seat = true) :
    doRequest seat s = (s, plain .alreadyQueued) := by
  obtain ⟨h1, -, h3⟩ := flag_facts ha.flag
  have hp : ¬ ((bodyByte s seat 11).toNat = 1 ∧ (memberOf s m).priority = false) := fun ⟨h4, h5⟩ => by
    rw [ha.allowed (h3 h4)] at h5
    cases h5
  unfold doRequest
  rw [if_neg (by simp [ha.serving]), ha.attached]
  simp only [ha.notShut, if_false, ha.body]
  rw [if_neg h1, if_neg hp, if_pos hq]

theorem doRequest_free (ha : Asks s seat m q) (hq : queued s seat = false) (hh : holderSeat s ≠ some seat) :
    doRequest seat s = requestQueued (askedEntry s seat m q) s := by
  obtain ⟨h1, h2, h3⟩ := flag_facts ha.flag
  have hp : ¬ ((bodyByte s seat 11).toNat = 1 ∧ (memberOf s m).priority = false) := fun ⟨h4, h5⟩ => by
    rw [ha.allowed (h3 h4)] at h5
    cases h5
  unfold doRequest
  rw [if_neg (by simp [ha.serving]), ha.attached]
  simp only [ha.notShut, if_false, ha.body]
  rw [if_neg h1, if_neg hp, if_neg (by simp [hq]), h2]
  cases hx : s.floor.holder with
  | none => rfl
  | some x =>
    have hne : x.seat ≠ seat := by simpa [holderSeat, hx] using hh
    simp only [hne, if_false]

theorem doRequest_held (ha : Asks s seat m q) (hq : queued s seat = false) (hh : s.floor.holder = some h)
    (hs : h.seat = seat) : doRequest seat s
      = if s.floor.state = .hang then rekey h (askedEntry s seat m q) s else (s, plain .alreadyQueued) := by
  obtain ⟨h1, h2, h3⟩ := flag_facts ha.flag
  have hp : ¬ ((bodyByte s seat 11).toNat = 1 ∧ (memberOf s m).priority = false) := fun ⟨h4, h5⟩ => by
    rw [ha.allowed (h3 h4)] at h5
    cases h5
  unfold doRequest
  rw [if_neg (by simp [ha.serving]), ha.attached]
  simp only [ha.notShut, if_false, ha.body]
  rw [if_neg h1, if_neg hp, if_neg (by simp [hq]), h2, hh]
  simp only [hs, if_true]

end

/-! ### The place of an entry (R39, R42) -/

section

variable {e : Entry} {l : List Entry} {i j : Nat}

theorem getLast?_cons_any (h : Entry) (hl : l.getLast?.any Entry.priority = true) :
    (h :: l).getLast?.any Entry.priority = true := by
  cases l with
  | nil => simp at hl
  | cons x rest => simpa [List.getLast?_cons] using hl

/-- R39: a priority entry goes behind the last priority entry. -/
theorem insertPriority_place (e : Entry) (l : List Entry) : ∃ i, i ≤ l.length
    ∧ insertPriority e l = l.take i ++ e :: l.drop i ∧ (∀ x ∈ l.drop i, x.priority = false)
    ∧ (i = 0 ∨ (l.take i).getLast?.any Entry.priority = true) := by
  induction l with
  | nil => exact ⟨0, by simp, rfl, by simp, .inl rfl⟩
  | cons h rest ih =>
    obtain ⟨i, hi, hr, hd, hl⟩ := ih
    by_cases ha : (h :: rest).any Entry.priority = true
    · refine ⟨i + 1, by simpa using hi, ?_, by simpa using hd, .inr ?_⟩
      · rw [insertPriority, if_pos ha, hr]
        rfl
      · rw [List.take_succ_cons]
        rcases hl with rfl | hl
        · have hh : h.priority = true := by
            rw [List.any_cons, Bool.or_eq_true] at ha
            refine ha.resolve_right fun hx => ?_
            obtain ⟨y, hy, hyp⟩ := List.any_eq_true.1 hx
            rw [hd y (by simpa using hy)] at hyp
            cases hyp
          simpa using hh
        · exact getLast?_cons_any h hl
    · refine ⟨0, by simp, ?_, fun x hx => ?_, .inl rfl⟩
      · rw [insertPriority, if_neg ha]
        rfl
      · rw [List.any_eq_true] at ha
        exact Bool.eq_false_iff.2 fun hp => ha ⟨x, by simpa using hx, hp⟩

/-- R39: the entry's place is one. -/
theorem JoinsBehind.unique (hi : JoinsBehind e l i) (hj : JoinsBehind e l j) : i = j := by
  cases hp : e.priority with
  | false => rw [hi.normal hp, hj.normal hp]
  | true =>
    have key {a b : Nat} (ha : JoinsBehind e l a) (hb : JoinsBehind e l b) : ¬ a < b := fun hlt => by
      have hbl := (hb.priority hp).2.resolve_left (by omega)
      have hlen : (l.take b).length = b := by simp [hb.inside]
      have hne : l.take b ≠ [] := fun h0 => by simp [h0] at hlen; omega
      rw [List.getLast?_eq_some_getLast hne, Option.any_some, List.getLast_eq_getElem] at hbl
      have hmem : (l.take b)[(l.take b).length - 1]'(by omega) ∈ l.drop a := by
        rw [List.getElem_take, List.mem_drop_iff_getElem]
        exact ⟨b - 1 - a, by have := hb.inside; omega, by congr 1; omega⟩
      rw [(ha.priority hp).1 _ hmem] at hbl
      cases hbl
    have h1 := key hi hj
    have h2 := key hj hi
    omega

/-- R39: an entry joins the queue at its place. -/
theorem insertEntry_joins (e : Entry) (l : List Entry) :
    ∃ i, JoinsBehind e l i ∧ insertEntry false e l = l.take i ++ e :: l.drop i := by
  cases hp : e.priority with
  | false => exact ⟨l.length, ⟨le_rfl, fun _ => rfl, by simp [hp]⟩, by simp [insertEntry, hp]⟩
  | true =>
    obtain ⟨i, hi, hr, hd, hl⟩ := insertPriority_place e l
    refine ⟨i, ⟨hi, by simp [hp], fun _ => ⟨hd, hl⟩⟩, ?_⟩
    rw [insertEntry, if_pos hp]
    · exact hr
    · simp

theorem JoinsBehind.insertEntry (hi : JoinsBehind e l i) :
    Machine.insertEntry false e l = l.take i ++ e :: l.drop i := by
  obtain ⟨j, hj, hr⟩ := insertEntry_joins e l
  rw [hi.unique hj, hr]

/-- R39, R44: in RESTING it joins behind the head. -/
theorem insertEntry_fixed (e head : Entry) (l : List Entry) :
    insertEntry true e (head :: l) = head :: insertEntry false e l := by
  unfold insertEntry
  split <;> rfl

end

section

variable {s w d : State} {seat : SeatNo} {rest : List SeatNo} {m : MemberNo} {q : Request} {e : Entry} {i : Nat}
  {front behind : List Entry}

/-- R42: the position of an entry with so many before it. -/
theorem positionOf_eq (hq : w.queue = front ++ e :: behind) (hf : ∀ y ∈ front, y.seat ≠ e.seat) :
    positionOf w e.seat = front.length + 1 := by
  rw [positionOf, hq, entriesBefore_split hf rfl]

theorem grantInputs_joinQueue (e : Entry) (s : State) (m : MemberNo) :
    grantInputs (joinQueue e s) m = grantInputs s m := by
  simp [grantInputs, memberOf]

theorem requestQueued_ok {fig : Figures} (ha : admission (grantInputs s e.member) e.req = .ok fig) :
    requestQueued e s = (queueChanged (joinQueue e s),
      ⟨.done, [byteOf (positionOf (joinQueue e s) e.seat), 0]⟩) := by
  rw [requestQueued, ha]
  rfl

theorem requestQueued_error {r : Result} (ha : admission (grantInputs s e.member) e.req = .error r) :
    requestQueued e s = (s, plain r) := by
  rw [requestQueued, ha]

/-- R39, R42: the queue and the position behind a join, out of RESTING. -/
theorem joinQueue_behind (hr : s.floor.state ≠ .resting) (hq : ∀ y ∈ s.queue, y.seat ≠ e.seat)
    (hi : JoinsBehind e s.queue i) : (joinQueue e s).queue = s.queue.take i ++ e :: s.queue.drop i
      ∧ positionOf (joinQueue e s) e.seat = i + 1 := by
  have hq' : (joinQueue e s).queue = s.queue.take i ++ e :: s.queue.drop i := by
    rw [joinQueue_queue, show (s.floor.state == .resting) = false by simpa using hr, hi.insertEntry]
  refine ⟨hq', ?_⟩
  rw [positionOf_eq hq' fun y hy => hq y (List.mem_of_mem_take hy), List.length_take, min_eq_left hi.inside]

/-- R39, R42, R44: and in it. -/
theorem joinQueue_resting {head : Entry} {more : List Entry} (hr : s.floor.state = .resting)
    (hs : s.queue = head :: more) (hq : ∀ y ∈ s.queue, y.seat ≠ e.seat) (hi : JoinsBehind e more i) :
    (joinQueue e s).queue = head :: (more.take i ++ e :: more.drop i)
      ∧ positionOf (joinQueue e s) e.seat = i + 2 := by
  have hq' : (joinQueue e s).queue = head :: (more.take i ++ e :: more.drop i) := by
    rw [joinQueue_queue, show (s.floor.state == .resting) = true by simpa using hr, hs, insertEntry_fixed,
      hi.insertEntry]
  refine ⟨hq', ?_⟩
  have hq2 : (joinQueue e s).queue = (head :: more.take i) ++ e :: more.drop i := hq'
  rw [positionOf_eq hq2, List.length_cons, List.length_take, min_eq_left hi.inside]
  intro y hy
  refine hq y ?_
  rw [hs]
  rcases List.mem_cons.1 hy with rfl | hy
  · exact List.mem_cons_self
  · exact List.mem_cons_of_mem _ (List.mem_of_mem_take hy)

/-- R41, R42: a REQUEST that joins. -/
theorem request_acts {fig : Figures} {P : State → Prop} {pos : Nat} (h : OrderReady 11 seat rest s)
    (ha : Asks s seat m q) (hq : queued s seat = false) (hh : holderSeat s ≠ some seat)
    (had : admission (grantInputs s m) q = .ok fig)
    (hpos : positionOf (joinQueue (askedEntry s seat m q) (orderTaken seat rest s)) seat = pos)
    (hd : queueChanged (joinQueue (askedEntry s seat m q) (orderTaken seat rest s)) = d)
    (hP : P (closeAct s (finishSetup s (placeAnswer seat (answerWith s seat .done [byteOf pos, 0]) d)))) :
    Gives (exec .request s) P := by
  have hq' : queued (orderTaken seat rest s) seat = false := by simpa [queued] using hq
  have hh' : holderSeat (orderTaken seat rest s) ≠ some seat := by simpa [holderSeat] using hh
  refine execOrder_acts (d := d) (reply := ⟨.done, [byteOf pos, 0]⟩) h ?_ hP
  have he : askedEntry (orderTaken seat rest s) seat m q = askedEntry s seat m q := by simp [askedEntry]
  rw [doRequest_free ha.orderTaken hq' hh', he, requestQueued_ok (fig := fig) (by simpa using had), hd]
  rw [hpos]

/-- R45, R60: a head that is refused leaves the queue, and is told. -/
theorem servedRefused {head : Entry} {more : List Entry} {r : Result} {b : State} (hw : ServePoint b w)
    (hs : Serves w) (hq : w.queue = head :: more) (hn : (w.queue.map Entry.seat).Nodup)
    (ha : ∀ x ∈ w.queue, w.seats[x.seat].attachment.isSome = true)
    (hr : computeGrant (grantInputs b head.member) head.req = .refusal r) (hd : Alike d (serve w))
    (hfl : w.floor.state = .idle ∨ w.floor.state = .resting) (before : State) :
    Noticed b (closeAct before (finishSetup before d)) head.seat
        (.ended .refusedAtGrant (.refusal r) false head.member 0)
      ∧ ∀ x ∈ (closeAct before (finishSetup before d)).queue, x.seat ≠ head.seat := by
  have hr' : computeGrant (grantInputs w head.member) head.req = .refusal r := by rw [hw.inputs]; exact hr
  obtain ⟨u, hu, hgo, huq⟩ := serveEntries_refused (gone := [head]) (rest := more) (s := w) hq
    fun x hx => ⟨r, by rw [List.mem_singleton.1 hx]; exact hr'⟩
  have hsv : serve w = serveEntries more u := by
    rw [serve_queue w hs.mode hs.inhibit hs.pending, hq]
    exact hu
  have hoff : OffFloor head.seat u := by
    refine ⟨by simp [hgo.floor, hw.holder], fun y hy => ?_⟩
    rw [huq] at hy
    rw [hq, List.map_cons, List.nodup_cons] at hn
    exact fun he => hn.1 (he ▸ List.mem_map_of_mem hy)
  have hsp : Spared 4 head.seat u := ⟨by simp, by simp, fun _ => hoff⟩
  have hmv : Moves u (serveEntries more u) := serveEntries_moves huq (by rw [hgo.floor]; exact hfl)
  have hoffd : OffFloor head.seat d := (hmv.keeps_offFloor hoff).of_eq (by rw [hd.floor, hsv]) (by rw [hd.queue, hsv])
  have hm := hgo.told hn ha head (List.mem_singleton_self _) r hr'
  have hmd : (⟨.ended .refusedAtGrant (.refusal r) false head.member 0, w.stamp⟩ : Notice)
      ∈ d.seats[head.seat].notices := by
    have h1 := hsp.serveEntries huq _ hm rfl
    rw [← hsv] at h1
    exact hd.silent 4 head.seat _ h1 rfl
  refine ⟨noticed_congr (s := w) hw.stamp.symm hw.ram.symm ?_, ?_⟩
  · refine closeAct_noticed (Spared.finishSetup (k := 4) ⟨by simp, by simp, fun _ => hoffd⟩ _ hmd rfl) ?_
    have hram : d.ram = w.ram := by rw [hd.ram]; simp
    simp [partHeld, hram]
  · have := ((finishSetup_moves before d).keeps_offFloor hoffd).queue
    simpa using this

end

/-! ### O30 -/

section

variable {s d : State} {seat : SeatNo} {rest : List SeatNo} {m : MemberNo} {q : Request} {fig : Figures}

/-- R39, R42: a REQUEST of which the floor makes nothing. -/
theorem request_waits (h : OrderReady 11 seat rest s) (ha : Asks s seat m q) (hq : queued s seat = false)
    (hh : holderSeat s ≠ some seat) (had : admission (grantInputs s m) q = .ok fig)
    (hs : queueChanged (joinQueue (askedEntry s seat m q) (orderTaken seat rest s))
      = joinQueue (askedEntry s seat m q) (orderTaken seat rest s)) :
    Gives (exec .request s) fun t =>
      t.handovers = rest ∧ t.floor = s.floor ∧ t.ident.lastMode = s.ident.lastMode
        ∧ t.queue = (joinQueue (askedEntry s seat m q) (orderTaken seat rest s)).queue
        ∧ Answered s t seat (answerWith s seat .done
            [byteOf (positionOf (joinQueue (askedEntry s seat m q) (orderTaken seat rest s)) seat), 0]) := by
  refine request_acts h ha hq hh had rfl hs ?_
  generalize hp : positionOf (joinQueue (askedEntry s seat m q) (orderTaken seat rest s)) seat = pos
  have hans := order_answered (s := s) (d := joinQueue (askedEntry s seat m q) (orderTaken seat rest s)) seat
    (answerWith s seat .done [byteOf pos, 0]) (by simp)
  rw [finishSetup_kept (by simp) (by simp)] at hans ⊢
  exact ⟨by simp, by simp, by simp, by simp, hans⟩

theorem joinQueue_attachment (e : Entry) (s : State) (x : SeatNo) :
    (joinQueue e s).seats[x].attachment = s.seats[x].attachment :=
  (joinQueue_moves e s).seatsKept.attachment x

theorem servePoint_join (e : Entry) (hh : s.floor.holder = none) :
    ServePoint (orderTaken seat rest s) (joinQueue e (orderTaken seat rest s)) :=
  servePoint_of_order (joinQueue_attachment e _) (by simp) hh (by simp) (by simp) (by simp) (by simp) (by simp)
    (by simp) (by simp) (by simp) fun m => by rw [grantInputs_joinQueue, grantInputs_orderTaken]

/-- R165: a state in which an answer has been placed. -/
structure Answering (d u : State) : Prop extends Alike d u where
  ident     : d.ident = u.ident
  figures   : ∀ x : SeatNo, SameFigures x u d
  attached  : ∀ x : SeatNo, d.seats[x].attachment = u.seats[x].attachment
  handovers : d.handovers = u.handovers
  stamp     : d.stamp = u.stamp

theorem answering (seat : SeatNo) (a : Answer) (u : State) : Answering (placeAnswer seat a u) u where
  toAlike := alike_placeAnswer seat a u
  ident := by simp
  figures x := by
    unfold SameFigures
    rw [placeAnswer, modSeat_getElem]
    split
    · next hx => subst hx; exact ⟨rfl, rfl, rfl, rfl⟩
    · exact ⟨rfl, rfl, rfl, rfl⟩
  attached x := by
    rw [placeAnswer, modSeat_getElem]
    split
    · next hx => subst hx; rfl
    · rfl
  handovers := by simp
  stamp := by simp

/-- R44: a REQUEST of which the floor makes something. -/
theorem request_serves {P : State → Prop} {pos : Nat} (h : OrderReady 11 seat rest s) (ha : Asks s seat m q)
    (hq : queued s seat = false) (hh : holderSeat s ≠ some seat)
    (had : admission (grantInputs s m) q = .ok fig) (hf : s.floor.state = .idle ∨ s.floor.state = .resting)
    (hpos : positionOf (joinQueue (askedEntry s seat m q) (orderTaken seat rest s)) seat = pos)
    (hP : ∀ d, Answering d (serve (joinQueue (askedEntry s seat m q) (orderTaken seat rest s))) →
      Answered s (closeAct s (finishSetup s d)) seat (answerWith s seat .done [byteOf pos, 0]) →
      P (closeAct s (finishSetup s d))) : Gives (exec .request s) P :=
  request_acts h ha hq hh had hpos (queueChanged_serves (by simpa using hf))
    (hP _ (answering ..) (order_answered seat _ (by simp)))

/-- What the laws of the queue say of a queue that an entry has joined. -/
theorem joined_seats {s : State} {e : Entry} (hl : FloorLaw s) (ha : attachedMember s e.seat = some e.member)
    (hq : queued s e.seat = false) (seat : SeatNo) :
    ((joinQueue e (orderTaken seat rest s)).queue.map Entry.seat).Nodup
      ∧ ∀ x ∈ (joinQueue e (orderTaken seat rest s)).queue,
        (joinQueue e (orderTaken seat rest s)).seats[x.seat].attachment.isSome = true := by
  have hp : (joinQueue e (orderTaken seat rest s)).queue.Perm (e :: s.queue) := by
    rw [joinQueue_queue]
    simpa using insertEntry_perm _ e (orderTaken seat rest s).queue
  refine ⟨?_, fun x hx => ?_⟩
  · rw [(hp.map Entry.seat).nodup_iff, List.map_cons, List.nodup_cons]
    refine ⟨fun hm => ?_, hl.queue_seats⟩
    obtain ⟨y, hy, he⟩ := List.mem_map.1 hm
    exact not_queued_iff.1 hq y hy he
  · rw [joinQueue_attachment]
    have hx' := hp.mem_iff.1 hx
    refine attachment_isSome (m := x.member) ?_
    rw [attachedMember_orderTaken]
    rcases List.mem_cons.1 hx' with rfl | hx'
    · exact ha
    · exact hl.queue_attached x hx'

end

/-- Settles O30: the join and its place, out of RESTING and in it; and the refusals in turn. -/
theorem requestJoinsOrIsRefused : Obligations.RequestJoinsOrIsRefused := by
  unfold Obligations.RequestJoinsOrIsRefused
  refine ⟨?joins, ?rests, fun s seat rest h => ⟨fun hm => ?serving, fun hm ha => ?attached,
    fun m hm ha => ⟨fun hs => ?shut, fun hs => ⟨fun hb => ?body, fun q hb => ⟨fun hf hp => ?privilege, fun hf =>
      ⟨fun hq => ?queue, fun r hq hh had => ?admission⟩⟩⟩⟩⟩⟩
  case joins =>
    intro s seat rest m q fig e h hm ha hst hnr hns hb hf hp hq hh had he
    subst he
    have hask : Asks s seat m q := ⟨hm, ha, hns, hb, hf, hp⟩
    obtain ⟨i, hi, -⟩ := insertEntry_joins (askedEntry s seat m q) s.queue
    have hquiet := queueChanged_still (w := joinQueue (askedEntry s seat m q) (orderTaken seat rest s))
      (by simpa using hst.imp_right .inl) (by simpa using hnr)
    obtain ⟨hjq, hjp⟩ := joinQueue_behind (s := orderTaken seat rest s) (e := askedEntry s seat m q) (i := i)
      (by simpa using hnr) (by simpa using not_queued_iff.1 hq) (by simpa using hi)
    obtain ⟨t, et, hto, htf, htm, htq, hta⟩ := request_waits h hask hq hh had hquiet
    have hjp' : positionOf (joinQueue (askedEntry s seat m q) (orderTaken seat rest s)) seat = i + 1 := hjp
    have hoq : (orderTaken seat rest s).queue = s.queue := by simp
    rw [hjq, hoq] at htq
    rw [hjp'] at hta
    refine ⟨t, et, hto, htf, htm, fun hpr => ?_, fun hpr => ⟨⟨i, by have := hi.inside; omega⟩, ?_, ?_, ?_, hta⟩⟩
    · obtain rfl := hi.normal hpr
      rw [List.take_length, List.drop_length] at htq
      exact ⟨htq, hta⟩
    · exact htq
    · exact (hi.priority hpr).1
    · exact (hi.priority hpr).2
  case rests =>
    intro s seat rest m q fig e head more h hm hi hp ha hr hnh hqs hb hf hpr hq had he
    subst he
    have hask : Asks s seat m q := ⟨hm, ha, by simp [hr], hb, hf, hpr⟩
    have hh : holderSeat s ≠ some seat := by simp [holderSeat, hnh]
    obtain ⟨i, hj, -⟩ := insertEntry_joins (askedEntry s seat m q) more
    obtain ⟨hjq, hjp⟩ := joinQueue_resting (s := orderTaken seat rest s) (e := askedEntry s seat m q) (i := i)
      (head := head) (more := more) (by simpa using hr) (by simpa using hqs)
      (by simpa using not_queued_iff.1 hq) hj
    have hjp' : positionOf (joinQueue (askedEntry s seat m q) (orderTaken seat rest s)) seat = i + 2 := hjp
    have hw := servePoint_join (seat := seat) (rest := rest) (askedEntry s seat m q) hnh
    have hs : Serves (joinQueue (askedEntry s seat m q) (orderTaken seat rest s)) :=
      hw.serves (by simpa using hm) (by simpa using hi) (by simpa using hp)
    refine ⟨⟨i, by have := hj.inside; omega⟩, fun hn => hj.normal hn, fun hpri => hj.priority hpri,
      fun fig' n hc => ?_, fun fig' n g hc ht => ?_, fun r hc hl => ?_⟩
    · have hquiet : queueChanged (joinQueue (askedEntry s seat m q) (orderTaken seat rest s))
          = joinQueue (askedEntry s seat m q) (orderTaken seat rest s) :=
        (queueChanged_serves (.inr (by simpa using hr))).trans (serve_rests hs hjq (by simpa using hr) (by
          rw [grantInputs_joinQueue, grantInputs_orderTaken]
          exact hc))
      obtain ⟨t, et, hto, htf, -, htq, hta⟩ := request_waits h hask hq hh had hquiet
      rw [hjp'] at hta
      exact ⟨t, et, hto, htf, htq.trans hjq, hta⟩
    · refine request_serves h hask hq hh had (.inr hr) hjp' fun d hd hans => ?_
      obtain ⟨hhold, -, -⟩ := servedHead (s := s) (fig := fig') (h := n) (g := g) (gone := []) hw hs hjq (by simp)
        (by rw [grantInputs_orderTaken]; exact hc) (by rwa [tuneFaults_orderTaken]) hd.toAlike (by simp [hr])
      exact ⟨grantTaken_ofOrder hhold.taken, hhold.holder, hhold.grant, hhold.queue, hans⟩
    · refine request_serves h hask hq hh had (.inr hr) hjp' fun d hd hans => ?_
      obtain ⟨hnd, hat⟩ := joined_seats (rest := rest) (e := askedEntry s seat m q) hl ha hq seat
      obtain ⟨htold, hgone⟩ := servedRefused (r := r) hw hs hjq hnd hat
        (by rw [grantInputs_orderTaken]; exact hc) hd.toAlike (.inr (by simpa using hr)) s
      exact ⟨noticed_congr (by simp) (by simp) htold, hgone, hans⟩
  case serving =>
    refine execOrder_refused h ?_
    rw [doRequest, if_pos (by simp [hm])]
  case attached =>
    refine execOrder_refused h ?_
    have ha' : attachedMember (orderTaken seat rest s) seat = none := by simpa using ha
    rw [doRequest, if_neg (by simp [hm]), ha']
  all_goals
    have ha' : attachedMember (orderTaken seat rest s) seat = some m := by simpa using ha
    refine execOrder_refused h ?_
  case shut =>
    rw [doRequest, if_neg (by simp [hm]), ha']
    exact if_pos (by simpa using hs)
  all_goals
    have hs' : ¬ (orderTaken seat rest s).floor.state = .shut := by simpa using hs
  case body =>
    rw [doRequest, if_neg (by simp [hm]), ha']
    refine (if_neg hs').trans ?_
    have hp : parseRequest (orderTaken seat rest s) seat = parseRequest s seat := by simp
    rw [hp]
    cases hpr : parseRequest s seat with
    | none => rfl
    | some q =>
      exact if_pos (by simpa using hb.resolve_left (by simp [hpr]))
  all_goals
    have hb' : parseRequest (orderTaken seat rest s) seat = some q := by simpa using hb
  case privilege =>
    rw [doRequest, if_neg (by simp [hm]), ha']
    refine (if_neg hs').trans ?_
    rw [hb']
    refine (if_neg (by simp [hf])).trans (if_pos ⟨by simp [hf], ?_⟩)
    simpa [memberOf] using hp
  all_goals
    have hask : Asks (orderTaken seat rest s) seat m q :=
      Asks.orderTaken ⟨hm, ha, hs, hb, hf.imp_right And.left, fun h1 => by
        rcases hf with h0 | h0
        · rw [h0] at h1
          cases h1
        · exact h0.2⟩
  case queue =>
    by_cases hqd : queued s seat = true
    · exact doRequest_queued hask (by simpa [queued] using hqd)
    · obtain ⟨hh, hnh⟩ := hq.resolve_left hqd
      obtain ⟨x, hx, hxs⟩ := Option.map_eq_some_iff.1 hh
      rw [doRequest_held hask (h := x) (by simpa [queued] using hqd) (by simpa using hx) hxs,
        if_neg (by simpa using hnh)]
  case admission =>
    rw [doRequest_free hask (by simpa [queued] using hq) (by simpa [holderSeat] using hh),
      requestQueued_error (r := r) (by simpa using had)]

end Sys2Proof.Machine

/-! O31: a REQUEST that is served from IDLE (R44 to R46, R49, R70, R114, R136). -/

namespace Sys2Proof.Machine

section

variable {s w d t : State} {e : Entry} {g : Grant} {more : List Entry} {fig : Figures} {m : MemberNo} {q : Request}

/-- R34, R41: what the computation does not refuse is admitted. -/
theorem admission_of_grant {inp : GrantInputs} {h : Option Nat} (hc : computeGrant inp q = .grant fig h g) :
    ∃ f, admission inp q = .ok f := by
  unfold computeGrant at hc
  cases ha : admission inp q with
  | ok f => exact ⟨f, rfl⟩
  | error r => simp [ha] at hc

theorem admission_of_short {inp : GrantInputs} {h : Nat} (hc : computeGrant inp q = .short fig h) :
    ∃ f, admission inp q = .ok f := by
  unfold computeGrant at hc
  cases ha : admission inp q with
  | ok f => exact ⟨f, rfl⟩
  | error r => simp [ha] at hc

/-- R45, R46: the head that is granted becomes the holder. -/
theorem serve_head {h : Option Nat} (hs : Serves w) (hq : w.queue = e :: more)
    (hc : computeGrant (grantInputs w e.member) e.req = .grant fig h g) : serve w = makeHolder e g w := by
  rw [serve_queue w hs.mode hs.inhibit hs.pending, hq, serveEntries, hc]

/-- R40, R46, R98: what its seat is told and shown. -/
structure HolderTold (w t : State) (e : Entry) (g : Grant) : Prop where
  grant    : (⟨.grant 1 g, w.stamp⟩ : Notice) ∈ t.seats[e.seat].notices
  position : (⟨.queue 0, w.stamp⟩ : Notice) ∈ t.seats[e.seat].notices
  counters : t.seats[e.seat].counters = Counters.zero

theorem beginTurnFigures_seat (seat : SeatNo) (s : State) : (beginTurnFigures seat s).seats[seat]
    = { s.seats[seat] with
        counters := Counters.zero, saturated := false, criteria := Criteria.empty, warned := false } := by
  unfold beginTurnFigures
  simp only [withWatch_seats]
  rw [modSeat_getElem, if_pos rfl]

/-- R46, R98: the head has left the queue and the figures of its turn begin. -/
def seated (e : Entry) (g : Grant) (s : State) : State :=
  let s := removeEntry e.seat s
  let s := s.withFloor { s.floor with
    holder := some ⟨e.seat, e.member⟩, grant := some g, turnCount := 1, keyedMs := 0, keyDown := 0,
    timeWarned := false, setupPlaced := false }
  let s := beginTurnFigures e.seat s
  s.withIdent { s.ident with lastMode := some g.mode }

theorem makeHolder_eq (e : Entry) (g : Grant) (s : State) :
    makeHolder e g s = setFloorState .setting (raise e.seat (.grant 1 g) (seated e g s)) := rfl

theorem seated_seat (e : Entry) (g : Grant) (s : State) : (seated e g s).seats[e.seat]
    = { (removeEntry e.seat s).seats[e.seat] with
        counters := Counters.zero, saturated := false, criteria := Criteria.empty, warned := false } := by
  unfold seated
  generalize removeEntry e.seat s = v
  exact beginTurnFigures_seat e.seat (v.withFloor { v.floor with
    holder := some ⟨e.seat, e.member⟩, grant := some g, turnCount := 1, keyedMs := 0, keyDown := 0,
    timeWarned := false, setupPlaced := false })

theorem seated_stamp (e : Entry) (g : Grant) (s : State) : (seated e g s).stamp = s.stamp := by
  simp [seated]

theorem makeHolder_told (hq : w.queue = e :: more) (hn : (w.queue.map Entry.seat).Nodup)
    (ha : ∀ y ∈ w.queue, w.seats[y.seat].attachment.isSome = true) : HolderTold w (makeHolder e g w) e g := by
  have hgone := removeEntry_gone (s := w) (front := []) hq rfl hn ha
  have hat : (removeEntry e.seat w).seats[e.seat].attachment.isSome = true := by
    rw [(removeEntry_moves e.seat w).seatsKept.attachment]
    exact ha e (by simp [hq])
  have hxs := seated_seat e g w
  have hxst := seated_stamp e g w
  rw [makeHolder_eq]
  generalize seated e g w = x at hxs hxst
  have hxa : x.seats[e.seat].attachment.isSome = true := by rw [hxs]; exact hat
  have hset (k : Nat) (h1 : k ≠ 1) (h8 : k ≠ 8) : Silent k e.seat (raise e.seat (.grant 1 g) x)
      (setFloorState .setting (raise e.seat (.grant 1 g) x)) := setFloorState_silent .setting h1 h8
  refine ⟨?_, ?_, ?_⟩
  · have hm := raise_mem (.grant 1 g) hxa
    rw [hxst] at hm
    exact hset 3 (by decide) (by decide) _ hm rfl
  · have hm : (⟨.queue 0, w.stamp⟩ : Notice) ∈ x.seats[e.seat].notices := by
      rw [hxs]
      exact hgone.told
    have hr : Silent 2 e.seat x (raise e.seat (.grant 1 g) x) := raise_silent (.inr (by simp [NoticeBody.kind]))
    exact hset 2 (by decide) (by decide) _ (hr _ hm rfl) rfl
  · obtain ⟨h1, -⟩ := setFloorState_sameFigures (x := e.seat) (s := raise e.seat (.grant 1 g) x) .setting
    obtain ⟨h2, -⟩ := raise_sameFigures (x := e.seat) (s := x) e.seat (.grant 1 g)
    rw [h1, h2, hxs]

theorem HolderTold.after (h : HolderTold w d e g) (hn : ∀ x : SeatNo, t.seats[x].notices = d.seats[x].notices)
    (hc : t.seats[e.seat].counters = d.seats[e.seat].counters) : HolderTold w t e g :=
  ⟨by rw [hn]; exact h.grant, by rw [hn]; exact h.position, hc.trans h.counters⟩

/-! ### A setup that meets an amplifier fault (R136) -/

/-- R114, R136: the station is keyed, and unkeyed with its amplifier out of service. -/
def keyedOff (d : State) : State := ampOutOfService (unkey (assertPtt (onAirState d)))

/-- R136: the key request of a TUNE that meets a fault. -/
theorem keyRequest_faults (hm : d.mode = .serving) (hi : d.pins.txInhibit = false) (ha : d.pins.ampFault = true)
    (hb : d.bus.believed.amp = some .operate) (hk : d.keying.state = .unkeyed) :
    keyRequest (onAirState d) = endTurn .equipment (.equipment .ampFault) (keyedOff d) := by
  have hky : mayKey (onAirState d) = true :=
    mayKey_iff.2 ⟨by simpa using hk, .inl (by simp), by simpa using hm, by simpa using hi⟩
  have met : ampFaultHolds (assertPtt (onAirState d)) = true := by
    simp only [ampFaultHolds, Bool.and_eq_true, beq_iff_eq, bne_iff_ne, assertPtt_frame]
    exact ⟨⟨by simpa using ha, assertPtt_keyed _⟩, by simpa using hb⟩
  have hf : (assertPtt (onAirState d)).floor.state = .onAir := by simp
  rw [keyRequest, if_pos hky]
  simp only [met, if_true]
  rw [takeAmpFault_onAir hf]
  rfl

/-- R49, R114, R136: the state in which the fault that the key request of an empty setup meets ends the turn. -/
def faulted (d : State) : State := keyedOff (placeSetup [] d)

theorem setUp_faults {before : State} (he : emptySetup before d = true) (hg : d.floor.grant = some g)
    (ht : g.mode = .tune) (hm : d.mode = .serving) (hi : d.pins.txInhibit = false)
    (ha : d.pins.ampFault = true) (hb : d.bus.believed.amp = some .operate) (hk : d.keying.state = .unkeyed) :
    setUp d = endTurn .equipment (.equipment .ampFault) (faulted d) := by
  rw [setUp_empty he, setupComplete_onAir (g := g) (by simpa using hg) ht]
  exact keyRequest_faults (by simpa using hm) (by simpa using hi) (by simpa using ha) (by simpa using hb)
    (by simpa using hk)

theorem assertPtt_pending (s : State) : (assertPtt s).ident.pending = s.ident.pending := by
  unfold assertPtt openWindow
  simp only
  (repeat' split) <;> rfl

/-- R136: and how that state stands to the one before. -/
theorem faulted_frame (d : State) :
    (faulted d).floor = { d.floor with
        state := .onAir, setupPlaced := true, startWait := none, rejoin := none }
      ∧ (faulted d).queue = d.queue ∧ (faulted d).station = d.station ∧ (faulted d).stamp = d.stamp
      ∧ (faulted d).ram = d.ram ∧ (faulted d).bus.believed = d.bus.believed
      ∧ (faulted d).keying.ampInService = false ∧ (faulted d).ident.window = true
      ∧ (faulted d).ident.pending = d.ident.pending ∧ (faulted d).pins = d.pins
      ∧ ∀ x : SeatNo, (faulted d).seats[x].attachment = d.seats[x].attachment := by
  have ha : ∀ x : SeatNo, (onAirState (placeSetup [] d)).seats[x].attachment = d.seats[x].attachment := fun x => by
    have h1 := (setFloorState_seatsKept .onAir ((placeSetup [] d).withFloor
      { (placeSetup [] d).floor with startWait := none, rejoin := none })).attachment x
    rw [onAirState, h1]
    simp
  have hi : (faulted d).ident.window = (assertPtt (onAirState (placeSetup [] d))).ident.window
      ∧ (faulted d).ident.pending = (assertPtt (onAirState (placeSetup [] d))).ident.pending := by
    have e := unkey_identFields (assertPtt (onAirState (placeSetup [] d)))
    have e1 := congrArg Ident.window e
    have e2 := congrArg Ident.pending e
    exact ⟨e1, e2⟩
  refine ⟨by simp [faulted, keyedOff, ampOutOfService], by simp [faulted, keyedOff, ampOutOfService],
    by simp [faulted, keyedOff, ampOutOfService], by simp [faulted, keyedOff, ampOutOfService],
    by simp [faulted, keyedOff, ampOutOfService, onAirState],
    by simp [faulted, keyedOff, ampOutOfService, unkey_believed], rfl, hi.1.trans (by simp), hi.2.trans ?_,
    by simp [faulted, keyedOff, ampOutOfService], fun x => ?_⟩
  · rw [assertPtt_pending]
    simp
  · rw [← ha x]
    simp [faulted, keyedOff, ampOutOfService]

theorem endTurn_window (c : EndCause) (x : EndDetail) (s : State) :
    (endTurn c x s).ident.window = s.ident.window := by
  have h1 := congrArg Ident.window (serve_ident (setFloorState .idle (endTurnCore c x s)))
  have h2 := congrArg Ident.window (unkey_identFields s)
  have h3 : (endTurnCore c x s).ident = (unkey s).ident := by simp [endTurnCore]
  have h4 : (setFloorState .idle (endTurnCore c x s)).ident = (endTurnCore c x s).ident := by simp
  rw [h4, h3] at h1
  exact h1.trans h2

/-- R49, R136: with nobody waiting, the setup that meets the fault is the act's last. -/
theorem finishSetup_faults (he : emptySetup s d = true) (hg : d.floor.grant = some g)
    (ht : g.mode = .tune) (hm : d.mode = .serving) (hi : d.pins.txInhibit = false)
    (ha : d.pins.ampFault = true) (hb : d.bus.believed.amp = some .operate) (hk : d.keying.state = .unkeyed)
    (hq : d.queue = []) : finishSetup s d = endTurn .equipment (.equipment .ampFault) (faulted d) := by
  rw [finishSetup, hq, List.length_nil, finishSetups, if_pos he, finishSetups]
  exact setUp_faults he hg ht hm hi ha hb hk

/-- R60: the END notice of a turn whose seat nobody else waits for. -/
theorem endTurn_told {u : State} {h : Holder} (cause : EndCause) (detail : EndDetail)
    (hh : u.floor.holder = some h) (ha : u.seats[h.seat].attachment.isSome = true)
    (hq : ∀ y ∈ u.queue, y.seat ≠ h.seat) :
    (⟨.ended cause detail true h.member u.floor.keyedMs, u.stamp⟩ : Notice)
      ∈ (endTurn cause detail u).seats[h.seat].notices := by
  have hm := endTurnCore_mem cause detail hh ha
  have hsp : Spared 4 h.seat (endTurnCore cause detail u) := ⟨by simp, by simp, fun _ => .endTurnCore hq⟩
  exact hsp.enterIdle _ hm rfl

/-- R44, R46: the state in which the seat that asked has just become the holder. -/
structure SeatServed (s d : State) (e : Entry) (g : Grant) (rest : List SeatNo) : Prop where
  entered  : Entered s d g
  floor    : d.floor = { (Floor.begun s.floor e g) with state := .setting }
  queue    : d.queue = []
  lastMode : d.ident.lastMode = some g.mode
  told     : HolderTold s d e g
  attached : d.seats[e.seat].attachment.isSome = true
  pins     : d.pins = s.pins
  mode     : d.mode = s.mode
  bus      : d.bus.floorWork = s.bus.floorWork ∧ d.bus.inFlight = s.bus.inFlight
    ∧ d.bus.believed = s.bus.believed
  keying   : d.keying.state = s.keying.state
  station  : d.station = s.station
  pending  : d.ident.pending = s.ident.pending
  stamp    : d.stamp = s.stamp
  ram      : d.ram = s.ram
  taken    : d.handovers = rest

theorem makeHolder_pending (e : Entry) (g : Grant) (u : State) :
    (makeHolder e g u).ident.pending = u.ident.pending := by
  simp [makeHolder, beginTurnFigures]

theorem seatServed {rest : List SeatNo} {h : Option Nat} (hi : s.floor.state = .idle)
    (hq : s.queue = []) (ha : attachedMember s e.seat = some e.member)
    (hs : Serves (joinQueue e (orderTaken e.seat rest s)))
    (hc : computeGrant (grantInputs s e.member) e.req = .grant fig h g)
    (hd : Answering d (serve (joinQueue e (orderTaken e.seat rest s)))) : SeatServed s d e g rest := by
  have hjb : JoinsBehind e (orderTaken e.seat rest s).queue 0 :=
    ⟨by simp, fun _ => by simp [hq], fun _ => ⟨by simp [hq], .inl rfl⟩⟩
  obtain ⟨hjq, -⟩ := joinQueue_behind (s := orderTaken e.seat rest s) (e := e) (by simp [hi]) (by simp [hq]) hjb
  have hwq : (joinQueue e (orderTaken e.seat rest s)).queue = [e] := by rw [hjq]; simp [hq]
  have hsv : serve (joinQueue e (orderTaken e.seat rest s)) = makeHolder e g (joinQueue e (orderTaken e.seat rest s)) :=
    serve_head hs hwq (by rw [grantInputs_joinQueue, grantInputs_orderTaken]; exact hc)
  have hat : (joinQueue e (orderTaken e.seat rest s)).seats[e.seat].attachment.isSome = true := by
    rw [joinQueue_attachment]
    exact attachment_isSome (by rw [attachedMember_orderTaken]; exact ha)
  have htold := makeHolder_told (g := g) hwq (by simp [hwq]) (by simpa [hwq] using hat)
  have hmq := makeHolder_queue (g := g) hwq
  have hma : (makeHolder e g (joinQueue e (orderTaken e.seat rest s))).seats[e.seat].attachment.isSome = true := by
    rw [(makeHolder_moves g hwq (.inl (by simp [hi]))).seatsKept.attachment]
    exact hat
  have hmf := makeHolder_floor e g (joinQueue e (orderTaken e.seat rest s))
  have hwf : (joinQueue e (orderTaken e.seat rest s)).floor = s.floor := by simp
  have hwst : (joinQueue e (orderTaken e.seat rest s)).stamp = s.stamp := by simp
  rw [hsv] at hd
  rw [hwf] at hmf
  constructor
  case entered =>
    exact (makeHolder_entered (.inl (by simp [hi]))).of_floor hd.floor
  case floor => exact hd.floor.trans hmf
  case queue => exact hd.queue.trans hmq
  case lastMode => rw [hd.ident, makeHolder_lastMode]
  case told =>
    obtain ⟨h1, h2, h3⟩ := htold.after hd.notices (hd.figures e.seat).1
    rw [hwst] at h1 h2
    exact ⟨h1, h2, h3⟩
  case attached => rw [hd.attached]; exact hma
  case pins => rw [hd.pins]; simp
  case mode => rw [hd.mode]; simp
  case bus => exact ⟨by rw [hd.work]; simp, by rw [hd.flight]; simp, by rw [hd.believed]; simp⟩
  case keying => rw [hd.keying]; simp
  case station => rw [hd.station]; simp
  case pending => rw [hd.ident, makeHolder_pending]; simp
  case stamp => rw [hd.stamp]; simp
  case ram => rw [hd.ram]; simp
  case taken => rw [hd.handovers]; simp

/-- R49, R70: the seat holds the floor, and its grant has been taken. -/
theorem SeatServed.granted {rest : List SeatNo} (h : SeatServed s d e g rest) (ht : ¬ TuneFaults s g) :
    (closeAct s (finishSetup s d)).handovers = rest ∧ GrantTaken s (closeAct s (finishSetup s d)) g
      ∧ (closeAct s (finishSetup s d)).floor.holder = some ⟨e.seat, e.member⟩
      ∧ (closeAct s (finishSetup s d)).floor.grant = some g
      ∧ (closeAct s (finishSetup s d)).floor.turnCount = 1 ∧ (closeAct s (finishSetup s d)).floor.keyedMs = 0
      ∧ (closeAct s (finishSetup s d)).floor.keyDown = 0 ∧ (closeAct s (finishSetup s d)).queue = []
      ∧ (closeAct s (finishSetup s d)).ident.lastMode = some g.mode
      ∧ (closeAct s (finishSetup s d)).seats[e.seat].counters = Counters.zero
      ∧ Noticed s (closeAct s (finishSetup s d)) e.seat (.grant 1 g)
      ∧ Noticed s (closeAct s (finishSetup s d)) e.seat (.queue 0) := by
  obtain ⟨hw, hf, hb⟩ := h.bus
  have hta : Taken d (finishSetup s d) g := h.entered.taken fun hx => ht
    ⟨(AtSetting.congr hw hf hb h.station).1 hx.1, hx.2.1, by rw [← h.pins]; exact hx.2.2.1,
      by rw [← hb]; exact hx.2.2.2⟩
  have hgt : GrantTaken s (finishSetup s d) g :=
    hta.taken.congr hw.symm hf.symm hb.symm h.station.symm h.mode.symm (by rw [h.pins]) h.keying.symm
  have hp : partHeld (finishSetup s d) (.report e.seat) = partHeld s (.report e.seat) := by
    simp [partHeld, h.ram]
  have hcn := (closeAct_kept s (finishSetup s d) .figures e.seat).1
  refine ⟨by simp [h.taken], hgt.close s, ?_, ?_, ?_, ?_, ?_, ?_, ?_, ?_,
    closeAct_noticed (hta.silent 3 e.seat (by decide) (by decide) _ h.told.grant rfl) hp,
    closeAct_noticed (hta.silent 2 e.seat (by decide) (by decide) _ h.told.position rfl) hp⟩
  · simp [hta.holder, h.floor, Floor.begun]
  · simp [hta.grant, h.floor, Floor.begun]
  · simp [hta.count, h.floor, Floor.begun]
  · simp [hta.keyedMs, h.floor, Floor.begun]
  · simp [hta.keyDown, h.floor, Floor.begun]
  · simp [hta.queue, h.queue]
  · simp [hta.lastMode, h.lastMode]
  · rw [hcn, hta.counters, h.told.counters]

/-- R114, R136: the seat's TUNE meets the fault, and its turn is over. -/
theorem SeatServed.faults {rest : List SeatNo} (h : SeatServed s d e g rest) (ht : TuneFaults s g)
    (hm : s.mode = .serving) (hi : s.pins.txInhibit = false) (hp : s.ident.pending = false)
    (hk : s.keying.state = .unkeyed) :
    (closeAct s (finishSetup s d)).floor.state = .idle ∧ (closeAct s (finishSetup s d)).floor.holder = none
      ∧ (closeAct s (finishSetup s d)).floor.grant = none ∧ (closeAct s (finishSetup s d)).queue = []
      ∧ (closeAct s (finishSetup s d)).keying.state = .unkeyed
      ∧ (closeAct s (finishSetup s d)).keying.ampInService = false
      ∧ (closeAct s (finishSetup s d)).ident.window = true
      ∧ Noticed s (closeAct s (finishSetup s d)) e.seat (.ended .equipment (.equipment .ampFault) true e.member 0) := by
  obtain ⟨hw, hf, hb⟩ := h.bus
  obtain ⟨hat, htune, hamp, hop⟩ := ht
  have he : emptySetup s d = true := h.entered.emptySetup.2 ((AtSetting.congr hw hf hb h.station).2 hat)
  have hg : d.floor.grant = some g := h.entered.grant
  obtain ⟨hvf, hvq, -, hvst, hvr, -, hva, hvw, hvp, -, hvat⟩ := faulted_frame d
  have hfin : finishSetup s d = endTurn .equipment (.equipment .ampFault) (faulted d) :=
    finishSetup_faults he hg htune (h.mode.trans hm) (by rw [h.pins]; exact hi) (by rw [h.pins]; exact hamp)
      (by rw [hb]; exact hop) (h.keying.trans hk) h.queue
  have hidle := endTurn_idle (cause := .equipment) (detail := .equipment .ampFault) (hvq.trans h.queue)
    (hvp.trans (h.pending.trans hp))
  obtain ⟨hak, has, -, -⟩ := endTurn_amp .equipment (.equipment .ampFault) (faulted d)
  have hwin := endTurn_window .equipment (.equipment .ampFault) (faulted d)
  have htold := endTurn_told (u := faulted d) (h := ⟨e.seat, e.member⟩) .equipment (.equipment .ampFault)
    (by rw [hvf, h.floor]; rfl) (by rw [hvat]; exact h.attached) (by simp [hvq, h.queue])
  have hqe : (endTurn .equipment (.equipment .ampFault) (faulted d)).queue = [] :=
    (enterIdle_empty (s := endTurnCore .equipment (.equipment .ampFault) (faulted d))
      (by simp [hvq, h.queue]) (by simp [Floor.cleared])).1
  have hkm : (faulted d).floor.keyedMs = 0 := by
    rw [hvf, h.floor]
    rfl
  rw [hkm, hvst, h.stamp] at htold
  have hr : (endTurn .equipment (.equipment .ampFault) (faulted d)).ram = s.ram := by simp [hvr, h.ram]
  rw [hfin]
  generalize endTurn .equipment (.equipment .ampFault) (faulted d) = z at *
  refine ⟨by simp [hidle], by simp [hidle, Floor.cleared], by simp [hidle, Floor.cleared], by simp [hqe],
    by simp [hak], by simp [has, hva], by simp [hwin, hvw], closeAct_noticed htold (by simp [partHeld, hr])⟩

end

/-- Settles O31: the entry that joins the empty queue of IDLE is the head its serving point considers. -/
theorem requestIsServedFromIdle : Obligations.RequestIsServedFromIdle := by
  unfold Obligations.RequestIsServedFromIdle
  intro s seat rest m q h hm hi hp ha hf hh hqe hb hfl
  have hask : Asks s seat m q := ⟨hm, ha, by simp [hf], hb, hfl.imp_right And.left, fun h1 => by
    rcases hfl with h0 | h0
    · rw [h0] at h1
      cases h1
    · exact h0.2⟩
  have hq : queued s seat = false := by simp [queued, hqe]
  have hns : holderSeat s ≠ some seat := by simp [holderSeat, hh]
  have hs : Serves (joinQueue (askedEntry s seat m q) (orderTaken seat rest s)) :=
    (servePoint_join (seat := seat) (rest := rest) (askedEntry s seat m q) hh).serves (by simpa using hm)
      (by simpa using hi) (by simpa using hp)
  obtain ⟨hjq, hjp⟩ := joinQueue_behind (s := orderTaken seat rest s) (e := askedEntry s seat m q) (i := 0)
    (by simp [hf]) (by simp [hqe]) ⟨by simp, fun _ => by simp [hqe], fun _ => ⟨by simp [hqe], .inl rfl⟩⟩
  have serves {P : State → Prop} {f : Figures} (had : admission (grantInputs s m) q = .ok f)
      (hP : ∀ d, Answering d (serve (joinQueue (askedEntry s seat m q) (orderTaken seat rest s))) →
        Answered s (closeAct s (finishSetup s d)) seat (answerWith s seat .done [1, 0]) →
        P (closeAct s (finishSetup s d))) : Gives (exec .request s) P :=
    request_serves h hask hq hns had (.inl hf) (pos := 1) hjp hP
  refine ⟨fun fig n g hc ht => ?_, fun fig n g hc ht hk => ?_, fun fig n hc => ?_⟩
  · obtain ⟨f, had⟩ := admission_of_grant hc
    refine serves had fun d hd hans => ?_
    obtain ⟨h1, h2, h3, h4, h5, h6, h7, h8, h9, h10, h11, h12⟩ :=
      (seatServed (e := askedEntry s seat m q) hf hqe ha hs hc hd).granted ht
    exact ⟨h1, h2, h3, h4, h5, h6, h7, h8, h9, h10, h11, h12, hans⟩
  · obtain ⟨f, had⟩ := admission_of_grant hc
    refine serves had fun d hd hans => ?_
    obtain ⟨h1, h2, h3, h4, h5, h6, h7, h8⟩ :=
      (seatServed (e := askedEntry s seat m q) hf hqe ha hs hc hd).faults ht hm hi hp hk
    exact ⟨h1, h2, h3, h4, h5, h6, h7, h8, hans⟩
  · obtain ⟨f, had⟩ := admission_of_short hc
    refine serves had fun d hd hans => ?_
    have hwq : (joinQueue (askedEntry s seat m q) (orderTaken seat rest s)).queue
        = [] ++ askedEntry s seat m q :: [] := by rw [hjq]; simp [hqe]
    obtain ⟨hdf, hdq⟩ := servedShort (servePoint_join (seat := seat) (rest := rest) (askedEntry s seat m q) hh) hs
      hwq (by simp) (by rw [grantInputs_orderTaken]; exact hc) hd.toAlike
    rw [finishSetup_notSetting (by simp [hdf])] at hans ⊢
    exact ⟨by simp [hdf], by simp [hdf, hh], by simp [hdq], hans⟩

end Sys2Proof.Machine

/-! O32: a REQUEST from the holder in HANG (R57). -/

namespace Sys2Proof.Machine

/-- R57: a re-key that passes the checks on its seat, its body and its class. -/
structure Rekeys (s : State) (seat : SeatNo) (rest : List SeatNo) (h : Holder) (old : Grant) (q : Request) :
    Prop where
  ready  : OrderReady 11 seat rest s
  asks   : Asks s seat h.member q
  hang   : s.floor.state = .hang
  holder : s.floor.holder = some h
  own    : h.seat = seat
  grant  : s.floor.grant = some old
  free   : queued s seat = false

/-- R57: the new grant leaves the station at its setting. -/
abbrev SameSetting (old g : Grant) : Prop := g.freq = old.freq ∧ g.mode = old.mode ∧ g.power = old.power

/-- R57, R113: the new grant is in force, and its seat told. -/
def rekeyed (seat : SeatNo) (g : Grant) (s : State) : State :=
  let count := min 255 (s.floor.turnCount + 1)
  let s := s.withFloor { s.floor with
    grant := some g, turnCount := count, hang := none, keyDown := 0, timeWarned := false,
    setupPlaced := false }
  let s := s.withIdent { s.ident with lastMode := some g.mode }
  raise seat (.grant count g) s

/-- R42: a join tells of places in the queue alone. -/
theorem joinQueue_silent {k : Nat} {x : SeatNo} {e : Entry} {s : State} (h : k ≠ 2) :
    Silent k x s (joinQueue e s) := by
  unfold joinQueue
  exact (noticePositions_silent fun hk => absurd hk h).after rfl

/-- R46: a head that becomes the holder is told of its grant and its place alone. -/
theorem makeHolder_silent {k : Nat} {x : SeatNo} {e : Entry} {g : Grant} {s : State} (h1 : k ≠ 1) (h2 : k ≠ 2)
    (h3 : k ≠ 3) (h8 : k ≠ 8) : Silent k x s (makeHolder e g s) := by
  unfold makeHolder
  refine .trans (.trans ?_ (raise_silent (.inr (by simpa [NoticeBody.kind] using h3)))) (setFloorState_silent _ h1 h8)
  have hr : Silent k x s (removeEntry e.seat s) := removeEntry_silent fun hk => absurd hk h2
  exact ((hr.trans (.of_seats rfl)).trans (modSeat_silent e.seat figuresOnly_begin)).trans (.of_seats rfl)

section

variable {s u d : State} {seat : SeatNo} {rest : List SeatNo} {h : Holder} {old g : Grant} {q : Request} {e : Entry}

theorem sameSetting_iff : sameSetting (some old) g = true ↔ SameSetting old g := by
  simp only [sameSetting, Bool.and_eq_true, beq_iff_eq, SameSetting]
  exact ⟨fun ⟨⟨h1, h2⟩, h3⟩ => ⟨h1.symm, h2.symm, h3.symm⟩, fun ⟨h1, h2, h3⟩ => ⟨⟨h1.symm, h2.symm⟩, h3.symm⟩⟩

theorem rekeyGranted_same (ho : s.floor.grant = some old) (hs : SameSetting old g) :
    rekeyGranted seat g s = setupComplete (rekeyed seat g s) := by
  have hb := sameSetting_iff.2 hs
  rw [← ho] at hb
  exact if_pos hb

theorem rekeyGranted_other (ho : s.floor.grant = some old) (hs : ¬ SameSetting old g) :
    rekeyGranted seat g s = setFloorState .setting (rekeyed seat g s) := by
  have hb : ¬ sameSetting s.floor.grant g = true := by rw [ho]; exact mt sameSetting_iff.1 hs
  exact if_neg hb

theorem rekeyed_floor (seat : SeatNo) (g : Grant) (s : State) : (rekeyed seat g s).floor = { s.floor with
    grant := some g, turnCount := min 255 (s.floor.turnCount + 1), hang := none, keyDown := 0,
    timeWarned := false, setupPlaced := false } := by
  simp [rekeyed]

theorem rekeyed_frame (seat : SeatNo) (g : Grant) (s : State) : (rekeyed seat g s).queue = s.queue
    ∧ (rekeyed seat g s).bus = s.bus ∧ (rekeyed seat g s).station = s.station
    ∧ (rekeyed seat g s).mode = s.mode ∧ (rekeyed seat g s).pins = s.pins
    ∧ (rekeyed seat g s).keying = s.keying ∧ (rekeyed seat g s).ram = s.ram
    ∧ (rekeyed seat g s).stamp = s.stamp ∧ (rekeyed seat g s).ident.pending = s.ident.pending := by
  simp [rekeyed]

theorem rekeyed_told (ha : s.seats[seat].attachment.isSome = true) :
    (⟨.grant (min 255 (s.floor.turnCount + 1)) g, s.stamp⟩ : Notice) ∈ (rekeyed seat g s).seats[seat].notices := by
  unfold rekeyed
  simp only
  generalize hv : (s.withFloor { s.floor with
    grant := some g, turnCount := min 255 (s.floor.turnCount + 1), hang := none, keyDown := 0, timeWarned := false,
    setupPlaced := false }).withIdent _ = v
  have hvs : v.stamp = s.stamp := by rw [← hv]; simp
  have hva : v.seats = s.seats := by rw [← hv]; simp
  have hm := raise_mem (s := v) (.grant (min 255 (s.floor.turnCount + 1)) g) (by rw [hva]; exact ha)
  rwa [hvs] at hm

theorem rekeyed_attachment (x : SeatNo) : (rekeyed seat g s).seats[x].attachment = s.seats[x].attachment := by
  unfold rekeyed
  exact (raise_seatsKept seat _ _).attachment x

/-! ### What a re-key comes to -/

theorem rekey_refused {r : Result} (hq : s.queue = [] ∨ s.floor.turnCount < s.station.turnLimit)
    (hc : computeGrant (grantInputs s h.member) e.req = .refusal r) : rekey h e s = (s, plain r) := by
  have hq' : s.queue.isEmpty = true ∨ s.floor.turnCount < s.station.turnLimit := by simpa using hq
  rw [rekey, if_pos hq', hc]

theorem rekey_granted {fig : Figures} {n : Option Nat}
    (hq : s.queue = [] ∨ s.floor.turnCount < s.station.turnLimit)
    (hc : computeGrant (grantInputs s h.member) e.req = .grant fig n g) :
    rekey h e s = (rekeyGranted h.seat g s, ⟨.done, [0, 1]⟩) := by
  have hq' : s.queue.isEmpty = true ∨ s.floor.turnCount < s.station.turnLimit := by simpa using hq
  rw [rekey, if_pos hq', hc]
  rfl

theorem rekey_short {fig : Figures} {n : Nat} (hq : s.queue = [] ∨ s.floor.turnCount < s.station.turnLimit)
    (hc : computeGrant (grantInputs s h.member) e.req = .short fig n) :
    rekey h e s = endHangWith (joinWith e) s := by
  have hq' : s.queue.isEmpty = true ∨ s.floor.turnCount < s.station.turnLimit := by simpa using hq
  rw [rekey, if_pos hq', hc]

theorem rekey_limit (hq : s.queue ≠ []) (hl : s.station.turnLimit ≤ s.floor.turnCount) :
    rekey h e s = endHangWith (judgeAndJoin e) s := by
  rw [rekey, if_neg]
  simp [hq]
  omega

theorem Rekeys.does (hr : Rekeys s seat rest h old q) :
    doRequest seat (orderTaken seat rest s) = rekey h (askedEntry s seat h.member q) (orderTaken seat rest s) := by
  have he : askedEntry (orderTaken seat rest s) seat h.member q = askedEntry s seat h.member q := by simp [askedEntry]
  rw [doRequest_held hr.asks.orderTaken (h := h) (by simpa [queued] using hr.free) (by simpa using hr.holder)
    hr.own, if_pos (by simpa using hr.hang), he]

theorem Rekeys.attached (hr : Rekeys s seat rest h old q) : s.seats[h.seat].attachment.isSome = true := by
  exact attachment_isSome (m := h.member) (by rw [hr.own]; exact hr.asks.attached)

theorem Rekeys.alone (hr : Rekeys s seat rest h old q) : ∀ y ∈ s.queue, y.seat ≠ h.seat := by
  rw [hr.own]
  exact not_queued_iff.1 hr.free

/-- R57: a re-key whose new grant is given. -/
theorem Rekeys.grants {fig : Figures} {n : Option Nat} {P : State → Prop} (hr : Rekeys s seat rest h old q)
    (hq : s.queue = [] ∨ s.floor.turnCount < s.station.turnLimit)
    (hc : computeGrant (grantInputs s h.member) q = .grant fig n g)
    (hd : rekeyGranted seat g (orderTaken seat rest s) = d) (hm : d.ram = s.ram)
    (hP : Answered s (closeAct s (finishSetup s (placeAnswer seat (answerWith s seat .done [0, 1]) d))) seat
        (answerWith s seat .done [0, 1]) →
      P (closeAct s (finishSetup s (placeAnswer seat (answerWith s seat .done [0, 1]) d)))) :
    Gives (exec .request s) P := by
  refine execOrder_acts (d := d) (reply := ⟨.done, [0, 1]⟩) hr.ready ?_ (hP (order_answered seat _ hm))
  rw [hr.does, rekey_granted (g := g) (fig := fig) (n := n) (by simpa using hq)
    (by rw [grantInputs_orderTaken]; exact hc), hr.own, hd]

/-- R57: the holder stays under the new grant, and its seat is told. -/
structure Regranted (s t : State) (seat : SeatNo) (h : Holder) (g : Grant) : Prop where
  holder  : t.floor.holder = some h
  grant   : t.floor.grant = some g
  count   : t.floor.turnCount = min 255 (s.floor.turnCount + 1)
  keyedMs : t.floor.keyedMs = s.floor.keyedMs
  keyDown : t.floor.keyDown = 0
  hang    : t.floor.hang = none
  warned  : t.floor.timeWarned = false
  queue   : t.queue = s.queue
  told    : Noticed s t seat (.grant (min 255 (s.floor.turnCount + 1)) g)

/-- R57: what the new grant leaves of a state goes on behind the state that the floor enters. -/
theorem Rekeys.regranted {t : State} (hr : Rekeys s seat rest h old q)
    (hh : t.floor.holder = (rekeyed seat g (orderTaken seat rest s)).floor.holder)
    (hg : t.floor.grant = (rekeyed seat g (orderTaken seat rest s)).floor.grant)
    (hc : t.floor.turnCount = (rekeyed seat g (orderTaken seat rest s)).floor.turnCount)
    (hm : t.floor.keyedMs = (rekeyed seat g (orderTaken seat rest s)).floor.keyedMs)
    (hk : t.floor.keyDown = (rekeyed seat g (orderTaken seat rest s)).floor.keyDown)
    (hx : t.floor.hang = (rekeyed seat g (orderTaken seat rest s)).floor.hang)
    (hw : t.floor.timeWarned = (rekeyed seat g (orderTaken seat rest s)).floor.timeWarned)
    (hq : t.queue = s.queue) (hn : Silent 3 seat (rekeyed seat g (orderTaken seat rest s)) t) (hram : t.ram = s.ram)
    (before : State) : Regranted s (closeAct before t) seat h g := by
  have hv := rekeyed_floor seat g (orderTaken seat rest s)
  have hm0 := rekeyed_told (seat := seat) (g := g) (s := orderTaken seat rest s) 
    (attachment_isSome (m := h.member) (by rw [attachedMember_orderTaken]; exact hr.asks.attached))
  have ho : (orderTaken seat rest s).floor = s.floor := by simp
  have hst : (orderTaken seat rest s).stamp = s.stamp := by simp
  rw [ho] at hv
  rw [ho, hst] at hm0
  have hmt := hn _ hm0 rfl
  rw [hv] at hh hg hc hm hk hx hw
  exact ⟨by simp [hh, hr.holder], by simp [hg], by simp [hc], by simp [hm], by simp [hk], by simp [hx],
    by simp [hw], by simp [hq], closeAct_noticed hmt (by simp [partHeld, hram])⟩

/-- R57: to the station's own setting; the floor enters GRANTED. -/
theorem Rekeys.granted {fig : Figures} {n : Option Nat} (hr : Rekeys s seat rest h old q)
    (hq : s.queue = [] ∨ s.floor.turnCount < s.station.turnLimit)
    (hc : computeGrant (grantInputs s h.member) q = .grant fig n g) (hs : SameSetting old g) (ht : g.mode ≠ .tune) :
    Gives (exec .request s) fun t => Regranted s t seat h g
      ∧ (t.floor.state = .granted ∧ t.floor.startWait = some (s.station.startWait * 1000)
        ∧ t.playout.frames = [] ∧ t.playout.np = none)
      ∧ Answered s t seat (answerWith s seat .done [0, 1]) := by
  have hv : rekeyGranted seat g (orderTaken seat rest s) = enterGranted (rekeyed seat g (orderTaken seat rest s)) := by
    rw [rekeyGranted_same (by simpa using hr.grant) hs, setupComplete_granted (g := g) (by simp [rekeyed_floor]) ht]
  obtain ⟨hvq, -, hvs, -, -, -, hvr, -, -⟩ := rekeyed_frame seat g (orderTaken seat rest s)
  refine hr.grants hq hc hv (by simp [hvr]) fun hans => ?_
  obtain ⟨hfr, hnp⟩ := enterGranted_playout (s := rekeyed seat g (orderTaken seat rest s))
    (by simp [rekeyed_floor, hr.hang])
  rw [finishSetup_notSetting (by simp [enterGranted_floor])] at hans ⊢
  refine ⟨hr.regranted (by simp [enterGranted_floor]) (by simp [enterGranted_floor]) (by simp [enterGranted_floor])
    (by simp [enterGranted_floor]) (by simp [enterGranted_floor]) (by simp [enterGranted_floor])
    (by simp [enterGranted_floor]) (by simp [hvq]) ?_ (by simp [hvr]) s, ⟨?_, ?_, ?_, ?_⟩, hans⟩
  · exact (enterGranted_silent (by decide) (by decide)).trans fun n hn _ => by rwa [placeAnswer_notices]
  · simp [enterGranted_floor]
  · simp [enterGranted_floor, hvs]
  · simp [hfr]
  · simp [hnp]

/-- R57: to another setting; the floor enters SETTING. -/
theorem Rekeys.sets {fig : Figures} {n : Option Nat} (hr : Rekeys s seat rest h old q)
    (hq : s.queue = [] ∨ s.floor.turnCount < s.station.turnLimit)
    (hc : computeGrant (grantInputs s h.member) q = .grant fig n g) (hs : ¬ SameSetting old g)
    (ht : ¬ TuneFaults s g) :
    Gives (exec .request s) fun t => Regranted s t seat h g ∧ GrantTaken s t g
      ∧ Answered s t seat (answerWith s seat .done [0, 1]) := by
  have hv := rekeyGranted_other (seat := seat) (s := orderTaken seat rest s) (by simpa using hr.grant) hs
  obtain ⟨hvq, hvb, hvs, hvm, hvp, hvk, hvr, -, -⟩ := rekeyed_frame seat g (orderTaken seat rest s)
  refine hr.grants hq hc hv (by simp [hvr]) fun hans => ?_
  generalize hd : placeAnswer seat (answerWith s seat .done [0, 1])
    (setFloorState .setting (rekeyed seat g (orderTaken seat rest s))) = d at hans ⊢
  have hen : Entered s d g := by
    subst hd
    exact ⟨by simp, by simp [rekeyed_floor], by simp [rekeyed_floor], .inl (by simp [hr.hang])⟩
  have hbus : d.bus = s.bus := by subst hd; simp [hvb]
  have hst : d.station = s.station := by subst hd; simp [hvs]
  have hpins : d.pins = s.pins := by subst hd; simp [hvp]
  have hf : d.floor = { (rekeyed seat g (orderTaken seat rest s)).floor with state := .setting } := by
    subst hd
    simp
  have hta : Taken d (finishSetup s d) g := hen.taken fun hx => ht
    ⟨(AtSetting.congr (by rw [hbus]) (by rw [hbus]) (by rw [hbus]) hst).1 hx.1, hx.2.1,
      by rw [← hpins]; exact hx.2.2.1, by rw [← hbus]; exact hx.2.2.2⟩
  refine ⟨hr.regranted (by rw [hta.holder, hf]) (by rw [hta.grant, hf]) (by rw [hta.count, hf])
    (by rw [hta.keyedMs, hf]) (by rw [hta.keyDown, hf]) (by rw [hta.hang, hf]) (by rw [hta.warned, hf])
    (by rw [hta.queue]; subst hd; simp [hvq]) ?_ (by subst hd; simp [hvr]) s, ?_, hans⟩
  · refine Silent.trans ?_ (hta.silent 3 seat (by decide) (by decide))
    subst hd
    exact (setFloorState_silent .setting (by decide) (by decide)).trans fun n hn _ => by rwa [placeAnswer_notices]
  · exact (hta.taken.congr (by rw [hbus]) (by rw [hbus]) (by rw [hbus]) hst.symm
      (by subst hd; simp [hvm]) (by rw [hpins]) (by subst hd; simp [hvk])).close s

/-- R57: a TUNE to the station's own setting is asked to key. -/
theorem Rekeys.keys {fig : Figures} {n : Option Nat} (hr : Rekeys s seat rest h old q)
    (hq : s.queue = [] ∨ s.floor.turnCount < s.station.turnLimit)
    (hc : computeGrant (grantInputs s h.member) q = .grant fig n g) (hs : SameSetting old g) (ht : g.mode = .tune)
    (hi : s.pins.txInhibit = false) (ha : s.pins.ampFault = false) (hk : s.keying.state = .unkeyed)
    (hl : s.station.lead ≠ 0) :
    Gives (exec .request s) fun t => Regranted s t seat h g ∧ t.floor.state = .onAir
      ∧ t.keying.state = .leading ∧ t.keying.lead = some s.station.lead
      ∧ Answered s t seat (answerWith s seat .done [0, 1]) := by
  obtain ⟨hvq, hvb, hvs, hvm, hvp, hvk, hvr, -, -⟩ := rekeyed_frame seat g (orderTaken seat rest s)
  have hv : rekeyGranted seat g (orderTaken seat rest s)
      = assertPtt (onAirState (rekeyed seat g (orderTaken seat rest s))) := by
    rw [rekeyGranted_same (by simpa using hr.grant) hs, setupComplete_onAir (g := g) (by simp [rekeyed_floor]) ht]
    exact onAir_leads (by simp [hvm, hr.asks.serving]) (by simp [hvp, hi]) (by simp [NoAmpFault, hvp, ha])
      (by simp [hvk, hk]) (by simpa [hvs] using hl)
  refine hr.grants hq hc hv (by simp [onAirState, hvr]) fun hans => ?_
  have hkf := assertPtt_leads (s := onAirState (rekeyed seat g (orderTaken seat rest s))) (by simpa [hvs] using hl)
  rw [finishSetup_notSetting (by simp)] at hans ⊢
  refine ⟨hr.regranted (by simp) (by simp) (by simp) (by simp) (by simp) (by simp) (by simp) (by simp [hvq]) ?_
    (by simp [onAirState, hvr]) s, by simp, by simp [hkf], by simp [hkf, hvs], hans⟩
  have hp : Silent 3 seat (onAirState (rekeyed seat g (orderTaken seat rest s)))
      (assertPtt (onAirState (rekeyed seat g (orderTaken seat rest s)))) := .of_seats (by simp)
  exact ((onAirState_silent (by decide) (by decide)).trans hp).trans fun n hn _ => by rwa [placeAnswer_notices]

/-! ### A TUNE that meets an amplifier fault (R136) -/

/-- R136: the turn is still the holder's, up to the fault. -/
theorem TurnYet.keyedOff (hy : TurnYet s u h) : TurnYet s (keyedOff u) h where
  holder := by simpa [Machine.keyedOff, ampOutOfService] using hy.holder
  keyedMs := by simpa [Machine.keyedOff, ampOutOfService] using hy.keyedMs
  attached := by
    have h1 := (setFloorState_seatsKept .onAir (u.withFloor
      { u.floor with startWait := none, rejoin := none })).attachment h.seat
    have h2 : (Machine.keyedOff u).seats[h.seat].attachment = (onAirState u).seats[h.seat].attachment := by
      simp [Machine.keyedOff, ampOutOfService]
    rw [h2, onAirState, h1]
    exact hy.attached
  alone := by simpa [Machine.keyedOff, ampOutOfService] using hy.alone
  present := by simpa [Machine.keyedOff, ampOutOfService] using hy.present
  amp := by simpa [Machine.keyedOff, ampOutOfService, unkey_believed] using hy.amp
  stamp := by simpa [Machine.keyedOff, ampOutOfService] using hy.stamp
  held := by simpa [Machine.keyedOff, ampOutOfService, onAirState, partHeld] using hy.held

theorem faultStands_keyedOff (ha : u.pins.ampFault = true) (hb : u.bus.believed.amp = some .operate) :
    FaultStands (endTurn .equipment (.equipment .ampFault) (keyedOff u)) :=
  .endTurn rfl (by simpa [keyedOff, ampOutOfService] using ha)
    (by simpa [keyedOff, ampOutOfService, unkey_believed] using hb)

/-- What holds of a state with an empty setup holds behind each such completion that keeps it. -/
theorem finishSetups_empty {P : State → Prop} {before : State} (keep : ∀ t, emptySetup before t = true → P t → P (setUp t))
    (n : Nat) (hs : P s) : P (finishSetups before n s) := by
  induction n generalizing s with
  | zero => exact hs
  | succ n ih =>
    unfold finishSetups
    split
    · next he => exact ih (keep s he hs)
    · exact hs

/-- R59 to R61: a turn that has ended stays so as the floor goes on through empty setups. -/
theorem TurnTold.setUp {before : State} {c : EndCause} {x : EndDetail} (ht : TurnTold s d h c x)
    (he : emptySetup before d = true) : TurnTold s (setUp d) h c x where
  done := ⟨(ht.done.gone.setUp he).1, (setUp_moves d).keeps_offFloor ht.done.off,
    fun hc hc' hp ha => (ht.done.gone.setUp he).2 (ht.done.standby hc hc' hp ha)⟩
  notice := Spared.setUp (k := 4) ⟨by simp, by simp, fun _ => ht.done.off⟩ he _ ht.notice rfl
  held := by simpa [partHeld] using ht.held

theorem TurnTold.atClose {c : EndCause} {x : EndDetail} (ht : TurnTold s d h c x) (before : State) :
    TurnEnded s (closeAct before d) h c x :=
  { ht.done.closed before with notice := closeAct_noticed ht.notice ht.held }

/-- R136: the turn that a standing fault has ended. -/
structure FaultEnded (s d : State) (h : Holder) : Prop where
  told   : TurnTold s d h .equipment (.equipment .ampFault)
  stands : FaultStands d

theorem TurnYet.faultEnded (hy : TurnYet s u h) (ha : u.pins.ampFault = true)
    (hb : u.bus.believed.amp = some .operate) :
    FaultEnded s (endTurn .equipment (.equipment .ampFault) (Machine.keyedOff u)) h :=
  ⟨hy.keyedOff.told _ _, faultStands_keyedOff ha hb⟩

theorem FaultEnded.setUps (hf : FaultEnded s d h) (before : State) (n : Nat) :
    FaultEnded s (finishSetups before n d) h :=
  finishSetups_empty (P := fun t => FaultEnded s t h) (fun _ he ht => ⟨ht.told.setUp he, ht.stands.setUp he⟩) n hf

theorem FaultEnded.finishSetup (hf : FaultEnded s d h) (before : State) :
    FaultEnded s (finishSetup before d) h := hf.setUps before (d.queue.length + 1)

theorem FaultEnded.close (hf : FaultEnded s d h) (before : State) :
    TurnEnded s (closeAct before d) h .equipment (.equipment .ampFault)
      ∧ (closeAct before d).keying.ampInService = false :=
  ⟨hf.told.atClose before, by simpa using hf.stands.out⟩

theorem FaultEnded.placeAnswer (hf : FaultEnded s d h) (x : SeatNo) (a : Answer) :
    FaultEnded s (placeAnswer x a d) h :=
  ⟨hf.told.placeAnswer x a, hf.stands.of_eq (by simp) (by simp) (by simp) (by simp)⟩

theorem Rekeys.turnYet (hr : Rekeys s seat rest h old q) : TurnYet s (rekeyed seat g (orderTaken seat rest s)) h := by
  obtain ⟨hvq, hvb, hvs, -, -, -, hvr, hvst, -⟩ := rekeyed_frame seat g (orderTaken seat rest s)
  refine ⟨by simp [rekeyed_floor, hr.holder], by simp [rekeyed_floor], ?_, by simpa [hvq] using hr.alone,
    by simp [hvs], by simp [hvb], by simp [hvst], by simp [partHeld, hvr]⟩
  rw [rekeyed_attachment]
  exact attachment_isSome (m := h.member) (by rw [attachedMember_orderTaken, hr.own]; exact hr.asks.attached)

theorem TurnYet.of_eq {v : State} (hy : TurnYet s u h) (hf : v.floor.holder = u.floor.holder)
    (hm : v.floor.keyedMs = u.floor.keyedMs)
    (ha : v.seats[h.seat].attachment = u.seats[h.seat].attachment) (hq : v.queue = u.queue)
    (hs : v.station = u.station) (hb : v.bus.believed = u.bus.believed) (hst : v.stamp = u.stamp)
    (hr : v.ram = u.ram) : TurnYet s v h :=
  ⟨hf.trans hy.holder, hm.trans hy.keyedMs, by rw [ha]; exact hy.attached, by rw [hq]; exact hy.alone,
    by rw [hs]; exact hy.present, by rw [hb]; exact hy.amp, hst.trans hy.stamp,
    by simpa [partHeld, hr] using hy.held⟩

/-- R57, R136: a TUNE asked to key with the fault standing. -/
theorem Rekeys.faults {fig : Figures} {n : Option Nat} (hr : Rekeys s seat rest h old q)
    (hq : s.queue = [] ∨ s.floor.turnCount < s.station.turnLimit)
    (hc : computeGrant (grantInputs s h.member) q = .grant fig n g) (hs : SameSetting old g ∨ AtSetting s g)
    (ht : g.mode = .tune) (ha : s.pins.ampFault = true) (hb : s.bus.believed.amp = some .operate)
    (hi : s.pins.txInhibit = false) (hk : s.keying.state = .unkeyed) :
    Gives (exec .request s) fun t => TurnEnded s t h .equipment (.equipment .ampFault)
      ∧ t.keying.ampInService = false ∧ Answered s t seat (answerWith s seat .done [0, 1]) := by
  obtain ⟨hvq, hvb, hvs, hvm, hvp, hvk, hvr, hvst, -⟩ := rekeyed_frame seat g (orderTaken seat rest s)
  have hvf := rekeyed_floor seat g (orderTaken seat rest s)
  have hva := fun x => rekeyed_attachment (seat := seat) (g := g) (s := orderTaken seat rest s) x
  have hy := hr.turnYet (g := g)
  by_cases hsame : SameSetting old g
  · have hd : rekeyGranted seat g (orderTaken seat rest s)
        = endTurn .equipment (.equipment .ampFault) (keyedOff (rekeyed seat g (orderTaken seat rest s))) := by
      rw [rekeyGranted_same (by simpa using hr.grant) hsame, setupComplete_onAir (g := g) (by simp [hvf]) ht]
      exact keyRequest_faults (by simp [hvm, hr.asks.serving]) (by simp [hvp, hi]) (by simp [hvp, ha])
        (by simp [hvb, hb]) (by simp [hvk, hk])
    refine hr.grants hq hc hd (by simp [keyedOff, ampOutOfService, onAirState, hvr]) fun hans => ?_
    have hfe := (hy.faultEnded (by simp [hvp, ha]) (by simp [hvb, hb])).placeAnswer seat
      (answerWith s seat .done [0, 1])
    obtain ⟨h1, h2⟩ := (hfe.finishSetup s).close s
    exact ⟨h1, h2, hans⟩
  · have hat := hs.resolve_left hsame
    have hd := rekeyGranted_other (seat := seat) (s := orderTaken seat rest s) (by simpa using hr.grant) hsame
    refine hr.grants hq hc hd (by simp [hvr]) fun hans => ?_
    generalize hdd : placeAnswer seat (answerWith s seat .done [0, 1])
      (setFloorState .setting (rekeyed seat g (orderTaken seat rest s))) = d at hans ⊢
    have hen : Entered s d g := by
      subst hdd
      exact ⟨by simp, by simp [hvf], by simp [hvf], .inl (by simp [hr.hang])⟩
    have hbus : d.bus = s.bus := by subst hdd; simp [hvb]
    have hpins : d.pins = s.pins := by subst hdd; simp [hvp]
    have hyd : TurnYet s (placeSetup [] d) h := by
      refine hy.of_eq ?_ ?_ ?_ ?_ ?_ ?_ ?_ ?_
      case refine_3 =>
        subst hdd
        have h1 := (answering seat (answerWith s seat .done [0, 1])
          (setFloorState .setting (rekeyed seat g (orderTaken seat rest s)))).attached h.seat
        have h2 := (setFloorState_seatsKept .setting (rekeyed seat g (orderTaken seat rest s))).attachment h.seat
        simpa using h1.trans h2
      all_goals
        subst hdd
        simp
    have he : emptySetup s d = true := hen.emptySetup.2 ((AtSetting.congr (by rw [hbus]) (by rw [hbus])
      (by rw [hbus]) (by subst hdd; simp [hvs])).2 hat)
    have hup : setUp d = endTurn .equipment (.equipment .ampFault) (keyedOff (placeSetup [] d)) :=
      setUp_faults he hen.grant ht (by subst hdd; simp [hvm, hr.asks.serving]) (by simp [hpins, hi])
        (by simp [hpins, ha]) (by simp [hbus, hb]) (by subst hdd; simp [hvk, hk])
    have hfin : finishSetup s d = finishSetups s d.queue.length (setUp d) := by
      rw [finishSetup, finishSetups, if_pos he]
    have hfe := (hyd.faultEnded (by simp [hpins, ha]) (by simp [hbus, hb])).setUps s d.queue.length
    rw [← hup, ← hfin] at hfe
    obtain ⟨h1, h2⟩ := hfe.close s
    exact ⟨h1, h2, hans⟩

/-! ### The hang ends RELEASED (R57) -/

/-- R59: the hang is over. -/
abbrev hangOver (seat : SeatNo) (rest : List SeatNo) (s : State) : State :=
  endTurnCore .released .none (orderTaken seat rest s)

theorem grantInputs_hangOver (m : MemberNo) : grantInputs (hangOver seat rest s) m = grantInputs s m := by
  have ha : (endTurnCore .released .none (orderTaken seat rest s)).keying.ampInService = s.keying.ampInService := by
    simp [endTurnCore]
  simp [grantInputs, memberOf, hangOver, ha]

/-- R44, R57: the floor at the serving point behind the hang, with what the request has left in the queue. -/
structure HangEnded (s w : State) (seat : SeatNo) (h : Holder) : Prop where
  serves   : Serves w
  floor    : w.floor = { s.floor.cleared with state := .idle }
  believed : w.bus.believed = s.bus.believed
  pins     : w.pins = s.pins
  ram      : w.ram = s.ram
  inputs   : ∀ m, grantInputs w m = grantInputs s m
  station  : w.station = s.station
  told     : (⟨.ended .released .none true h.member s.floor.keyedMs, s.stamp⟩ : Notice) ∈ w.seats[seat].notices

theorem Rekeys.hangEnded {y : State} (hr : Rekeys s seat rest h old q) (hi : s.pins.txInhibit = false)
    (hp : s.ident.pending = false) (hy : y = hangOver seat rest s ∨ y = joinQueue e (hangOver seat rest s)) :
    HangEnded s (setFloorState .idle y) seat h := by
  obtain rfl := hr.own
  have hm := endTurnCore_mem (u := orderTaken h.seat rest s) (h := h) .released .none (by simpa using hr.holder)
    (attachment_isSome (m := h.member) (by rw [attachedMember_orderTaken]; exact hr.asks.attached))
  have hkm : (orderTaken h.seat rest s).floor.keyedMs = s.floor.keyedMs := by simp
  have hst : (orderTaken h.seat rest s).stamp = s.stamp := by simp
  rw [hkm, hst, ← hangOver] at hm
  have hpen : (hangOver h.seat rest s).ident.pending = s.ident.pending := by
    simpa [hangOver, endTurnCore] using unkey_pending (orderTaken h.seat rest s)
  have hbel : (hangOver h.seat rest s).bus.believed = s.bus.believed := by
    rw [hangOver, endTurnCore_bus, closeSetup_believed, unkey_believed]
    simp
  have hin := fun m => grantInputs_hangOver (s := s) (seat := h.seat) (rest := rest) m
  have hfl : (hangOver h.seat rest s).floor = s.floor.cleared := by simp [hangOver]
  have hfr : (hangOver h.seat rest s).mode = s.mode ∧ (hangOver h.seat rest s).pins = s.pins
      ∧ (hangOver h.seat rest s).ram = s.ram ∧ (hangOver h.seat rest s).station = s.station := by simp [hangOver]
  generalize hangOver h.seat rest s = z at *
  have hyz : y.floor = z.floor ∧ y.ident = z.ident ∧ y.bus = z.bus ∧ y.mode = z.mode ∧ y.pins = z.pins ∧ y.ram = z.ram
      ∧ y.station = z.station ∧ (∀ m, grantInputs y m = grantInputs z m) ∧ Silent 4 h.seat z y := by
    rcases hy with rfl | rfl
    · exact ⟨rfl, rfl, rfl, rfl, rfl, rfl, rfl, fun _ => rfl, .refl _⟩
    · exact ⟨by simp, by simp, by simp, by simp, by simp, by simp, by simp, grantInputs_joinQueue e z,
        joinQueue_silent (by decide)⟩
  obtain ⟨h1, h2, h3, h4, h5, h6, h12, h7, h8⟩ := hyz
  obtain ⟨h9, h10, h11, h13⟩ := hfr
  refine ⟨⟨by simpa [h4, h9] using hr.asks.serving, by simpa [h5, h10] using hi, by simpa [h2, hpen] using hp⟩,
    by simp [h1, hfl], by simp [h3, hbel], by simp [h5, h10], by simp [h6, h11], fun m => ?_, by simp [h12, h13], ?_⟩
  · have hs : grantInputs (setFloorState .idle y) m = grantInputs y m := by simp [grantInputs, memberOf]
    rw [hs, h7, hin]
  · exact setFloorState_silent (k := 4) .idle (by decide) (by decide) _ (h8 _ hm rfl) rfl

/-- R48, R49: the grant that a next turn has taken, told with the station as that turn leaves it. -/
theorem GrantTaken.own {b t : State} (ht : GrantTaken b t g) (hw : t.bus.floorWork = b.bus.floorWork)
    (hi : t.bus.inFlight = b.bus.inFlight) (hb : t.bus.believed = b.bus.believed) (hs : t.station = b.station)
    (hm : t.mode = b.mode) (hp : t.pins = b.pins) : GrantTaken t t g := by
  have hat := AtSetting.congr (g := g) hw hi hb hs
  refine ⟨fun h1 => ht.setting (mt hat.2 h1), fun h1 h2 => ?_, fun h1 h2 => ?_⟩
  · rw [hs]
    exact ht.granted (hat.1 h1) h2
  · obtain ⟨h3, h4, h5⟩ := ht.onAir (hat.1 h1) h2
    refine ⟨h3, h4, fun h6 h7 => ?_⟩
    obtain ⟨h8, -⟩ := h5 (hm ▸ h6) (hp ▸ h7)
    exact ⟨h8, fun h9 => absurd h9 h8⟩

/-- R29: a TUNE's grant leaves the amplifier out. -/
theorem tune_barefoot {inp : GrantInputs} {fig : Figures} {n : Option Nat} (hc : computeGrant inp q = .grant fig n g)
    (ht : g.mode = .tune) : g.ampUsed = false := by
  obtain ⟨ha, -, rfl, -⟩ := computeGrant_grant hc
  obtain ⟨a, b, run, slot, carrier, -, -, -, -, hf⟩ := admission_ok ha
  have ht' : q.mode = .tune := ht
  simp [hf, grantAmp, ampUsable, ht']

/-- R29, R57: a TUNE whose setup is empty does not find an amplifier in OPERATE where there is one. -/
theorem HangEnded.noFault {w : State} {inp : GrantInputs} {req : Request} {fig : Figures} {n : Option Nat}
    (hw : HangEnded s w seat h) (hc : computeGrant inp req = .grant fig n g)
    (hg : g.mode ≠ .tune ∨ s.pins.ampFault = false ∨ s.bus.believed.amp ≠ some .operate
      ∨ s.station.ampPresent = true) : ¬ TuneFaults w g := by
  rintro ⟨⟨-, -, hs, -⟩, ht, ha, hb⟩
  rcases hg with hg | hg | hg | hg
  · exact hg ht
  · rw [hw.pins, hg] at ha
    cases ha
  · rw [hw.believed] at hb
    exact hg hb
  · have hx := hs (by rw [hw.station]; exact hg) (tune_barefoot hc ht)
    rw [hb] at hx
    cases hx

/-- R44 to R46, R57: the head becomes the holder. -/
theorem HangEnded.holds {w : State} {head : Entry} {more : List Entry} {fig : Figures} {n : Option Nat} {a : Answer}
    (hw : HangEnded s w seat h) (hst : s.floor.state = .hang) (hq : w.queue = head :: more)
    (hc : computeGrant (grantInputs s head.member) head.req = .grant fig n g)
    (hg : g.mode ≠ .tune ∨ s.pins.ampFault = false ∨ s.bus.believed.amp ≠ some .operate
      ∨ s.station.ampPresent = true) (hd : placeAnswer seat a (serve w) = d) :
    GrantTaken (closeAct s (finishSetup s d)) (closeAct s (finishSetup s d)) g
      ∧ (closeAct s (finishSetup s d)).floor.holder = some ⟨head.seat, head.member⟩
      ∧ (closeAct s (finishSetup s d)).floor.grant = some g ∧ (closeAct s (finishSetup s d)).queue = more
      ∧ Noticed s (closeAct s (finishSetup s d)) seat (.ended .released .none true h.member s.floor.keyedMs) := by
  have hal : Alike d (serve w) := by
    subst hd
    exact alike_placeAnswer seat a (serve w)
  have hsp : ServePoint w w := .refl (by simp [hw.floor, Floor.cleared])
  obtain ⟨hhold, hta, -⟩ := servedHead (s := s) (fig := fig) (h := n) (g := g) (gone := []) hsp hw.serves hq
    (by simp) (by rw [hw.inputs]; exact hc) (hw.noFault hc hg) hal (by simp [hst])
  have hsv := serve_head hw.serves hq (by rw [hw.inputs]; exact hc)
  obtain ⟨hi, hf, -⟩ := closeAct_work s (finishSetup s d)
  have hbus : d.bus.floorWork = w.bus.floorWork ∧ d.bus.inFlight = w.bus.inFlight
      ∧ d.bus.believed = w.bus.believed := by
    rw [hal.work, hal.flight, hal.believed, hsv]
    simp
  have hram : d.ram = s.ram := by rw [hal.ram]; simp [hw.ram]
  refine ⟨hhold.taken.own (by rw [hf, hta.bus, hbus.1]) (by rw [hi, hta.bus, hbus.2.1])
    (by rw [closeAct_believed, hta.bus, hbus.2.2]) (by simp [hal.station]) (by simp [hal.mode]) (by simp [hal.pins]),
    hhold.holder, hhold.grant, hhold.queue, ?_⟩
  have hm := makeHolder_silent (k := 4) (e := head) (g := g) (by decide) (by decide) (by decide) (by decide) _ hw.told rfl
  rw [← hsv] at hm
  exact closeAct_noticed (hta.silent 4 seat (by decide) (by decide) _ (hal.silent 4 seat _ hm rfl) rfl)
    (by simp [partHeld, hram])

/-- R45, R57: the floor rests with its head short of headroom. -/
theorem HangEnded.rests {w : State} {head : Entry} {more : List Entry} {fig : Figures} {n : Nat} {a : Answer}
    (hw : HangEnded s w seat h) (hq : w.queue = head :: more)
    (hc : computeGrant (grantInputs s head.member) head.req = .short fig n)
    (hd : placeAnswer seat a (serve w) = d) :
    (closeAct s (finishSetup s d)).floor.state = .resting ∧ (closeAct s (finishSetup s d)).floor.holder = none
      ∧ (closeAct s (finishSetup s d)).floor.hang = none ∧ (closeAct s (finishSetup s d)).queue = head :: more
      ∧ Noticed s (closeAct s (finishSetup s d)) seat (.ended .released .none true h.member s.floor.keyedMs) := by
  have hal : Alike d (serve w) := by
    subst hd
    exact alike_placeAnswer seat a (serve w)
  have hsv : serve w = setFloorState .resting w := by
    rw [serve_queue w hw.serves.mode hw.serves.inhibit hw.serves.pending, hq, serveEntries, hw.inputs, hc]
  have hfl : d.floor = { s.floor.cleared with state := .resting } := by
    rw [hal.floor, hsv, setFloorState_floor, hw.floor]
  have hm := setFloorState_silent (k := 4) .resting (by decide) (by decide) _ hw.told rfl
  rw [← hsv] at hm
  have hram : d.ram = s.ram := by rw [hal.ram]; simp [hw.ram]
  rw [finishSetup_notSetting (by simp [hfl])]
  refine ⟨by simp [hfl], by simp [hfl, Floor.cleared], by simp [hfl, Floor.cleared], ?_,
    closeAct_noticed (hal.silent 4 seat _ hm rfl) (by simp [partHeld, hram])⟩
  simp [hal.queue, hsv, hq]

/-- R57: the act in which the hang ends. -/
theorem Rekeys.ends {P : State → Prop} {judge : State → State × Reply} {y : State} {r : Result} {data : List Byte}
    (hr : Rekeys s seat rest h old q)
    (hk : rekey h (askedEntry s seat h.member q) (orderTaken seat rest s) = endHangWith judge (orderTaken seat rest s))
    (hj : judge (hangOver seat rest s) = (y, ⟨r, data⟩)) (hm : y.ram = s.ram)
    (hP : ∀ d, placeAnswer seat (answerWith s seat r data) (serve (setFloorState .idle y)) = d →
      Answered s (closeAct s (finishSetup s d)) seat (answerWith s seat r data) →
      P (closeAct s (finishSetup s d))) : Gives (exec .request s) P := by
  refine execOrder_acts (d := serve (setFloorState .idle y)) (reply := ⟨r, data⟩) hr.ready ?_
    (hP _ rfl (order_answered seat _ (by simp [hm])))
  rw [hr.does, hk, endHangWith, hj]
  rfl

/-- R39, R57: the request has joined the queue behind the hang. -/
theorem Rekeys.joins {i : Nat} (hr : Rekeys s seat rest h old q)
    (hi : JoinsBehind (askedEntry s seat h.member q) s.queue i) :
    joinWith (askedEntry s seat h.member q) (hangOver seat rest s)
        = (joinQueue (askedEntry s seat h.member q) (hangOver seat rest s), ⟨.done, [byteOf (i + 1), 0]⟩)
      ∧ (joinQueue (askedEntry s seat h.member q) (hangOver seat rest s)).queue
        = s.queue.take i ++ askedEntry s seat h.member q :: s.queue.drop i := by
  have hq : (hangOver seat rest s).queue = s.queue := by simp [hangOver]
  obtain ⟨h1, h2⟩ := joinQueue_behind (s := hangOver seat rest s) (e := askedEntry s seat h.member q) (i := i)
    (by simp [hangOver, Floor.cleared, hr.hang]) (by rw [hq]; exact not_queued_iff.1 hr.free) (by rw [hq]; exact hi)
  rw [hq] at h1
  refine ⟨?_, h1⟩
  rw [joinWith]
  simp only
  have h3 : positionOf (joinQueue (askedEntry s seat h.member q) (hangOver seat rest s))
      (askedEntry s seat h.member q).seat = i + 1 := h2
  rw [h3]
  rfl

/-- R44, R45, R57: the floor considers the head of the queue behind the hang. -/
theorem Rekeys.considers {judge : State → State × Reply} {y : State} {r : Result} {data : List Byte} {head : Entry}
    {more : List Entry} (hr : Rekeys s seat rest h old q) (hi : s.pins.txInhibit = false)
    (hp : s.ident.pending = false)
    (hk : rekey h (askedEntry s seat h.member q) (orderTaken seat rest s) = endHangWith judge (orderTaken seat rest s))
    (hj : judge (hangOver seat rest s) = (y, ⟨r, data⟩))
    (hy : y = hangOver seat rest s ∨ y = joinQueue e (hangOver seat rest s)) (hq : y.queue = head :: more) :
    (∀ fig n, computeGrant (grantInputs s head.member) head.req = .short fig n →
      Gives (exec .request s) fun t =>
        t.floor.state = .resting ∧ t.floor.holder = none ∧ t.floor.hang = none ∧ t.queue = head :: more
          ∧ Noticed s t seat (.ended .released .none true h.member s.floor.keyedMs)
          ∧ Answered s t seat (answerWith s seat r data))
    ∧ ∀ fig n g, computeGrant (grantInputs s head.member) head.req = .grant fig n g →
      g.mode ≠ .tune ∨ s.pins.ampFault = false ∨ s.bus.believed.amp ≠ some .operate
        ∨ s.station.ampPresent = true →
      Gives (exec .request s) fun t =>
        GrantTaken t t g ∧ t.floor.holder = some ⟨head.seat, head.member⟩ ∧ t.floor.grant = some g ∧ t.queue = more
          ∧ Noticed s t seat (.ended .released .none true h.member s.floor.keyedMs)
          ∧ Answered s t seat (answerWith s seat r data) := by
  have hw := hr.hangEnded hi hp hy
  have hwq : (setFloorState .idle y).queue = head :: more := by simpa using hq
  have hm : y.ram = s.ram := by
    rcases hy with rfl | rfl
    · simp [hangOver]
    · simp [hangOver]
  refine ⟨fun fig n hc => hr.ends hk hj hm fun d hd hans => ?_,
    fun fig n g hc hg => hr.ends hk hj hm fun d hd hans => ?_⟩
  · obtain ⟨h1, h2, h3, h4, h5⟩ := hw.rests hwq hc hd
    exact ⟨h1, h2, h3, h4, h5, hans⟩
  · obtain ⟨h1, h2, h3, h4, h5⟩ := hw.holds hr.hang hwq hc hg hd
    exact ⟨h1, h2, h3, h4, h5, hans⟩

end

/-- Settles O32: the new grant, with the setting kept or another; the hang's end, with the request behind it. -/
theorem rekeyTakesANewGrant : Obligations.RekeyTakesANewGrant := by
  unfold Obligations.RekeyTakesANewGrant
  intro s seat rest h old q e ho hm hs hh hown hg ha hf hp hfl he
  subst he
  have hask : Asks s seat h.member q := ⟨hm, ha, by simp [hs], hp, hfl.imp_right And.left, fun h1 => by
    rcases hfl with h0 | h0
    · rw [h0] at h1
      cases h1
    · exact h0.2⟩
  have hr : Rekeys s seat rest h old q := ⟨ho, hask, hs, hh, hown, hg, hf⟩
  refine ⟨fun hq => ⟨fun r hc => ?refused, fun fig n g hc hset ht => ?granted,
    fun fig n g hc h1 h2 h3 ht hi hamp hk hl => ?keys, fun fig n g hc hset ht hamp hop hi hk => ?faults,
    fun fig n i head more hc hi hpn hj hhead => ?short⟩,
    fun hq hl hi hpn head more => ⟨fun r fig' n' g' had hhead hc' hg' => ?limitRefused,
      fun fig i had hj hhead => ?limitJoins⟩⟩
  case refused =>
    refine execOrder_refused ho ?_
    rw [hr.does, rekey_refused (r := r) (by simpa using hq) (by rw [grantInputs_orderTaken]; exact hc)]
  case granted =>
    by_cases hsame : SameSetting old g
    · obtain ⟨t, et, h1, h2, h3⟩ := hr.granted hq hc hsame (hset.resolve_left (not_not.2 hsame))
      exact ⟨t, et, h1.holder, h1.grant, h1.count, h1.keyedMs, h1.keyDown, h1.hang, h1.warned, h1.queue,
        by rwa [if_pos hsame], h1.told, h3⟩
    · obtain ⟨t, et, h1, h2, h3⟩ := hr.sets hq hc hsame ht
      exact ⟨t, et, h1.holder, h1.grant, h1.count, h1.keyedMs, h1.keyDown, h1.hang, h1.warned, h1.queue,
        by rwa [if_neg hsame], h1.told, h3⟩
  case keys =>
    obtain ⟨t, et, h4, h5, h6, h7, h8⟩ := hr.keys hq hc ⟨h1, h2, h3⟩ ht hi hamp hk hl
    exact ⟨t, et, h5, h4.holder, h4.grant, h4.count, h4.keyedMs, h4.keyDown, h4.hang, h6, h7, h4.queue, h4.told, h8⟩
  case faults => exact hr.faults hq hc hset ht hamp hop hi hk
  case short =>
    obtain ⟨hjw, hjq⟩ := hr.joins hj
    have hk := rekey_short (h := h) (e := askedEntry s seat h.member q) (s := orderTaken seat rest s) (fig := fig)
      (n := n) (by simpa using hq) (by rw [grantInputs_orderTaken]; exact hc)
    exact hr.considers hi hpn hk hjw (.inr rfl) (hjq.trans hhead)
  all_goals
    have hk := rekey_limit (h := h) (e := askedEntry s seat h.member q) (s := orderTaken seat rest s)
      (by simpa using hq) (by simpa using hl)
    have hin : grantInputs (hangOver seat rest s) (askedEntry s seat h.member q).member = grantInputs s h.member :=
      grantInputs_hangOver h.member
  case limitRefused =>
    have hj : judgeAndJoin (askedEntry s seat h.member q) (hangOver seat rest s) = (hangOver seat rest s, ⟨r, []⟩) := by
      rw [judgeAndJoin, hin, had]
      rfl
    exact (hr.considers (e := askedEntry s seat h.member q) hi hpn hk hj (.inl rfl) (by simpa [hangOver] using hhead)).2 fig' n' g' hc' hg'
  case limitJoins =>
    obtain ⟨hjw, hjq⟩ := hr.joins hj
    have hjj : judgeAndJoin (askedEntry s seat h.member q) (hangOver seat rest s)
        = joinWith (askedEntry s seat h.member q) (hangOver seat rest s) := by
      rw [judgeAndJoin, hin, had]
    obtain ⟨hrest, hhold⟩ := hr.considers hi hpn hk (hjj.trans hjw) (.inr rfl) (hjq.trans hhead)
    refine ⟨fun fig' n' hc' => ?_, hhold⟩
    obtain ⟨t, et, h1, h2, -, h3⟩ := hrest fig' n' hc'
    exact ⟨t, et, h1, h2, h3⟩

end Sys2Proof.Machine

/-! O18: a seat that leaves its member (R11 to R13, R62). -/

namespace Sys2Proof.Machine

section

variable {s t u d : State} {x seat : SeatNo} {m : MemberNo} {cause : SeatCause}

/-! ### The notices of a VACANT seat -/

theorem receive_vacant {r : Seat} (n : Notice) (h : r.attachment = none) : r.receive n = r := by
  simp [Seat.receive, h]

theorem setFloorState_vacant (new : FloorState) (h : s.seats[x].attachment = none) :
    (setFloorState new s).seats[x].notices = s.seats[x].notices := by
  have hr (n : Notice) : Seat.receive n s.seats[x.val] = s.seats[x.val] := receive_vacant n h
  rw [setFloorState_seats]
  split
  · rfl
  · split <;> simp [hr]

/-- R11, R166: nothing that the floor does tells a VACANT seat anything. -/
theorem Moves.vacant (h : Moves s t) (hv : s.seats[x].attachment = none) :
    t.seats[x].notices = s.seats[x].notices := by
  induction h with
  | refl => rfl
  | trans h1 _ ih ih' => exact (ih' ((h1.seatsKept.attachment x).trans hv)).trans (ih hv)
  | tell seat body s _ =>
    rw [raise_getElem]
    split
    · next e => subst e; rw [receive_vacant _ hv]
    · rfl
  | tellAll body s _ => rw [raiseAll_getElem, receive_vacant _ hv]
  | figures seat s hf =>
    rw [modSeat_getElem]
    split
    · next e =>
      subst e
      obtain ⟨-, hn, -⟩ := hf s.seats[x]
      exact hn
    · rfl
  | state s _ => exact setFloorState_vacant _ hv
  | turnOver h1 h2 _ _ _ _ _ _ ih ih' =>
    have hu := (h1.seatsKept.attachment x).trans hv
    have ht := (h2.seatsKept.attachment x).trans hu
    exact (setFloorState_vacant _ ht).trans ((ih' hu).trans (ih hv))
  | turnBegun h1 _ _ h2 _ _ ih ih' =>
    have hu := (h1.seatsKept.attachment x).trans hv
    have ht := (h2.seatsKept.attachment x).trans hu
    exact (setFloorState_vacant _ ht).trans ((ih' hu).trans (ih hv))
  | _ => simp

/-! ### The report of a seat with one notice -/

theorem Notice.bytes_length (n : Notice) : n.bytes.length = 16 := by
  simp [Notice.bytes, le32, le16]

theorem reportBytes_one (now : BitVec 32) (r : Seat) {n : Notice} (h : r.notices = [n]) :
    (reportBytes now r).getD 0 0 = 1
      ∧ ∀ i, i < 16 → (reportBytes now r).getD (36 + i) 0 = n.bytes.getD i 0 := by
  have ho : (reportOrder now r.notices).flatMap Notice.bytes = n.bytes := by
    simp [h, reportOrder, insertNotice]
  refine ⟨?_, fun i hi => ?_⟩
  · rw [reportBytes, padTo_getD, if_pos (by decide), h]
    rfl
  · rw [reportBytes, padTo_getD, if_pos (by omega), ho, List.getD_append_right _ _ _ _ (by simp)]
    simp

/-- R11, R167: the one notice of a seat stands alone in the report of the act, or stays. -/
theorem closeAct_sole {before : State} {n : Notice} (hn : d.seats[x].notices = [n])
    (hp : partHeld d (.report x) = partHeld s (.report x)) :
    if partHeld s (.report x) then
      (closeAct before d).seats[x].notices = [] ∧ cellByte (closeAct before d) (.report x) 0 = 1
        ∧ cellBytes (closeAct before d) (.report x) 36 16 = n.bytes
    else (closeAct before d).seats[x].notices = [n] := by
  obtain ⟨u, hu, ht⟩ := composeReports_agrees x
    (settleBoard before (settleLines (settlePoll (settleClosing before d))))
  have hrec : u.seats[x] = d.seats[x] := by rw [hu.record]; simp
  have hheld : partHeld u (.report x) = partHeld s (.report x) := by
    rw [hu.partHeld_report, ← hp]
    simp [partHeld]
  have hun : u.seats[x].notices = [n] := by rw [hrec, hn]
  rw [closeAct]
  by_cases hr : partHeld s (.report x) = true
  · have hdue : reportDue u x = true := by rw [reportDue, hheld, hr, hun]; simp
    rw [composeReport, if_pos hdue] at ht
    obtain ⟨h0, hb⟩ := reportBytes_one u.stamp u.seats[x] hun
    rw [if_pos hr]
    refine ⟨by rw [ht.record, writeReport_seats, if_pos rfl], ?_, ?_⟩
    · rw [ht.cellByte_report (by decide), writeReport_cellByte _ _ _ (by decide), h0]
    · apply List.ext_getElem (by simp [cellBytes, Notice.bytes_length])
      intro i hi hi'
      rw [Notice.bytes_length] at hi'
      have h1 := ht.cellByte_report (i := 36 + i) (by omega)
      rw [writeReport_cellByte _ _ _ (by omega), hb i hi'] at h1
      simp only [cellBytes, Memory.readBlock_getElem]
      rw [← List.getD_eq_getElem _ 0, ← h1, cellByte, Nat.add_assoc]
  · have hdue : ¬ reportDue u x = true := by rw [reportDue, hheld]; simp [hr]
    rw [composeReport, if_neg hdue] at ht
    rw [if_neg hr, ht.record, hun]

/-! ### The seat that has left -/

/-- R11, R62: within the act that has detached a seat. -/
structure Left (s d : State) (x : SeatNo) (m : MemberNo) (cause : SeatCause) : Prop where
  vacant : d.seats[x].attachment = none
  sole   : d.seats[x].notices = [⟨.seat cause m, s.stamp⟩]
  held   : partHeld d (.report x) = partHeld s (.report x)
  off    : OffFloor x d
  turn   : ∀ h, s.floor.holder = some h → h.seat = x → TurnDone s d x cause.endCause

theorem Left.of_eq (h : Left s d x m cause) (ha : t.seats[x].attachment = d.seats[x].attachment)
    (hn : t.seats[x].notices = d.seats[x].notices) (hr : t.ram = d.ram) (hf : t.floor = d.floor)
    (hk : t.keying.state = d.keying.state) (hw : t.bus.floorWork = d.bus.floorWork)
    (hi : t.bus.inFlight = d.bus.inFlight) (hq : t.queue = d.queue) : Left s t x m cause :=
  ⟨ha.trans h.vacant, hn.trans h.sole, by simpa [partHeld, hr] using h.held, h.off.of_eq (by rw [hf]) hq,
    fun y hy hyx => (h.turn y hy hyx).of_eq hf hk hw hi hq⟩

theorem Left.placeAnswer (h : Left s d x m cause) (seat : SeatNo) (a : Answer) :
    Left s (placeAnswer seat a d) x m cause :=
  have ha := answering seat a d
  h.of_eq (ha.attached x) (ha.notices x) ha.ram ha.floor ha.keying ha.work ha.flight ha.queue

/-- R11, R62: and behind it. -/
theorem Left.close (h : Left s d x m cause) : SeatLeft s (closeAct s (finishSetup s d)) x m cause := by
  have hm := finishSetup_moves s d
  have ha : (finishSetup s d).seats[x].attachment = none := (hm.seatsKept.attachment x).trans h.vacant
  have hn : (finishSetup s d).seats[x].notices = [⟨.seat cause m, s.stamp⟩] := (hm.vacant h.vacant).trans h.sole
  have hp : partHeld (finishSetup s d) (.report x) = partHeld s (.report x) := by simpa [partHeld] using h.held
  have ho := hm.keeps_offFloor h.off
  have hc (y : Holder) (hy : s.floor.holder = some y) (hyx : y.seat = x) :
      TurnClosed s (closeAct s (finishSetup s d)) y cause.endCause := by
    subst hyx
    exact ((h.turn y hy rfl).finishSetup s).closed s
  refine ⟨(closeAct_kept s (finishSetup s d) .attachments x).trans ha,
    closeAct_noticed (by rw [hn]; exact List.mem_singleton_self _) hp, closeAct_sole hn hp, by simpa using ho.queue,
    by simpa using ho.holder, fun hh => ?_, hc⟩
  obtain ⟨y, hy, hyx⟩ := Option.map_eq_some_iff.1 hh
  exact (hc y hy hyx).unkeyed

/-- R62: the floor's answer to the detachment of its holder. -/
theorem floorDetached_holder {c : EndCause} (hf : FloorOpen (some x) u) (hh : holderSeat u = some x) :
    floorDetached x c u = endTurn c .none u := by
  obtain ⟨y, hy, hyx⟩ := Option.map_eq_some_iff.1 hh
  have hc : OffFloor x (endTurnCore c .none u) := .endTurnCore fun e he => hyx ▸ hf.holder_not_queued y hy e he
  have ht : OffFloor x (endTurn c .none u) := (enterIdle_onward _).off x hc
  rw [floorDetached, if_pos hh]
  split
  · next e he => exact absurd (by simpa using List.find?_some he) (ht.queue e (List.mem_of_find?_eq_some he))
  · rfl

theorem vacated_record (seat : SeatNo) (m : MemberNo) (cause : SeatCause) (u : State) (x : SeatNo) :
    (vacated seat m cause u).seats[x] = if x = seat then
      { u.seats[x] with attachment := none, notices := [⟨.seat cause m, u.stamp⟩] } else u.seats[x] := by
  have hs : (vacated seat m cause u).seats = (modSeat seat (fun r =>
      { r with attachment := none, notices := [⟨.seat cause m, u.stamp⟩] }) u).seats := by
    simp [vacated]
  rw [hs, modSeat_getElem]
  split
  · next h => subst h; rfl
  · rfl

theorem vacated_frame (seat : SeatNo) (m : MemberNo) (cause : SeatCause) (u : State) :
    (vacated seat m cause u).ram = u.ram ∧ (vacated seat m cause u).bus = u.bus
      ∧ (vacated seat m cause u).station = u.station ∧ (vacated seat m cause u).stamp = u.stamp
      ∧ (vacated seat m cause u).handovers = u.handovers := by
  simp [vacated]

/-- R11, R62: the detachment of a seat, within an act that has left the floor alone so far. -/
theorem detachSeat_left (hl : FloorLaw u) (ha : attachedMember u x = some m)
    (hh : u.floor.holder = s.floor.holder) (hs : u.station.ampPresent = s.station.ampPresent)
    (hb : u.bus.believed.amp = s.bus.believed.amp) (hst : u.stamp = s.stamp) (hr : u.ram = s.ram) :
    Left s (detachSeat x cause u) x m cause := by
  obtain ⟨hvr, hvb, hvs, -, -⟩ := vacated_frame x m cause u
  have hrec := vacated_record x m cause u x
  rw [if_pos rfl] at hrec
  have hvo := (floorLaw_iff.1 hl).1.vacated x m cause
  have hvh : (vacated x m cause u).floor.holder = u.floor.holder := by simp
  rw [detachSeat_attached cause ha]
  generalize vacated x m cause u = v at *
  have hm := floorDetached_moves x cause.endCause v
  have hva : v.seats[x].attachment = none := by rw [hrec]
  refine ⟨(hm.seatsKept.attachment x).trans hva, (hm.vacant hva).trans (by rw [hrec, hst]),
    by simp [partHeld, hvr, hr], floorDetached_off hvo, fun y hy hyx => ?_⟩
  have hy' : v.floor.holder = some y := hvh.trans (hh.trans hy)
  rw [floorDetached_holder hvo (by simp [holderSeat, hy', hyx])]
  have hleft : TurnLeft s (endTurnCore cause.endCause .none v) x cause.endCause :=
    endTurnCore_left .none (fun e he => hyx ▸ hvo.holder_not_queued y hy' e he) (by rw [hvs, hs]) (by rw [hvb, hb])
  exact (hleft.onward (enterIdle_onward _)).done

/-- R11: what the detachment leaves of the other seats and of the members. -/
theorem detachSeat_others (cause : SeatCause) (ha : attachedMember u x = some m) :
    (∀ y : SeatNo, y ≠ x → (detachSeat x cause u).seats[y].attachment = u.seats[y].attachment)
      ∧ (detachSeat x cause u).seats[x].attachment = none
      ∧ ∀ k : MemberNo, (detachSeat x cause u).members[k]
          = if k = m then u.members[m].map (fun r => { r with attached := none }) else u.members[k] := by
  rw [detachSeat_attached cause ha]
  have hm := floorDetached_moves x cause.endCause (vacated x m cause u)
  obtain ⟨-, -, -, -, hmem, -⟩ := hm.frame
  refine ⟨fun y hy => ?_, ?_, fun k => ?_⟩
  · rw [hm.seatsKept.attachment, vacated_record, if_neg hy]
  · rw [hm.seatsKept.attachment, vacated_record, if_pos rfl]
  · rw [hmem, vacated_members, modMember_getElem]

/-- R13: the take of an order disturbs no law of the floor. -/
theorem FloorLaw.orderTaken (hl : FloorLaw s) (seat : SeatNo) (rest : List SeatNo) :
    FloorLaw (orderTaken seat rest s) :=
  hl.of_same (by simp) (by simp) (attachedMember_orderTaken seat · rest s)

/-- R4, R11: an order that detaches a seat, told of the state before its take. -/
theorem orderTaken_left (hl : FloorLaw u) (hu : u.floor = s.floor) (hst : u.station = s.station) (hb : u.bus = s.bus)
    (hstamp : u.stamp = s.stamp) (hr : u.ram = s.ram) (ha : attachedMember u x = some m) :
    Left s (detachSeat x cause u) x m cause :=
  detachSeat_left hl ha (by rw [hu]) (by rw [hst]) (by rw [hb]) hstamp hr

/-- The attachments and the members behind an act. -/
theorem acted_records (before d : State) :
    (∀ y : SeatNo, (closeAct before (finishSetup before d)).seats[y].attachment = d.seats[y].attachment)
      ∧ (closeAct before (finishSetup before d)).members = d.members
      ∧ (closeAct before (finishSetup before d)).handovers = d.handovers := by
  refine ⟨fun y => ?_, by simp, by simp⟩
  exact (closeAct_kept before (finishSetup before d) .attachments y).trans
    ((finishSetup_moves before d).seatsKept.attachment y)

/-- R11: a seat has left, and nobody else. -/
theorem Left.detached (h : Left s d x m cause) (ho : ∀ y : SeatNo, y ≠ x → d.seats[y].attachment = s.seats[y].attachment)
    (hm : ∀ k : MemberNo, d.members[k] = if k = m then s.members[m].map (fun r => { r with attached := none })
      else s.members[k]) : Detached s (closeAct s (finishSetup s d)) x m cause := by
  obtain ⟨ha, hmem, -⟩ := acted_records s d
  exact { h.close with
    others := fun y hy => (ha y).trans (ho y hy)
    member := fun k => by rw [hmem]; exact hm k }

end

/-- Settles O18: both detach an ATTACHED seat; an order from a VACANT one and a deadline that is not reached
do nothing. -/
theorem seatIsDetached : Obligations.SeatIsDetached := by
  unfold Obligations.SeatIsDetached
  refine fun s seat m hl => ⟨fun rest h ha => ?detach, fun rest h ha => ?refused, fun hr ha => ?expiry,
    fun hs ha => ?early⟩
  case detach =>
    have ha' : attachedMember (orderTaken seat rest s) seat = some m := by rw [attachedMember_orderTaken, ha]
    obtain ⟨ho, -, hm⟩ := detachSeat_others .detach ha'
    have hleft : Left s (detachSeat seat .detach (orderTaken seat rest s)) seat m .detach :=
      orderTaken_left (hl.orderTaken seat rest) (by simp) (by simp) (by simp) (by simp) (by simp) ha'
    refine execOrder_acts (d := detachSeat seat .detach (orderTaken seat rest s)) (reply := plain .done) h ?_ ?_
    · rw [doDetach, if_pos (by rw [ha']; rfl)]
    · refine ⟨by simp, (hleft.placeAnswer seat _).detached (fun y hy => ?_) fun k => ?_,
        order_answered seat _ (by simp)⟩
      · rw [(answering seat _ _).attached y, ho y hy, orderTaken_attachment, renewedAt, if_neg hy]
      · have hmem : (orderTaken seat rest s).members = s.members := by simp
        have hk := hm k
        rw [hmem] at hk
        simpa using hk
  case refused =>
    refine execOrder_refused h ?_
    have ha' : attachedMember (orderTaken seat rest s) seat = none := by rw [attachedMember_orderTaken, ha]
    rw [doDetach, if_neg (by rw [ha']; simp)]
  case expiry =>
    have ha' : attachedMember s seat = some m := by rw [attachedMember, ha]; rfl
    have hdue : presenceExpired seat s = detachSeat seat .presence s := if_pos (by rw [presenceDue, ha]; exact beq_self_eq_true _)
    obtain ⟨ho, -, hm⟩ := detachSeat_others .presence ha'
    exact gives_deed rfl hr hdue ((detachSeat_left (s := s) hl ha' rfl rfl rfl rfl rfl).detached ho hm)
  case early =>
    have hdue : presenceExpired seat s = s := by
      refine if_neg fun hd => ?_
      cases hsa : s.seats[seat].attachment with
      | none =>
        rw [presenceDue, hsa] at hd
        cases hd
      | some a =>
        rw [presenceDue, hsa] at hd
        exact ha a hsa (beq_iff_eq.1 hd)
    exact congrArg Host.Outcome.next (act_same hs hdue)

end Sys2Proof.Machine

/-! O17, O21: ATTACH, MEMBER_WRITE and MEMBER_REMOVE, with the members they suspend (R4 to R10). -/

namespace Sys2Proof.Machine

section

variable {s u d : State} {giver x : SeatNo} {m k : MemberNo} {att : Option SeatNo}

/-! ### A suspension within an order (R4) -/

/-- R4, R13: an order's act behind its take, in which member records alone have changed. -/
structure Recorded (s u : State) (giver : SeatNo) (rest : List SeatNo) : Prop where
  floor     : u.floor = s.floor
  queue     : u.queue = s.queue
  station   : u.station = s.station
  bus       : u.bus = s.bus
  stamp     : u.stamp = s.stamp
  ram       : u.ram = s.ram
  handovers : u.handovers = rest
  seats     : ∀ y : SeatNo, u.seats[y].attachment = renewedAt s giver y

theorem Recorded.orderTaken (rest : List SeatNo) : Recorded s (orderTaken giver rest s) giver rest :=
  ⟨by simp, by simp, by simp, by simp, by simp, by simp, by simp, fun y => orderTaken_attachment giver y rest s⟩

theorem Recorded.setMember {rest : List SeatNo} (h : Recorded s u giver rest) (m : MemberNo) (r : Option Member) :
    Recorded s (setMember m r u) giver rest :=
  ⟨h.floor, h.queue, h.station, h.bus, h.stamp, h.ram, h.handovers, h.seats⟩

theorem renewedAt_member (s : State) (giver y : SeatNo) :
    (renewedAt s giver y).map Attachment.member = attachedMember s y := by
  unfold renewedAt
  split
  · next e =>
    subst e
    rw [attachedMember]
    cases s.seats[y].attachment <;> rfl
  · rfl

theorem Recorded.seatMember {rest : List SeatNo} (h : Recorded s u giver rest) (y : SeatNo) :
    attachedMember u y = attachedMember s y := by
  rw [attachedMember, h.seats, renewedAt_member]

theorem Recorded.floorLaw {rest : List SeatNo} (h : Recorded s u giver rest) (hl : FloorLaw s) : FloorLaw u :=
  hl.of_same h.floor h.queue h.seatMember

/-- R4, R8: whom a member is attached to, by either record. -/
theorem SeatLaw.seat_of_member (hl : SeatLaw s) (hx : (memberOf s m).attached = some x) :
    attachedMember s x = some m := by
  obtain ⟨h1, -⟩ := seatLaw_iff.1 hl
  exact (h1 x m).2 (by rw [← memberOf_attached]; exact hx)

theorem revoke_some (hx : (memberOf u m).attached = some x) : revoke m u = detachSeat x .suspended u := by
  rw [revoke, hx]

theorem revoke_none (hx : (memberOf u m).attached = none) : revoke m u = u := by
  rw [revoke, hx]

/-- R4: the member is attached no more, and no other record has changed. -/
theorem revoke_records (ha : ∀ x, (memberOf u m).attached = some x → attachedMember u x = some m) :
    (∀ k : MemberNo, (revoke m u).members[k]
        = if k = m then u.members[m].map (fun r => { r with attached := none }) else u.members[k])
      ∧ (∀ y : SeatNo, (memberOf u m).attached ≠ some y → (revoke m u).seats[y].attachment = u.seats[y].attachment)
      ∧ ∀ y : SeatNo, (memberOf u m).attached = some y → (revoke m u).seats[y].attachment = none := by
  cases hx : (memberOf u m).attached with
  | none =>
    rw [revoke_none hx]
    refine ⟨fun k => ?_, fun _ _ => rfl, fun _ e => by cases e⟩
    split
    · next e =>
      subst e
      rw [memberOf] at hx
      cases hr : u.members[k] with
      | none => rfl
      | some r =>
        rw [hr] at hx
        have hra : r.attached = none := hx
        rw [Option.map_some, ← hra]
    · rfl
  | some x =>
    rw [revoke_some hx]
    obtain ⟨h1, h2, h3⟩ := detachSeat_others .suspended (ha x hx)
    refine ⟨h3, fun y hy => h1 y fun e => hy (by rw [e]), fun y hy => ?_⟩
    obtain rfl := Option.some.inj hy
    exact h2

theorem Answering.of_member {v : State} {r : Option Member} (h : Answering d (setMember m r v)) :
    Answering d v :=
  ⟨⟨h.floor, h.queue, h.work, h.flight, h.believed, h.station, h.mode, h.pins, h.keying, h.notices, h.ram⟩,
    h.ident, h.figures, h.attached, h.handovers, h.stamp⟩

/-- R4, R11: what a member's seat and the others are told behind the order that suspended it. -/
theorem Recorded.revoked {rest : List SeatNo} (h : Recorded s u giver rest) (hl : FloorLaw s)
    (hx : (memberOf u m).attached = att) (ha : ∀ x, att = some x → attachedMember s x = some m)
    (hd : Answering d (revoke m u)) : Revoked s (closeAct s (finishSetup s d)) giver m att := by
  subst hx
  have hau (x : SeatNo) (e : (memberOf u m).attached = some x) : attachedMember u x = some m :=
    (h.seatMember x).trans (ha x e)
  obtain ⟨-, hother, -⟩ := revoke_records hau
  obtain ⟨hatt, -, -⟩ := acted_records s d
  refine ⟨fun x e => ?_, fun x e => ?_, fun e => ?_⟩
  · rw [revoke_some e] at hd
    have hleft := orderTaken_left (cause := .suspended) (h.floorLaw hl) h.floor h.station h.bus h.stamp h.ram (hau x e)
    exact (hleft.of_eq (hd.attached x) (hd.notices x) hd.ram hd.floor hd.keying hd.work hd.flight hd.queue).close
  · rw [hatt, hd.attached, hother x e, h.seats]
  · rw [revoke_none e] at hd
    rw [finishSetup_kept (by rw [hd.floor, h.floor]) (by rw [hd.floor, h.floor])]
    exact ⟨by simp [hd.floor, h.floor], by simp [hd.queue, h.queue]⟩

theorem memberOf_some {r : Member} (h : s.members[m] = some r) : memberOf s m = r := by
  rw [memberOf, h]
  rfl

/-- R4, R10: the state in which a suspended member's seat is detached. -/
abbrev suspending (m : MemberNo) (u : State) : State :=
  modMember m (fun r => { r with state := .suspended, misses := 0 }) u

theorem suspending_attached : (memberOf (suspending m u) m).attached = (memberOf u m).attached := by
  unfold memberOf
  rw [modMember_getElem, if_pos rfl]
  cases u.members[m] <;> rfl

/-- R4: the records behind a suspension. -/
theorem suspend_records {rest : List SeatNo} (h : Recorded s u giver rest) (hm : u.members = s.members)
    (hl : SeatLaw s) :
    (∀ k : MemberNo, (suspend m u).members[k] = if k = m then
        s.members[m].map (fun r => { r with state := .suspended, misses := 0, attached := none }) else s.members[k])
      ∧ ∀ y : SeatNo, (memberOf s m).attached = some y → (suspend m u).seats[y].attachment = none := by
  have hme : memberOf u m = memberOf s m := by simp [memberOf, hm]
  have hat : (memberOf (suspending m u) m).attached = (memberOf s m).attached := by rw [suspending_attached, hme]
  obtain ⟨h1, -, h3⟩ := revoke_records (u := suspending m u) (m := m) fun x hx =>
    ((h.setMember m _).seatMember x).trans (hl.seat_of_member (hat ▸ hx))
  refine ⟨fun k => (h1 k).trans ?_, fun y hy => h3 y (hat.trans hy)⟩
  simp only [modMember_getElem, hm]
  split
  · simp only [if_true, Option.map_map]
    rfl
  · rfl

end

/-! ### O17 -/

section

variable {s : State} {seat : SeatNo} {rest : List SeatNo} {m : MemberNo} {r : Member}

/-- R9: an ATTACH from a VACANT seat for a present member. -/
theorem doAttach_present (ha : attachedMember s seat = none) (hb : memberNo (bodyByte s seat 4) = some m)
    (hm : s.members[m] = some r) : doAttach seat s
      = if r.state = .suspended then (s, plain .suspended)
        else if cellBytes s (.order seat) 5 8 ≠ r.code then wrongCode m r s
        else if r.attached.isSome then (s, plain .inUse)
        else (attachSeat seat m s, ⟨.done, attachData m r⟩) := by
  rw [doAttach, if_neg (by simp [ha]), hb]
  simp only [hm]

theorem attachSeat_records (seat : SeatNo) (m : MemberNo) (u : State) :
    (∀ k : MemberNo, (attachSeat seat m u).members[k] =
        if k = m then u.members[m].map (fun r => { r with attached := some seat, misses := 0 }) else u.members[k])
      ∧ ∀ y : SeatNo, (attachSeat seat m u).seats[y].attachment =
        if y = seat then some ⟨m, renewedDeadline u⟩ else u.seats[y].attachment := by
  have hs : (attachSeat seat m u).seats = (modSeat seat (fun r =>
      { r with attachment := some ⟨m, renewedDeadline u⟩ }) u).seats := by
    simp [attachSeat]
  refine ⟨fun k => ?_, fun y => ?_⟩
  · unfold attachSeat
    rw [modMember_getElem]
    simp
  · rw [hs, modSeat_getElem]
    split
    · rfl
    · rfl

/-- R9: the ATTACH of a member that passes every check. -/
theorem attach_gives (h : OrderReady 1 seat rest s) (ha : attachedMember s seat = none)
    (hb : memberNo (bodyByte s seat 4) = some m) (hm : s.members[m] = some r) (hr : r.state = .active)
    (hc : cellBytes s (.order seat) 5 8 = r.code) (hn : r.attached = none) :
    Gives (exec .attach s) fun t =>
      t.handovers = rest
        ∧ (∀ x : MemberNo, t.members[x] =
            if x = m then some { r with attached := some seat, misses := 0 } else s.members[x])
        ∧ (∀ x : SeatNo, t.seats[x].attachment =
            if x = seat then some ⟨m, s.stamp + BitVec.ofNat 32 (s.station.presence * 1000)⟩
            else s.seats[x].attachment)
        ∧ t.floor = s.floor ∧ t.queue = s.queue
        ∧ Answered s t seat (answerWith s seat .done (attachData m r)) := by
  have hu := Recorded.orderTaken (s := s) (giver := seat) rest
  have hmem : (orderTaken seat rest s).members = s.members := by simp
  have hd : doAttach seat (orderTaken seat rest s)
      = (attachSeat seat m (orderTaken seat rest s), ⟨.done, attachData m r⟩) := by
    rw [doAttach_present (m := m) (r := r) (by simpa using ha) (by simpa using hb) (by rw [hmem]; exact hm),
      if_neg (by simp [hr]), if_neg (by simp [hc]), if_neg (by simp [hn])]
  refine execOrder_acts (d := attachSeat seat m (orderTaken seat rest s)) h hd ?_
  obtain ⟨h1, h2⟩ := attachSeat_records seat m (orderTaken seat rest s)
  have hans := order_answered (s := s) (d := attachSeat seat m (orderTaken seat rest s)) seat
    (answerWith s seat .done (attachData m r)) (by simp)
  rw [finishSetup_kept (by simp) (by simp)] at hans ⊢
  refine ⟨by simp, fun x => ?_, fun x => ?_, by simp, by simp, hans⟩
  · have hk := h1 x
    rw [hmem, hm] at hk
    simpa using hk
  · rw [(closeAct_kept s _ .attachments x), (answering seat _ _).attached, h2 x, hu.seats]
    split
    · simp [renewedDeadline]
    · next e => rw [renewedAt, if_neg e]

/-- R10: an ATTACH with a wrong code. -/
theorem doAttach_wrongCode (ha : attachedMember s seat = none) (hb : memberNo (bodyByte s seat 4) = some m)
    (hm : s.members[m] = some r) (hr : r.state = .active) (hc : cellBytes s (.order seat) 5 8 ≠ r.code) :
    doAttach seat (orderTaken seat rest s) = wrongCode m r (orderTaken seat rest s) := by
  have hmem : (orderTaken seat rest s).members = s.members := by simp
  rw [doAttach_present (m := m) (r := r) (by simpa using ha) (by simpa using hb) (by rw [hmem]; exact hm),
    if_neg (by simp [hr]), if_pos (by simpa using hc)]

/-- R10: the first three wrong codes raise the miss count. -/
theorem attach_missed (h : OrderReady 1 seat rest s) (ha : attachedMember s seat = none)
    (hb : memberNo (bodyByte s seat 4) = some m) (hm : s.members[m] = some r) (hr : r.state = .active)
    (hc : cellBytes s (.order seat) 5 8 ≠ r.code) (hn : r.misses < 3) :
    Gives (exec .attach s) fun t =>
      (∀ x : MemberNo, t.members[x] = if x = m then some { r with misses := r.misses + 1 } else s.members[x])
        ∧ t.floor = s.floor ∧ t.queue = s.queue ∧ RenewedAtTake s t seat
        ∧ Answered s t seat (answerWith s seat .badCode [byteOf (r.misses + 1)]) := by
  have hmem : (orderTaken seat rest s).members = s.members := by simp
  have hd : doAttach seat (orderTaken seat rest s) = (modMember m (fun r => { r with misses := r.misses + 1 })
      (orderTaken seat rest s), ⟨.badCode, [byteOf (r.misses + 1)]⟩) := by
    rw [doAttach_wrongCode ha hb hm hr hc, wrongCode, if_neg (by omega)]
  refine execOrder_gives h hd (by simp) ⟨fun x => ?_, by simp, by simp, orderClosed_renewed (rest := rest) _ (by simp),
    orderClosed_answered seat _ (by simp)⟩
  have hk := modMember_getElem m x (fun r => { r with misses := r.misses + 1 }) (orderTaken seat rest s)
  rw [hmem, hm] at hk
  simpa using hk

/-- R4, R10: the fourth suspends the member. -/
theorem attach_suspends (h : OrderReady 1 seat rest s) (ha : attachedMember s seat = none)
    (hb : memberNo (bodyByte s seat 4) = some m) (hm : s.members[m] = some r) (hr : r.state = .active)
    (hc : cellBytes s (.order seat) 5 8 ≠ r.code) (hn : 3 ≤ r.misses) (hl : SeatLaw s) :
    Gives (exec .attach s) fun t =>
      (∀ x : MemberNo, t.members[x] =
        if x = m then some { r with state := .suspended, misses := 0, attached := none } else s.members[x])
        ∧ (∀ x : SeatNo, r.attached = some x → t.seats[x].attachment = none)
        ∧ (FloorLaw s → Revoked s t seat m r.attached)
        ∧ Answered s t seat (answerWith s seat .badCode [0]) := by
  have hu := Recorded.orderTaken (s := s) (giver := seat) rest
  have hd : doAttach seat (orderTaken seat rest s) = (suspend m (orderTaken seat rest s), ⟨.badCode, [0]⟩) := by
    rw [doAttach_wrongCode ha hb hm hr hc, wrongCode, if_pos (by omega)]
  have hmo : memberOf s m = r := memberOf_some hm
  obtain ⟨h1, h2⟩ := suspend_records (m := m) hu (by simp) hl
  refine execOrder_acts h hd ?_
  have hal := answering seat (answerWith s seat .badCode [0]) (suspend m (orderTaken seat rest s))
  have hmem : (placeAnswer seat (answerWith s seat .badCode [0]) (suspend m (orderTaken seat rest s))).members
      = (suspend m (orderTaken seat rest s)).members := by simp
  obtain ⟨hatt, hmc, -⟩ := acted_records s
    (placeAnswer seat (answerWith s seat .badCode [0]) (suspend m (orderTaken seat rest s)))
  refine ⟨fun x => ?_, fun x hx => ?_, fun hf => ?_, order_answered seat _ (by simp)⟩
  · rw [hmc, hmem, h1 x, hm]
    rfl
  · rw [hatt, hal.attached]
    exact h2 x (by rw [hmo]; exact hx)
  · have hat : (memberOf (suspending m (orderTaken seat rest s)) m).attached = r.attached := by
      rw [suspending_attached, ← hmo]
      simp [memberOf]
    exact (hu.setMember m _).revoked hf hat (fun x hx => hl.seat_of_member (by rw [hmo]; exact hx)) hal

end

/-- Settles O17: the checks in turn, and what each outcome records. -/
theorem attachChecksAndTakesTheSeat : Obligations.AttachChecksAndTakesTheSeat := by
  unfold Obligations.AttachChecksAndTakesTheSeat
  refine ⟨fun s seat rest m r h ha hb hm hr hc hn => attach_gives h ha hb hm hr hc hn,
    fun s seat rest h => ⟨fun ha => ?taken, fun ha hb => ?field, fun m ha hb => ⟨fun hm => ?absent,
      fun r hm => ⟨fun hr => ?suspended, fun hr hc hn => ?elsewhere, fun hr hc hn => attach_missed h ha hb hm hr hc hn,
        fun hr hc hn hl => attach_suspends h ha hb hm hr hc hn hl⟩⟩⟩⟩
  all_goals
    refine execOrder_refused h ?_
    have hmem : (orderTaken seat rest s).members = s.members := by simp
  case taken => rw [doAttach, if_pos (by simpa using ha)]
  case field =>
    have hb' : memberNo (bodyByte (orderTaken seat rest s) seat 4) = none := by simpa using hb
    rw [doAttach, if_neg (by simp [ha]), hb']
  case absent =>
    have hb' : memberNo (bodyByte (orderTaken seat rest s) seat 4) = some m := by simpa using hb
    rw [doAttach, if_neg (by simp [ha]), hb']
    simp only [hmem, hm]
  case suspended =>
    rw [doAttach_present (m := m) (r := r) (by simpa using ha) (by simpa using hb) (by rw [hmem]; exact hm),
      if_pos hr]
  case elsewhere =>
    rw [doAttach_present (m := m) (r := r) (by simpa using ha) (by simpa using hb) (by rw [hmem]; exact hm),
      if_neg (by simp [hr]), if_neg (by simp [hc]), if_pos hn]

end Sys2Proof.Machine

/-! O21: MEMBER_WRITE and MEMBER_REMOVE (R4, R5, R7). -/

namespace Sys2Proof.Machine

section

variable {s : State} {seat : SeatNo} {rest : List SeatNo} {m : MemberNo} {f : MemberFields}

theorem memberNo_none {b : Byte} (h : 47 < b.toNat) : memberNo b = none := by
  unfold memberNo
  rw [dif_neg (by omega)]

theorem isNone_of_isSome {o : Option Member} (h : o.isSome = true) : ¬ o.isNone = true := by
  rw [Option.isNone_iff_eq_none]
  exact Option.isSome_iff_ne_none.1 h

/-- R5: the record that a MEMBER_WRITE leaves, with what a suspension takes from it. -/
theorem writtenMember_eq (s : State) (m : MemberNo) (f : MemberFields) (x : Option SeatNo) :
    { writtenMember s.members[m] f with attached := x }
      = { state := f.state, grade := f.grade, callsign := f.callsign
          code := if zeroCode f.code = true then (memberOf s m).code else f.code
          misses := 0, priority := f.priority
          ceiling := max 1 (min 1500 f.ceiling), allowance := min 1440 f.allowance
          used := (memberOf s m).used, attached := x } := by
  simp only [writtenMember, clampTo_ceiling]
  rfl

theorem memberClampCount_eq (f : MemberFields) : memberClampCount f
    = (if f.ceiling = 0 ∨ 1500 < f.ceiling then 1 else 0) + if 1440 < f.allowance then 1 else 0 := by
  have hc := clampTo_ceiling_eq f.ceiling
  unfold memberClampCount
  congr 1
  · by_cases h : f.ceiling = 0 ∨ 1500 < f.ceiling
    · rw [if_pos h, if_neg (mt hc.1 (not_not.2 h))]
    · rw [if_neg h, if_pos (hc.2 h)]
  · by_cases h : 1440 < f.allowance
    · rw [if_pos h, if_neg (by omega)]
    · rw [if_neg h, if_pos (by omega)]

/-- R5: the state in which the record is written. -/
abbrev memberWritten (m : MemberNo) (f : MemberFields) (u : State) : State :=
  setMember m (some (writtenMember u.members[m] f)) u

theorem doMemberWrite_written (hb : memberNo (bodyByte s seat 4) = some m) (hp : parseMember s seat = some f)
    (hz : zeroCode f.code = true → s.members[m].isSome = true) :
    doMemberWrite seat s = (if f.state = .suspended then revoke m (memberWritten m f s) else memberWritten m f s,
      ⟨.done, [byteOf m.val, byteOf (memberClampCount f)]⟩) := by
  have hn : ¬ (zeroCode f.code && s.members[m].isNone) = true := by
    intro hx
    rw [Bool.and_eq_true] at hx
    have := hz hx.1
    rw [Option.isNone_iff_eq_none] at hx
    rw [hx.2] at this
    cases this
  rw [doMemberWrite, hb, hp]
  simp only [if_neg hn]

/-- R5: a MEMBER_WRITE that is taken. -/
theorem memberWrite_gives (h : OrderReady 5 seat rest s) (hl : SeatLaw s) (hauth : hasAuthority s seat = true)
    (hb : memberNo (bodyByte s seat 4) = some m) (hp : parseMember s seat = some f)
    (hz : zeroCode f.code = true → s.members[m].isSome = true) :
    Gives (exec .memberWrite s) fun t =>
      t.handovers = rest
        ∧ (∀ x : MemberNo, t.members[x] =
            if x = m then
              some
                { state := f.state, grade := f.grade, callsign := f.callsign
                  code := if zeroCode f.code = true then (memberOf s m).code else f.code
                  misses := 0, priority := f.priority
                  ceiling := max 1 (min 1500 f.ceiling), allowance := min 1440 f.allowance
                  used := (memberOf s m).used
                  attached := if f.state = .suspended then none else (memberOf s m).attached }
            else s.members[x])
        ∧ (∀ x : SeatNo, f.state = .suspended → (memberOf s m).attached = some x → t.seats[x].attachment = none)
        ∧ (f.state = .suspended → FloorLaw s → Revoked s t seat m (memberOf s m).attached)
        ∧ (f.state = .active → RenewedAtTake s t seat ∧ t.floor = s.floor ∧ t.queue = s.queue)
        ∧ Answered s t seat (answerWith s seat .done [byteOf m.val,
            byteOf ((if f.ceiling = 0 ∨ 1500 < f.ceiling then 1 else 0) + if 1440 < f.allowance then 1 else 0)]) := by
  have hmem : (orderTaken seat rest s).members = s.members := by simp
  have hu := (Recorded.orderTaken (s := s) (giver := seat) rest).setMember m (some (writtenMember s.members[m] f))
  have hat : (memberOf (setMember m (some (writtenMember s.members[m] f)) (orderTaken seat rest s)) m).attached
      = (memberOf s m).attached := by
    unfold memberOf
    rw [setMember_getElem, if_pos rfl]
    rfl
  have hd := (withAuthority_of_authority (carryOut := doMemberWrite) (s := orderTaken seat rest s) (seat := seat)
    (by simpa using hauth)).trans (doMemberWrite_written (m := m) (f := f) (by simpa using hb) (by simpa using hp)
      (by rw [hmem]; exact hz))
  rw [memberWritten, hmem] at hd
  rw [memberClampCount_eq] at hd
  generalize byteOf ((if f.ceiling = 0 ∨ 1500 < f.ceiling then 1 else 0) + if 1440 < f.allowance then 1 else 0) = c at hd ⊢
  have hk := fun x => setMember_getElem m x (some (writtenMember s.members[m] f)) (orderTaken seat rest s)
  have hv := writtenMember_eq s m f
  obtain ⟨h1, -, h3⟩ := revoke_records (u := setMember m (some (writtenMember s.members[m] f)) (orderTaken seat rest s))
    (m := m) fun x hx => (hu.seatMember x).trans (hl.seat_of_member (hat ▸ hx))
  generalize setMember m (some (writtenMember s.members[m] f)) (orderTaken seat rest s) = v at *
  have hkv (x : MemberNo) : v.members[x] = if x = m then some (writtenMember s.members[m] f) else s.members[x] := by
    rw [hk x, hmem]
  by_cases hs : f.state = .suspended
  · rw [if_pos hs] at hd
    refine execOrder_acts h hd ?_
    obtain ⟨hatt, hmc, hho⟩ := acted_records s (placeAnswer seat (answerWith s seat .done [byteOf m.val, c]) (revoke m v))
    have hal := answering seat (answerWith s seat .done [byteOf m.val, c]) (revoke m v)
    refine ⟨?_, fun x => ?_, fun x _ hx => ?_, fun _ hf => ?_, fun e => ?_, order_answered seat _ (by simp [hu.ram])⟩
    · rw [hho, hal.handovers]
      simp [hu.handovers]
    · rw [hmc]
      have hmp : (placeAnswer seat (answerWith s seat .done [byteOf m.val, c])
          (revoke m v)).members = (revoke m v).members := by simp
      rw [hmp, h1 x, hkv x, hkv m, if_pos rfl]
      split
      · rw [Option.map_some, hv none]
      · rfl
    · rw [hatt, hal.attached]
      exact h3 x (hat.trans hx)
    · exact hu.revoked hf hat (fun x hx => hl.seat_of_member hx) hal
    · rw [hs] at e
      cases e
  · rw [if_neg hs] at hd
    refine execOrder_gives h hd (by simp [hu.floor]) ⟨by simp [hu.handovers], fun x => ?_, fun x e => absurd e hs,
      fun e => absurd e hs, fun _ => ⟨?_, by simp [hu.floor], by simp [hu.queue]⟩,
      orderClosed_answered seat _ (by simp [hu.ram])⟩
    · have hx := hkv x
      have hw := hv (memberOf s m).attached
      have hsame : { writtenMember s.members[m] f with attached := (memberOf s m).attached } = writtenMember s.members[m] f := rfl
      rw [hsame] at hw
      rw [if_neg hs, ← hw]
      simpa using hx
    · intro x
      rw [orderClosed_kept s seat _ v .attachments x, hu.seats]

/-- R7: a MEMBER_REMOVE that is taken. -/
theorem memberRemove_gives (h : OrderReady 6 seat rest s) (hl : SeatLaw s) (hauth : hasAuthority s seat = true)
    (hb : memberNo (bodyByte s seat 4) = some m) (hm : s.members[m].isSome = true)
    (ht : m = 0 → s.mode = .configuring) :
    Gives (exec .memberRemove s) fun t =>
      t.handovers = rest
        ∧ (∀ x : MemberNo, t.members[x] = if x = m then none else s.members[x])
        ∧ (∀ x : SeatNo, (memberOf s m).attached = some x → t.seats[x].attachment = none)
        ∧ (FloorLaw s → Revoked s t seat m (memberOf s m).attached)
        ∧ Answered s t seat (answerWith s seat .done []) := by
  have hu := Recorded.orderTaken (s := s) (giver := seat) rest
  have hmem : (orderTaken seat rest s).members = s.members := by simp
  have hd : withAuthority doMemberRemove seat (orderTaken seat rest s)
      = (setMember m none (suspend m (orderTaken seat rest s)), ⟨.done, []⟩) := by
    have hb' : memberNo (bodyByte (orderTaken seat rest s) seat 4) = some m := by simpa using hb
    rw [withAuthority_of_authority (by simpa using hauth), doMemberRemove, hb']
    simp only [hmem]
    rw [if_neg (isNone_of_isSome hm), if_neg]
    · rfl
    rintro ⟨e, e'⟩
    have := ht e
    simp [this] at e'
  obtain ⟨h1, h2⟩ := suspend_records (m := m) hu hmem hl
  have hat : (memberOf (suspending m (orderTaken seat rest s)) m).attached = (memberOf s m).attached := by
    rw [suspending_attached]
    simp [memberOf]
  have hsus : suspend m (orderTaken seat rest s) = revoke m (suspending m (orderTaken seat rest s)) := rfl
  refine execOrder_acts h hd ?_
  have hal := (answering seat (answerWith s seat .done [])
    (setMember m none (suspend m (orderTaken seat rest s)))).of_member
  obtain ⟨hatt, hmc, hho⟩ := acted_records s (placeAnswer seat (answerWith s seat .done [])
    (setMember m none (suspend m (orderTaken seat rest s))))
  have hmp : (placeAnswer seat (answerWith s seat .done [])
      (setMember m none (suspend m (orderTaken seat rest s)))).members
      = (setMember m none (suspend m (orderTaken seat rest s))).members := by simp
  refine ⟨?_, fun x => ?_, fun x hx => ?_, fun hf => ?_, order_answered seat _ (by simp)⟩
  · rw [hho, hal.handovers]
    simp
  · rw [hmc, hmp, setMember_getElem, h1 x]
    split
    · rfl
    · rfl
  · rw [hatt, hal.attached]
    exact h2 x hx
  · exact (hu.setMember m _).revoked hf hat (fun x hx => hl.seat_of_member hx) hal

end

/-- Settles O21: the record that is written or cleared, and the seat of a member that is suspended so. -/
theorem memberRecordsAreWrittenAndRemoved : Obligations.MemberRecordsAreWrittenAndRemoved := by
  unfold Obligations.MemberRecordsAreWrittenAndRemoved
  refine ⟨fun s seat rest hauth hb => ?numbers, fun s seat rest m hl hauth hb => ⟨fun h hf => ?field,
    fun f h hp hz => memberWrite_gives h hl hauth hb hp hz, fun h hm ht => memberRemove_gives h hl hauth hb hm ht,
    fun h hm => ?absent, fun h hm h0 hs => ?trustee⟩⟩
  all_goals
    have hauth' (c : SeatNo → State → State × Reply) : withAuthority c seat (orderTaken seat rest s)
        = c seat (orderTaken seat rest s) := withAuthority_of_authority (by simpa using hauth)
    have hmem : (orderTaken seat rest s).members = s.members := by simp
  case numbers =>
    have hb' : memberNo (bodyByte (orderTaken seat rest s) seat 4) = none := by simpa using memberNo_none hb
    exact ⟨fun h => execOrder_refused h (by rw [hauth', doMemberWrite, hb']),
      fun h => execOrder_refused h (by rw [hauth', doMemberRemove, hb'])⟩
  all_goals
    have hb' : memberNo (bodyByte (orderTaken seat rest s) seat 4) = some m := by simpa using hb
    refine execOrder_refused h ((hauth' _).trans ?_)
  case field =>
    have hp' : parseMember (orderTaken seat rest s) seat = parseMember s seat := by simp
    rw [doMemberWrite, hb', hp']
    rcases hf with hf | ⟨f, hf, hz, hm⟩
    · rw [hf]
    · rw [hf]
      simp only [hmem, hz, hm]
      rfl
  all_goals rw [doMemberRemove, hb']
  all_goals simp only [hmem]
  case absent => rw [if_pos (by simp [hm])]
  case trustee => rw [if_neg (isNone_of_isSome hm), if_pos ⟨h0, by simpa using hs⟩]

end Sys2Proof.Machine

/-! O29: BEGIN_SERVICE and END_SERVICE (R177 to R179). -/

namespace Sys2Proof.Machine

/-- R11: a seat with no member and its SEAT notice alone. -/
structure SeatCleared (u : State) (x : SeatNo) (m : MemberNo) (cause : SeatCause) (stamp : BitVec 32) : Prop where
  vacant : u.seats[x].attachment = none
  sole   : u.seats[x].notices = [⟨.seat cause m, stamp⟩]

/-- R179: nobody holds the floor, and no queue change is considered. -/
structure Unserved (s u : State) : Prop where
  free    : stationFree u = true
  floor   : u.floor = s.floor
  pending : u.ident.pending = s.ident.pending
  stamp   : u.stamp = s.stamp
  ram     : u.ram = s.ram

section

variable {s t u : State} {x y seat : SeatNo} {m : MemberNo} {cause c : SeatCause} {rest : List SeatNo}

/-! ### The detachments of END_SERVICE -/

theorem detachSeat_other (c : SeatCause) (u : State) (h : x ≠ y) :
    (detachSeat y c u).seats[x].attachment = u.seats[x].attachment := by
  cases ha : attachedMember u y with
  | none => rw [detachSeat_vacant c ha]
  | some k => exact (detachSeat_others c ha).1 x h

theorem SeatCleared.detachSeat {stamp : BitVec 32} (h : SeatCleared u x m cause stamp) (y : SeatNo) (c : SeatCause) :
    SeatCleared (detachSeat y c u) x m cause stamp := by
  cases ha : attachedMember u y with
  | none => rwa [detachSeat_vacant c ha]
  | some k =>
    have hne : x ≠ y := by
      rintro rfl
      rw [attachedMember, h.vacant] at ha
      cases ha
    have hr := vacated_record y k c u x
    rw [if_neg hne] at hr
    have hm := floorDetached_moves y c.endCause (vacated y k c u)
    have hv : (vacated y k c u).seats[x].attachment = none := by rw [hr]; exact h.vacant
    rw [detachSeat_attached c ha]
    exact ⟨(hm.seatsKept.attachment x).trans hv, (hm.vacant hv).trans (by rw [hr]; exact h.sole)⟩

theorem seatCleared_of_detach (ha : attachedMember u x = some m) :
    SeatCleared (detachSeat x cause u) x m cause u.stamp := by
  have hr := vacated_record x m cause u x
  rw [if_pos rfl] at hr
  have hm := floorDetached_moves x cause.endCause (vacated x m cause u)
  have hv : (vacated x m cause u).seats[x].attachment = none := by rw [hr]
  rw [detachSeat_attached cause ha]
  exact ⟨(hm.seatsKept.attachment x).trans hv, (hm.vacant hv).trans (by rw [hr])⟩

theorem Moves.seatCleared {stamp : BitVec 32} (hm : Moves u t) (h : SeatCleared u x m cause stamp) :
    SeatCleared t x m cause stamp :=
  ⟨(hm.seatsKept.attachment x).trans h.vacant, (hm.vacant h.vacant).trans h.sole⟩

/-- R62, R179: with the station free and nobody holding it, the floor acts on a detachment by the queue alone. -/
theorem Unserved.detachSeat (h : Unserved s u) (hh : s.floor.holder = none) (y : SeatNo) (c : SeatCause) :
    Unserved s (detachSeat y c u) := by
  have hhu : u.floor.holder = none := by rw [h.floor, hh]
  obtain ⟨hf, hfl⟩ := detachSeat_floor_of_free (seat := y) (cause := c) h.free hhu
  cases ha : attachedMember u y with
  | none => rwa [detachSeat_vacant c ha]
  | some k =>
    have hn : ¬ holderSeat (vacated y k c u) = some y := by simp [holderSeat, hhu]
    have hd : Machine.detachSeat y c u = vacated y k c u
        ∨ ∃ e, Machine.detachSeat y c u = endEntry c.endCause .none e (vacated y k c u) := by
      rw [detachSeat_attached c ha, floorDetached, if_neg hn]
      split
      · next e he =>
        have hp : u.floor.state.panel = true := by
          have hfree := h.free
          simp only [stationFree, Bool.or_eq_true, Bool.and_eq_true, beq_iff_eq] at hfree
          refine hfree.resolve_left fun ⟨_, hq⟩ => ?_
          simp [List.isEmpty_iff.1 hq] at he
        refine .inr ⟨e, queueChanged_away ?_ ?_⟩
        all_goals
          have hfe : (endEntry c.endCause .none e (vacated y k c u)).floor = u.floor := by simp
          rw [hfe]
          intro e'
          rw [e'] at hp
          cases hp
      · exact .inl rfl
    refine ⟨hf, hfl.trans h.floor, ?_, ?_, ?_⟩
    all_goals rcases hd with hd | ⟨e, hd⟩
    all_goals
      rw [hd]
      simp [vacated, h.pending, h.stamp, h.ram]

theorem attachedMember_none : attachedMember u x = none ↔ u.seats[x].attachment = none := by
  simp [attachedMember]

/-- R179: what one step of the detachments does. -/
abbrev detachUnless (issuer : SeatNo) (u : State) (y : SeatNo) : State :=
  if y = issuer then u else detachSeat y .serviceEnd u

theorem SeatCleared.detachAll {stamp : BitVec 32} (h : SeatCleared u x m cause stamp) (issuer : SeatNo)
    (l : List SeatNo) : SeatCleared (l.foldl (detachUnless issuer) u) x m cause stamp := by
  induction l generalizing u with
  | nil => exact h
  | cons y rest ih =>
    refine ih ?_
    unfold detachUnless
    split
    · exact h
    · exact h.detachSeat y _

theorem detachAll_other (issuer : SeatNo) (l : List SeatNo) (u : State) (h : x = issuer ∨ x ∉ l) :
    (l.foldl (detachUnless issuer) u).seats[x].attachment = u.seats[x].attachment := by
  induction l generalizing u with
  | nil => rfl
  | cons y rest ih =>
    refine (ih (detachUnless issuer u y) (h.imp_right fun hn => mt (List.mem_cons_of_mem y) hn)).trans ?_
    unfold detachUnless
    split
    · rfl
    · next hy =>
      refine detachSeat_other _ u ?_
      rintro rfl
      exact (h.resolve_left hy) List.mem_cons_self

theorem detachAll_cleared {issuer : SeatNo} {l : List SeatNo} (hx : x ≠ issuer) (hl : x ∈ l)
    (ha : attachedMember u x = some m) :
    SeatCleared (l.foldl (detachUnless issuer) u) x m .serviceEnd u.stamp := by
  induction l generalizing u with
  | nil => cases hl
  | cons y rest ih =>
    by_cases hy : x = y
    · subst hy
      rw [List.foldl_cons, detachUnless, if_neg hx]
      exact (seatCleared_of_detach ha).detachAll issuer rest
    · have hstep : attachedMember (detachUnless issuer u y) x = some m ∧ (detachUnless issuer u y).stamp = u.stamp := by
        unfold detachUnless
        split
        · exact ⟨ha, rfl⟩
        · refine ⟨?_, by simp⟩
          rw [attachedMember, detachSeat_other _ u hy]
          exact ha
      have := ih ((List.mem_cons.1 hl).resolve_left hy) hstep.1
      rwa [hstep.2] at this

theorem detachAll_vacant {issuer : SeatNo} {l : List SeatNo} (ha : u.seats[x].attachment = none) :
    (l.foldl (detachUnless issuer) u).seats[x].attachment = none := by
  induction l generalizing u with
  | nil => exact ha
  | cons y rest ih =>
    refine ih ?_
    unfold detachUnless
    split
    · exact ha
    · by_cases hy : x = y
      · subst hy
        rwa [detachSeat_vacant _ (attachedMember_none.2 ha)]
      · rwa [detachSeat_other _ u hy]

/-- R179: the records behind the detachments. -/
theorem detachOthers_records (issuer : SeatNo) (u : State) :
    (∀ x m, x ≠ issuer → attachedMember u x = some m →
        SeatCleared (detachOthers issuer u) x m .serviceEnd u.stamp)
      ∧ (∀ x : SeatNo, x ≠ issuer → (detachOthers issuer u).seats[x].attachment = none)
      ∧ (detachOthers issuer u).seats[issuer].attachment = u.seats[issuer].attachment := by
  have hd : detachOthers issuer u = (List.finRange 12).foldl (detachUnless issuer) u := rfl
  rw [hd]
  refine ⟨fun x m hx ha => detachAll_cleared hx (List.mem_finRange x) ha, fun x hx => ?_,
    detachAll_other issuer _ u (.inl rfl)⟩
  cases ha : attachedMember u x with
  | none => exact detachAll_vacant (attachedMember_none.1 ha)
  | some m => exact (detachAll_cleared hx (List.mem_finRange x) ha).vacant

/-- R179: END_SERVICE empties the queue and stands IDLE. -/
theorem endService_facts (hf : stationFree u = true) (hh : u.floor.holder = none) (hp : u.ident.pending = false) :
    (endService seat u).mode = .configuring ∧ (endService seat u).floor.state = .idle
      ∧ (endService seat u).floor.holder = none ∧ (endService seat u).queue = []
      ∧ (endService seat u).ram = u.ram ∧ (endService seat u).handovers = u.handovers
      ∧ (∀ x m stamp, SeatCleared (detachOthers seat u) x m .serviceEnd stamp →
          SeatCleared (endService seat u) x m .serviceEnd stamp)
      ∧ ∀ x : SeatNo, (endService seat u).seats[x].attachment = (detachOthers seat u).seats[x].attachment := by
  have hun : Unserved u (detachOthers seat u) :=
    detachOthers_induct (P := Unserved u) (fun y _ h => h.detachSeat hh y _) ⟨hf, rfl, rfl, rfl, rfl⟩
  have hho : (detachOthers seat u).handovers = u.handovers :=
    detachOthers_induct (P := fun v => v.handovers = u.handovers) (fun y v h => by simpa using h) rfl
  unfold endService
  dsimp only
  generalize detachOthers seat u = v at *
  have hm := endEntries_moves .serviceEnd v.queue v
  have hq := endEntries_queue .serviceEnd (s := v) rfl
  have hfl : (endEntries .serviceEnd v.queue v).floor = v.floor := by simp
  have hpe : (endEntries .serviceEnd v.queue v).ident = v.ident := by simp
  have hra : (endEntries .serviceEnd v.queue v).ram = v.ram := by simp
  have hhe : (endEntries .serviceEnd v.queue v).handovers = v.handovers := by simp
  generalize endEntries .serviceEnd v.queue v = w at *
  have hwh : w.floor.holder = none := by rw [hfl, hun.floor, hh]
  split
  · next hi =>
    exact ⟨rfl, hi, hwh, hq, hra.trans hun.ram, hhe.trans hho, fun x m stamp hc =>
      ⟨(hm.seatCleared hc).vacant, (hm.seatCleared hc).sole⟩, fun x => hm.seatsKept.attachment x⟩
  · obtain ⟨h1, h2, -, h4⟩ := enterIdle_empty hq hwh
    have hs : Moves (setFloorState .idle w) (enterIdle w) := serve_moves (.inl (by simp))
    have hc (x : SeatNo) : (enterIdle w).seats[x].attachment = w.seats[x].attachment :=
      (hs.seatsKept.attachment x).trans ((setFloorState_seatsKept .idle w).attachment x)
    refine ⟨rfl, h4 (by rw [hpe, hun.pending, hp]), h2, h1, ?_, ?_, fun x m stamp hcl => ?_,
      fun x => (hc x).trans (hm.seatsKept.attachment x)⟩
    · simp [hra, hun.ram]
    · simp [hhe, hho]
    · have hw := hm.seatCleared hcl
      have hi : SeatCleared (setFloorState .idle w) x m .serviceEnd stamp :=
        ⟨((setFloorState_seatsKept .idle w).attachment x).trans hw.vacant,
          (setFloorState_vacant .idle hw.vacant).trans hw.sole⟩
      obtain ⟨h5, h6⟩ := hs.seatCleared hi
      exact ⟨h5, h6⟩

theorem stationComplete_iff : stationComplete u = true ↔ u.members[(0 : MemberNo)].isSome = true
    ∧ u.station.callsign ≠ [] ∧ ∃ i : SlotNo, u.plan[i].isSome = true := by
  have hp : (!(presentSegments u.plan).isEmpty) = true ↔ ∃ i : SlotNo, u.plan[i].isSome = true := by
    rw [Bool.not_eq_true', List.isEmpty_eq_false_iff]
    constructor
    · intro hn
      obtain ⟨y, hy⟩ := List.exists_mem_of_ne_nil _ hn
      exact ⟨y.1, by rw [mem_presentSegments.1 hy]; rfl⟩
    · rintro ⟨i, hi⟩ hn
      obtain ⟨g, hg⟩ := Option.isSome_iff_exists.1 hi
      have : (i, g) ∈ presentSegments u.plan := mem_presentSegments.2 hg
      rw [hn] at this
      cases this
  rw [stationComplete, Bool.and_eq_true, Bool.and_eq_true, hp]
  simp [and_assoc]

end

/-- Settles O29: the checks in turn, the change of mode, and the seats that END_SERVICE detaches. -/
theorem serviceBeginsAndEnds : Obligations.ServiceBeginsAndEnds := by
  unfold Obligations.ServiceBeginsAndEnds
  intro s seat rest hauth
  have hauth' (c : SeatNo → State → State × Reply) : withAuthority c seat (orderTaken seat rest s)
      = c seat (orderTaken seat rest s) := withAuthority_of_authority (by simpa using hauth)
  have hcomplete : stationComplete (orderTaken seat rest s) = stationComplete s := by simp [stationComplete]
  refine ⟨fun h hm h0 hc hp => ?begins, fun h hm => ?running, fun h hm hc => ?incomplete, fun h hm => ?notServing,
    fun h hm hf => ?busy, fun h hm hf hw hil hl => ?ends⟩
  case begins =>
    have hd : withAuthority doBeginService seat (orderTaken seat rest s)
        = ((orderTaken seat rest s).withMode .serving, plain .done) := by
      rw [hauth', doBeginService, if_neg (by simp [hm]), if_neg]
      rw [hcomplete, stationComplete_iff.2 ⟨h0, hc, hp⟩]
      simp
    exact execOrder_gives h hd (by simp) ⟨by simp, by simp, by simp, orderClosed_answered seat _ (by simp)⟩
  case running =>
    refine execOrder_refused h ((hauth' _).trans ?_)
    rw [doBeginService, if_pos (by simp [hm])]
  case incomplete =>
    refine execOrder_refused h ((hauth' _).trans ?_)
    rw [doBeginService, if_neg (by simp [hm]), if_pos]
    rw [hcomplete, Bool.not_eq_true', Bool.eq_false_iff, ne_eq, stationComplete_iff]
    rintro ⟨h1, h2, i, h3⟩
    rcases hc with hc | hc | hc
    · rw [hc] at h1
      cases h1
    · exact h2 hc
    · rw [hc i] at h3
      cases h3
  case notServing =>
    refine execOrder_refused h ((hauth' _).trans ?_)
    rw [doEndService, if_pos (by simp [hm])]
  case busy =>
    refine execOrder_refused h ((hauth' _).trans ?_)
    have hfo : stationFree (orderTaken seat rest s) = stationFree s := by simp [stationFree]
    rw [doEndService, if_neg (by simp [hm]), hfo]
    by_cases hsf : stationFree s = false
    · rw [if_pos hsf]
    · rw [if_neg hsf, if_pos (by simpa using hf.resolve_left hsf)]
  case ends =>
    have hh := hl.holder_of_free hf
    have hpen : s.ident.pending = false := by
      by_contra hp
      have := hil.pending_window (by simpa using hp)
      rw [hw] at this
      cases this
    have hfo : stationFree (orderTaken seat rest s) = true := by simpa [stationFree] using hf
    have hd : withAuthority doEndService seat (orderTaken seat rest s)
        = (endService seat (orderTaken seat rest s), ⟨.done, []⟩) := by
      rw [hauth', doEndService, if_neg (by simp [hm]), if_neg (by simp [hfo]), if_neg (by simpa using hw)]
      rfl
    obtain ⟨h1, h2, h3, h4, h5, h6, h7, h8⟩ := endService_facts (seat := seat) hfo (by simpa using hh)
      (by simpa using hpen)
    obtain ⟨hcl, hvac, hown⟩ := detachOthers_records seat (orderTaken seat rest s)
    have hst : (orderTaken seat rest s).stamp = s.stamp := by simp
    have hra : (orderTaken seat rest s).ram = s.ram := by simp
    refine execOrder_acts h hd ?_
    have hal := answering seat (answerWith s seat .done []) (endService seat (orderTaken seat rest s))
    have hans := order_answered (s := s) (d := endService seat (orderTaken seat rest s)) seat
      (answerWith s seat .done []) (h5.trans hra)
    obtain ⟨hatt, -, hho⟩ := acted_records s (placeAnswer seat (answerWith s seat .done [])
      (endService seat (orderTaken seat rest s)))
    generalize placeAnswer seat (answerWith s seat .done []) (endService seat (orderTaken seat rest s)) = d at *
    have hfin : finishSetup s d = d := finishSetup_notSetting (by simp [hal.floor, h2])
    have hx (x : SeatNo) (hne : x ≠ seat) : d.seats[x].attachment = none := by
      rw [hal.attached, h8, hvac x hne]
    refine ⟨by rw [hho, hal.handovers, h6]; simp, by simp [hfin, hal.mode, h1], by simp [hfin, hal.floor, h2],
      by simp [hfin, hal.queue, h4], fun x hne => (hatt x).trans (hx x hne), fun x m hne ha => ?_, ?_, hans⟩
    · obtain ⟨-, hs⟩ := h7 x m _ (hcl x m hne (by rw [attachedMember_orderTaken, ha]))
      have hleft : Left s d x m .serviceEnd :=
        ⟨hx x hne, by rw [hal.notices, hs, hst], by simp [partHeld, hal.ram],
          ⟨by simp [hal.floor, h3], by simp [hal.queue, h4]⟩, fun y hy => by rw [hh] at hy; cases hy⟩
      exact hleft.close
    · rw [attachedMember, hatt, hal.attached, h8, hown, orderTaken_attachment, renewedAt_member]

end Sys2Proof.Machine

/-! SUPPORT. A transaction's outcome and its owner (R153): what stays of the bus, and the turn a setup item's
failure ends (R49, R60). -/

namespace Sys2Proof.Machine

/-! ### What stays of the bus -/

/-- What the floor and the keying unit leave of the bus: the engine, what is believed and the pass-through work;
and they put no transaction in flight. -/
structure BusStood (s t : State) : Prop where
  believed : t.bus.believed = s.bus.believed
  engine   : Kept s t .engine
  cells    : t.bus.cellWork = s.bus.cellWork
  flight   : s.bus.inFlight = none → t.bus.inFlight = none

section

variable {s t u : State}

theorem OffBus.stood (h : OffBus s t) : BusStood s t := ⟨h.believed, h.engine, h.cells, h.flight⟩

theorem BusStood.refl (s : State) : BusStood s s := (OffBus.refl s).stood

theorem BusStood.trans (h : BusStood s t) (h' : BusStood t u) : BusStood s u :=
  ⟨h'.believed.trans h.believed, h.engine.trans h'.engine, h'.cells.trans h.cells, fun e => h'.flight (h.flight e)⟩

theorem BusStood.of_bus (hb : t.bus = s.bus) : BusStood s t :=
  ⟨by rw [hb], engineKept_of_work (by rw [hb]), by rw [hb], by rw [hb]; exact id⟩

theorem equipmentReport_stood (d : EquipDetail) (s : State) : BusStood s (equipmentReport d s) := by
  unfold equipmentReport
  split
  · exact (endTurn_offBus ..).stood
  · exact .refl s

theorem noStatusReport_stood (s : State) : BusStood s (noStatusReport s) :=
  (BusStood.of_bus (s := s) (t := s.withKeying { s.keying with failures := 0 }) rfl).trans
    (equipmentReport_stood .noStatus _)

theorem pollFailed_stood (s : State) : BusStood s (pollFailed s) := by
  unfold pollFailed
  split
  · exact noStatusReport_stood s
  · exact .of_bus rfl

theorem pollFault_stood (s : State) : BusStood s (pollFault s) := by
  have hu : BusStood (ampOutOfService s)
      (if (ampOutOfService s).bus.believed.amp = some .operate then unkey (ampOutOfService s)
        else ampOutOfService s) := by
    split
    · exact (unkey_offBus _).stood
    · exact .refl _
  exact ((ampOutOfService_offBus s).stood.trans hu).trans (equipmentReport_stood ..)

theorem pollAnswered_stood (fault swr : Byte) (s : State) : BusStood s (pollAnswered fault swr s) := by
  have hz : BusStood s (s.withKeying { s.keying with failures := 0 }) := .of_bus rfl
  unfold pollAnswered
  refine hz.trans ?_
  simp only
  split
  · exact pollFault_stood _
  · split
    · exact equipmentReport_stood ..
    · exact .refl _

theorem pollReport_stood (o : TxnOutcome) (reply : List Byte) (s : State) : BusStood s (pollReport o reply s) := by
  unfold pollReport
  split
  · split
    · exact pollAnswered_stood ..
    · exact pollFailed_stood s
  · exact pollFailed_stood s

theorem setupReport_stood (item : SetupItem) (o : TxnOutcome) (s : State) : BusStood s (setupReport item o s) := by
  unfold setupReport
  split
  · split
    · split
      · exact (setupComplete_offBus s).stood
      · exact .refl s
    · exact (endTurn_offBus ..).stood
  · exact .refl s

/-- R153: no owner changes what an outcome has left of the bus. -/
theorem reportOutcome_stood (x : Txn) (o : TxnOutcome) (reply : List Byte) (s : State) :
    BusStood s (reportOutcome x o reply s) := by
  unfold reportOutcome
  split
  · exact setupReport_stood ..
  · exact .refl s
  · exact .refl s
  · exact pollReport_stood ..
  · exact .of_bus (by simp)

/-! ### The outcome -/

/-- R153, R155: a transaction is off the list, and the believed setting is updated. -/
def offList (x : Txn) (o : TxnOutcome) (s : State) : State :=
  setBelieved (s.bus.believed.after s.station x.message o) (s.withBus { s.bus with inFlight := none })

theorem finishTxn_eq (x : Txn) (o : TxnOutcome) (reply : List Byte) (s : State) :
    finishTxn x o reply s = reportOutcome x o reply (offList x o s) := rfl

/-- R153, R155: behind an outcome the engine is as it was, nothing is in flight, and the believed setting is that
of the outcome. -/
structure Outcome (s t : State) (x : Txn) (o : TxnOutcome) : Prop where
  believed : t.bus.believed = s.bus.believed.after s.station x.message o
  engine   : Kept s t .engine
  cells    : t.bus.cellWork = s.bus.cellWork
  flight   : t.bus.inFlight = none

theorem Outcome.stood {x : Txn} {o : TxnOutcome} (h : Outcome s t x o) (h' : BusStood t u) : Outcome s u x o :=
  ⟨h'.believed.trans h.believed, h.engine.trans h'.engine, h'.cells.trans h.cells, h'.flight h.flight⟩

theorem finishTxn_outcome (x : Txn) (o : TxnOutcome) (reply : List Byte) (s : State) :
    Outcome s (finishTxn x o reply s) x o := by
  have h : Outcome s (offList x o s) x o := ⟨rfl, engineKept_of_work rfl, rfl, rfl⟩
  exact h.stood (reportOutcome_stood x o reply _)

/-- An outcome, to the close of its act. -/
theorem Outcome.close {x : Txn} {o : TxnOutcome} (h : Outcome s t x o) (before : State) :
    Outcome s (closeAct before (finishSetup before t)) x o :=
  h.stood ((finishSetup_offBus before t).stood.trans (closeAct_offBus before _).stood)

end

/-! ### A setup item that fails (R49, R60) -/

/-- R60, R155: the state against which a turn ends whose setup item has failed: what is believed of the amplifier
is unknown where it was the amplifier's item. -/
def failing (item : SetupItem) (s : State) : State :=
  if item = .ampStandby ∨ item = .ampOperate then
    s.withBus { s.bus with believed := { s.bus.believed with amp := none } }
  else s

theorem setupFailed_iff {s t : State} {h : Holder} {item : SetupItem} :
    SetupFailed s t h item ↔ EndedToIdle (failing item s) t h .setupFailed (.item item) := Iff.rfl

section

variable {s : State} {h : Holder}

@[simp] theorem failing_frame (item : SetupItem) (s : State) :
    (failing item s).floor = s.floor ∧ (failing item s).queue = s.queue ∧ (failing item s).seats = s.seats
      ∧ (failing item s).station = s.station ∧ (failing item s).stamp = s.stamp ∧ (failing item s).ram = s.ram
      ∧ (failing item s).ident = s.ident := by
  unfold failing
  split <;> simp

theorem setupItem_of {m : Message} {item : SetupItem} (h : IsItem m item) : m.setupItem = item := by
  cases item with
  | ampStandby => cases h; rfl
  | antenna => obtain ⟨p, rfl⟩ := h; rfl
  | frequency => obtain ⟨f, mode, rfl⟩ := h; rfl
  | drive => obtain ⟨w, rfl⟩ := h; rfl
  | ampOperate => cases h; rfl

/-- R155: a failed setup item leaves of the amplifier what `failing` says. -/
theorem after_failing {s : State} {m : Message} {item : SetupItem} {o : TxnOutcome} (h : IsItem m item)
    (ho : o ≠ .done) :
    (s.bus.believed.after s.station m o).amp = (failing item s).bus.believed.amp := by
  cases item with
  | ampStandby => cases h; simp [Believed.after, failing, ho]
  | antenna => obtain ⟨p, rfl⟩ := h; simp [Believed.after, failing]
  | frequency => obtain ⟨f, mode, rfl⟩ := h; simp [Believed.after, failing]
  | drive => obtain ⟨w, rfl⟩ := h; simp [Believed.after, failing]
  | ampOperate => cases h; simp [Believed.after, failing, ho]

/-- A turn that has ended, its seat told, with the floor standing IDLE where nobody waits. -/
structure TurnFell (s d : State) (h : Holder) (cause : EndCause) (detail : EndDetail) : Prop where
  told : TurnTold s d h cause detail
  idle : StoodIdle s d

theorem TurnFell.finishSetup {d : State} {c : EndCause} {x : EndDetail} (hf : TurnFell s d h c x) (before : State) :
    TurnFell s (finishSetup before d) h c x where
  told := finishSetup_empty (P := fun t => TurnTold s t h c x) hf.told fun _ he ht => ht.setUp he
  idle := ⟨fun e e' => by
    have hi := hf.idle.idle e e'
    rw [finishSetup_notSetting (by simp [hi.1])]
    exact hi⟩

/-- An end of a turn is not told by the engine's own fields. -/
theorem TurnFell.withBus {d : State} {c : EndCause} {x : EndDetail} {b : Bus} (hf : TurnFell s d h c x)
    (hw : b.floorWork = d.bus.floorWork) (hi : b.inFlight = d.bus.inFlight) :
    TurnFell s (d.withBus b) h c x :=
  ⟨hf.told.of_eq rfl rfl hw hi rfl rfl rfl, ⟨hf.idle.idle⟩⟩

theorem TurnFell.close {d : State} {c : EndCause} {x : EndDetail} (hf : TurnFell s d h c x) (before : State) :
    EndedToIdle s (closeAct before d) h c x :=
  { hf.told.atClose before with
    idle := fun e e' => by
      have hi := hf.idle.idle e e'
      rwa [← closeAct_floor before d] at hi }

/-- R49, R60, R61: the failure of a turn's setup item ends the turn SETUP_FAILED. -/
theorem finishTxn_fell {x : Txn} {item : SetupItem} {o : TxnOutcome} {b : Bus} (reply : List Byte)
    (hl : FloorLaw s) (hb : b.believed = s.bus.believed) (hi : IsItem x.message item) (ho : x.owner = .setup)
    (hs : s.floor.state = .setting) (hh : s.floor.holder = some h) (hn : o ≠ .done) :
    TurnFell (failing item s) (finishTxn x o reply (s.withBus b)) h .setupFailed (.item item) := by
  have hd : finishTxn x o reply (s.withBus b)
      = endTurn .setupFailed (.item item) (offList x o (s.withBus b)) := by
    rw [finishTxn_eq, reportOutcome, ho]
    simp only
    rw [setupReport, if_pos (show (offList x o (s.withBus b)).floor.state = .setting from hs), if_neg hn,
      setupItem_of hi]
  have hl' : FloorLaw (failing item s) := hl.of_eq (by simp) (by simp) (by simp)
  have hy : TurnYet (failing item s) (offList x o (s.withBus b)) h := by
    refine .of_keying hl' (by simpa using hh) ?_ ?_ ?_ ?_ ?_ ?_ ?_
    case refine_5 =>
      rw [← after_failing hi hn, ← hb]
      rfl
    all_goals simp [offList, setBelieved]
  rw [hd]
  exact ⟨hy.told _ _, endTurn_stoodIdle _ _ (by simp [offList, setBelieved]) (by simp [offList, setBelieved])⟩

end

end Sys2Proof.Machine

/-! O45: the end of an attempt (R145, R152, R153, R155). -/

namespace Sys2Proof.Machine

variable {s t : State}

/-! ### A bus cell that comes back (R158) -/

/-- A set bit of SUMMARY stays set. -/
def SummaryKept (s t : State) : Prop :=
  ∀ i, s.port.summary.getLsbD i = true → t.port.summary.getLsbD i = true

theorem setSummary_summaryKept (bit : Nat) (s : State) : SummaryKept s (setSummary bit s) := fun i h => by
  show (s.port.summary ||| _).getLsbD i = true
  rw [BitVec.getLsbD_or, h, Bool.true_or]

theorem SummaryKept.of_port (h : t.port = s.port) : SummaryKept s t := fun i hi => by rwa [h]

theorem SummaryKept.trans {u : State} (h : SummaryKept s t) (h' : SummaryKept t u) : SummaryKept s u :=
  fun i hi => h' i (h i hi)

theorem composeReports_summaryKept (s : State) : SummaryKept s (composeReports s) := by
  unfold composeReports
  generalize List.finRange 12 = l
  induction l generalizing s with
  | nil => exact .of_port rfl
  | cons x rest ih =>
    refine SummaryKept.trans ?_ (ih (composeReport x s))
    unfold composeReport
    split
    · intro i hi
      rw [writeReport_port, BitVec.getLsbD_or, hi, Bool.true_or]
    · exact .of_port rfl

/-- R163: the close of an act sets bits of SUMMARY and clears none. -/
theorem closeAct_summaryKept (before s : State) : SummaryKept s (closeAct before s) := by
  have hl : SummaryKept s (settleLines (settlePoll (settleClosing before s))) := .of_port (by simp)
  have hb : SummaryKept (settleLines (settlePoll (settleClosing before s)))
      (settleBoard before (settleLines (settlePoll (settleClosing before s)))) := by
    unfold settleBoard
    split
    · exact .of_port rfl
    · exact setSummary_summaryKept 13 _
  exact (hl.trans hb).trans (composeReports_summaryKept _)

/-- R158: a bus cell has come back with a result and no reply. -/
structure CellBack (t : State) (n : BusCellNo) (code : Byte) : Prop where
  back    : partHeld t (.bus n) = false
  bytes   : cellBytes t (.bus n) 36 2 = [code, 0]
  summary : t.port.summary.getLsbD 12 = true

theorem returnBusCell_back (n : BusCellNo) (r : CellResult) (s : State) :
    CellBack (returnBusCell n r [] s) n (byteOf r.code) := by
  have hram : (returnBusCell n r [] s).ram
      = (writeHandover (.bus n) 0 (writeCell (.bus n) 36 [byteOf r.code, 0] s)).ram := rfl
  refine ⟨?_, ?_, ?_⟩
  · rw [partHeld, hram]
    exact partHeld_writeHandover_same (.bus n) 0 _
  · rw [cellBytes, hram]
    exact (cellBytes_writeHandover (i := 36) (k := 2) 0 _ (by decide)).trans
      (Memory.readBlock_writeBlock_same (bytes := [byteOf r.code, 0]))
  · show ((s.port.summary ||| BitVec.ofNat 16 (2 ^ 12)).getLsbD 12) = true
    rw [BitVec.getLsbD_or, show (BitVec.ofNat 16 (2 ^ 12)).getLsbD 12 = true by decide, Bool.or_true]

theorem CellBack.of_eq {n : BusCellNo} {code : Byte} (h : CellBack s n code) (hr : t.ram = s.ram)
    (hp : t.port = s.port) : CellBack t n code :=
  ⟨by rw [partHeld, hr]; exact h.back, by rw [cellBytes, hr]; exact h.bytes, by rw [hp]; exact h.summary⟩

/-- R167: a report is written outside the bus cells. -/
theorem not_reportWrites_bus (n : BusCellNo) {i : Nat} (hi : i < 256) :
    ¬ reportWrites ((CellRef.bus n).base + i) := by
  have hn := n.isLt
  rintro (⟨x, hl, -⟩ | ⟨x, hx⟩)
  · simp only [CellRef.base, seatArea] at hl
    omega
  · simp only [CellRef.handoverAddress, CellRef.base, CellRef.size, seatArea] at hx
    omega

theorem CellBack.close {n : BusCellNo} {code : Byte} (h : CellBack s n code) (before : State) :
    CellBack (closeAct before s) n code := by
  have hk (i : Nat) (hi : i < 256) : Memory.read (closeAct before s).ram ((CellRef.bus n).base + i)
      = Memory.read s.ram ((CellRef.bus n).base + i) :=
    (closeAct_reportsKept before s).reads _ (not_reportWrites_bus n hi)
  refine ⟨?_, ?_, closeAct_summaryKept before s 12 h.summary⟩
  · have := h.back
    rw [partHeld, CellRef.handoverAddress_eq] at this ⊢
    rwa [hk _ (by simp [CellRef.size])]
  · rw [← h.bytes]
    apply List.ext_getElem (by simp [cellBytes])
    intro i hi hi'
    have hlt : i < 2 := by simpa [cellBytes] using hi
    simp only [cellBytes, Memory.readBlock_getElem, Nat.add_assoc]
    exact hk _ (by omega)

/-- R153, R158: the outcome of a pass-through transaction goes to its bus cell, without a reply where it failed or
was a command. -/
theorem finishTxn_back {x : Txn} {n : BusCellNo} {o : TxnOutcome} {reply : List Byte} (s : State)
    (hx : x.owner = .cell n) (hq : o = .done → x.message.isQuery = false) :
    CellBack (finishTxn x o reply s) n (byteOf o.cellResult.code)
      ∧ (finishTxn x o reply s).floor = s.floor := by
  have hr : (if o = .done ∧ x.message.isQuery then reply else []) = [] :=
    if_neg fun h => by simp [hq h.1] at h
  have hd : finishTxn x o reply s = returnBusCell n o.cellResult [] (offList x o s) := by
    rw [finishTxn_eq, reportOutcome, hx]
    simp only [hr]
  rw [hd]
  exact ⟨returnBusCell_back .., by simp [offList, setBelieved]⟩

/-! ### An attempt of the transaction in flight -/

theorem attemptEnd_acknowledged {x : Txn} {reply : List Byte} {check : Byte} (ha : attempting s = some x) :
    attemptEnd (.acknowledged reply check) s
      = if attemptWrong s x reply check then attemptRefused x s else finishTxn x .done reply (sendClosing s) := by
  simp only [attemptEnd, ha]

theorem attemptEnd_noAcknowledge {x : Txn} (ha : attempting s = some x) :
    attemptEnd .noAcknowledge s = attemptRefused x s := by
  simp only [attemptEnd, ha]

theorem attemptEnd_lost {x : Txn} {other : List Byte} (ha : attempting s = some x) :
    attemptEnd (.lost other) s = attemptLost other x s := by
  simp only [attemptEnd, ha]

/-- R155: what a failed transaction would have set is unknown. -/
structure Unset (b t : Believed) (m : Message) : Prop where
  port  : ∀ p, m = .select p → t = { b with port := none }
  radio : ∀ f mode, m = .setFreq f mode → t = { b with freq := none, mode := none }
  drive : ∀ w, m = .setDrive w → t = { b with drive := none }
  amp   : m = .operate ∨ m = .standby → t = { b with amp := none }

theorem after_unset (station : StationRecord) (b : Believed) (m : Message) {o : TxnOutcome} (ho : o ≠ .done) :
    Unset b (b.after station m o) m where
  port p h := by subst h; simp [Believed.after, ho]
  radio f mode h := by subst h; simp [Believed.after, ho]
  drive w h := by subst h; simp [Believed.after, ho]
  amp h := by rcases h with rfl | rfl <;> simp [Believed.after, ho]

/-! ### Acknowledged -/

/-- R49: the done item of a turn's setup, with others waiting or as the last. -/
theorem finishTxn_setupDone {x : Txn} {g : Grant} (reply : List Byte) {u : State} (ho : x.owner = .setup)
    (hs : u.floor.state = .setting) (hg : u.floor.grant = some g) (ht : g.mode ≠ .tune) :
    finishTxn x .done reply u = if ∀ y ∈ u.bus.floorWork, y.owner ≠ .setup then enterGranted (offList x .done u)
      else offList x .done u := by
  have hd : setupDone (offList x .done u) = true ↔ ∀ y ∈ u.bus.floorWork, y.owner ≠ .setup := by
    simp [setupDone, offList, setBelieved]
  rw [finishTxn_eq, reportOutcome, ho]
  simp only
  rw [setupReport, if_pos (show (offList x .done u).floor.state = .setting from hs), if_pos rfl,
    setupComplete_granted (g := g) (by simpa [offList, setBelieved] using hg) ht]
  simp only [hd]

theorem acknowledged_gives {x : Txn} {reply : List Byte} {check : Byte} (hr : Running s)
    (ha : attempting s = some x) (hq : x.message.isQuery = false) (had : x.address ≠ s.station.ownAddress)
    {P : State → Prop}
    (hP : P (closeAct s (finishSetup s (finishTxn x .done reply (sendClosing s))))) :
    Gives (exec (.busAttemptEnd (.acknowledged reply check)) s) P :=
  gives_deed (exec_attemptEnd _ s) hr
    ((attemptEnd_acknowledged ha).trans (if_neg (by simp [attemptWrong, hq, had]))) hP

/-! ### Refused -/

theorem attemptRefused_again {x : Txn} (h : x.attempts < 3) : attemptRefused x s
    = (sendClosing s).withBus { (sendClosing s).bus with inFlight := some { x with attempts := x.attempts + 1 } } :=
  if_neg (by omega)

theorem attemptRefused_last {x : Txn} (h : 3 ≤ x.attempts) :
    attemptRefused x s = finishTxn x .noAck [] (sendClosing s) := if_pos (by omega)

theorem attemptWrong_of {x : Txn} {reply : List Byte} {check : Byte}
    (h : x.address = s.station.ownAddress ∨ x.message.isQuery = true ∧ x.replyRight reply check = false) :
    attemptWrong s x reply check = true := by
  rcases h with h | ⟨hq, hw⟩
  · simp [attemptWrong, h]
  · simp [attemptWrong, hq, hw]

/-! ### Lost -/

/-- R145: equal bytes decide nothing. -/
theorem lossAt_append (alike sent other : List Byte) :
    lossAt (alike ++ sent) (alike ++ other) = (lossAt sent other).map (· + alike.length) := by
  induction alike with
  | nil => simp
  | cons b alike ih =>
    rw [List.cons_append, List.cons_append, lossAt, if_pos rfl, ih, Option.map_map]
    congr 1

theorem lossAt_lower {mine theirs : Byte} (ours others : List Byte) (h : theirs.toNat < mine.toNat) :
    lossAt (mine :: ours) (theirs :: others) = some 0 := by
  rw [lossAt, if_neg (by rintro rfl; exact absurd h (lt_irrefl _)), if_pos h]

theorem lossAt_higher {mine theirs : Byte} (ours others : List Byte) (h : mine.toNat < theirs.toNat) :
    lossAt (mine :: ours) (theirs :: others) = none := by
  rw [lossAt, if_neg (by rintro rfl; exact absurd h (lt_irrefl _)), if_neg (by omega)]

theorem lossAt_end (sent : List Byte) : lossAt sent [] = none := by
  cases sent <;> rfl

/-- R145: a bus on which the part has heard the bytes of a winning frame: it follows the frame or listens, and the
STATE reply is formed. -/
structure TakesUp (u : State) (other : List Byte) (b : Bus) : Prop where
  flight   : b.inFlight = u.bus.inFlight
  floor    : b.floorWork = u.bus.floorWork
  cells    : b.cellWork = u.bus.cellWork
  believed : b.believed = u.bus.believed
  released : b.attemptOpen = false
  engine   : b.engine = if other.head?.any (accepts u.station) = true then .following else .listening
  reply    : other.head? = some (addressByteOf u.station.ownAddress true) →
    b.followed = some ⟨addressByteOf u.station.ownAddress true, stateReply u⟩

theorem hear_takesUp (other : List Byte) (u : State) :
    ∃ b, hear other.head? u = u.withBus b ∧ TakesUp u other b := by
  cases hf : other.head?.filter (accepts u.station) with
  | some a =>
    obtain ⟨ha, hacc⟩ : other.head? = some a ∧ accepts u.station a = true := by
      simpa [Option.filter_eq_some_iff] using hf
    have hh : hear other.head? u = u.withBus { u.bus with
        engine := .following, attemptOpen := false, hold := holdFor a u, followed := some (takeOn a u)
        unfollowed := none, acked := 1, closed := false } := by
      rw [hear, hf]
    have hany : other.head?.any (accepts u.station) = true := by rw [ha]; exact hacc
    refine ⟨_, hh, rfl, rfl, rfl, rfl, rfl, (if_pos hany).symm, fun h => ?_⟩
    obtain rfl : a = addressByteOf u.station.ownAddress true := Option.some.inj (ha.symm.trans h)
    simp [takeOn, addressByteOf_direction]
  | none =>
    have hany : ¬ other.head?.any (accepts u.station) = true := by
      intro h
      cases ho : other.head? with
      | none => simp [ho] at h
      | some a =>
        rw [ho, Option.any_some] at h
        simp [ho, Option.filter, h] at hf
    have hh : hear other.head? u = u.withBus { u.bus with
        engine := .listening, attemptOpen := false, hold := none, followed := none
        unfollowed := other.head?, acked := 0, closed := false } := by
      rw [hear, hf]
    exact ⟨_, hh, rfl, rfl, rfl, rfl, rfl, (if_neg hany).symm,
      fun h => absurd (by rw [h]; exact accepts_own u.station true) hany⟩

theorem takeUp_takesUp (k : Nat) (other : List Byte) (u : State) :
    ∃ b, takeUp k other u = u.withBus b ∧ TakesUp u other b := by
  obtain ⟨b, hb, h⟩ := hear_takesUp other u
  unfold takeUp
  rw [hb]
  simp only
  split
  · exact ⟨b, rfl, h⟩
  · exact ⟨{ b with hold := none }, rfl, h.flight, h.floor, h.cells, h.believed, h.released, h.engine, h.reply⟩

theorem emptySetup_withBus {before u : State} {b : Bus} (hf : b.floorWork = u.bus.floorWork)
    (hi : b.inFlight = u.bus.inFlight) (hb : b.believed = u.bus.believed) :
    emptySetup before (u.withBus b) = emptySetup before u := by
  simp [emptySetup, enteredSetting, maySetUp, nothingToPlace, floorOutstanding, passThroughOutstanding, hf, hi, hb]

/-- R150, R152: taken up behind the loss and what it has brought about, the winning frame changes the bus alone. -/
theorem takeUp_close {u : State} {before : State} (k : Nat) (other : List Byte) (hu : emptySetup before u = false) :
    ∃ b, finishSetup before (takeUp k other u) = u.withBus b ∧ TakesUp u other b := by
  obtain ⟨b, hb, ht⟩ := takeUp_takesUp k other u
  refine ⟨b, ?_, ht⟩
  have he : emptySetup before (u.withBus b) = false := by
    rw [emptySetup_withBus ht.floor ht.flight ht.believed, hu]
  simp [hb, finishSetup, finishSetups, he]

/-- R145: what the loss leaves: the bus is let go, and the winning frame followed or listened to. -/
structure LetGo (s t : State) (first : Option Byte) : Prop where
  released : t.bus.attemptOpen = false
  engine   : t.bus.engine = if first.any (accepts s.station) = true then .following else .listening
  reply    : first = some (addressByteOf s.station.ownAddress true) →
    t.bus.followed = some ⟨addressByteOf s.station.ownAddress true, stateReply t⟩

theorem TakesUp.letGo {u : State} {other : List Byte} {b : Bus} (h : TakesUp u other b) (hs : u.station = s.station)
    (before : State) : LetGo s (closeAct before (u.withBus b)) other.head? := by
  obtain ⟨he, ho, -, -, -, -, -, hf, -⟩ := closeAct_engine before (u.withBus b)
  have hr : stateReply (closeAct before (u.withBus b)) = stateReply u := by simp [stateReply]
  refine ⟨ho.trans h.released, he.trans (by rw [← hs]; exact h.engine), fun e => hf.trans ?_⟩
  rw [hr, ← hs]
  exact h.reply (by rw [hs]; exact e)

theorem attemptLost_at {x : Txn} {other : List Byte} {k : Nat} (h : lossAt x.sentBytes other = some k) :
    attemptLost other x s = takeUp k other (finishSetup s (countLoss x (hear none s))) := by
  rw [attemptLost, h]

theorem attemptLost_none {x : Txn} {other : List Byte} (h : lossAt x.sentBytes other = none) :
    attemptLost other x s = s := by
  rw [attemptLost, h]

/-- R145: with its frame lost the part listens. -/
theorem hear_none (s : State) : hear none s = s.withBus { s.bus with
    engine := .listening, attemptOpen := false, hold := none, followed := none, unfollowed := none, acked := 0
    closed := false } := rfl

/-- R152: a loss that is not the sixteenth is counted. -/
theorem lost_counts {x : Txn} {other : List Byte} {k : Nat} (hr : Running s) (ha : attempting s = some x)
    (hk : lossAt x.sentBytes other = some k) (hl : x.losses < 15) :
    Gives (exec (.busAttemptEnd (.lost other)) s) fun t => LetGo s t other.head?
      ∧ t.bus.inFlight = some { x with losses := x.losses + 1 }
      ∧ t.bus.believed = s.bus.believed ∧ t.floor = s.floor := by
  have hc : countLoss x (hear none s)
      = (hear none s).withBus { (hear none s).bus with inFlight := some { x with losses := x.losses + 1 } } :=
    if_neg (by omega)
  generalize hu : countLoss x (hear none s) = u at hc
  have hf : u.floor = s.floor ∧ u.station = s.station ∧ u.bus.believed = s.bus.believed
      ∧ u.bus.inFlight = some { x with losses := x.losses + 1 } := by
    rw [hc, hear_none]
    exact ⟨rfl, rfl, rfl, rfl⟩
  obtain ⟨hfloor, hst, hbel, hin⟩ := hf
  have hd : attemptEnd (.lost other) s = takeUp k other u := by
    rw [attemptEnd_lost ha, attemptLost_at hk, hu, finishSetup_kept (by rw [hfloor]) (by rw [hfloor])]
  refine gives_deed (exec_attemptEnd _ s) hr hd ?_
  obtain ⟨b, hb, ht⟩ := takeUp_close (u := u) (before := s) k other
    (by simp [emptySetup, enteredSetting, hfloor])
  rw [hb]
  obtain ⟨hw, -, -⟩ := closeAct_work s (u.withBus b)
  exact ⟨ht.letGo hst s, hw.trans (ht.flight.trans hin),
    (closeAct_believed ..).trans (ht.believed.trans hbel), (closeAct_floor ..).trans hfloor⟩

/-- R152: the sixteenth loss is the outcome LOST. -/
theorem lost_ends {x : Txn} {other : List Byte} {k : Nat} (hr : Running s) (ha : attempting s = some x)
    (hk : lossAt x.sentBytes other = some k) (hl : 15 ≤ x.losses) :
    Gives (exec (.busAttemptEnd (.lost other)) s) fun t => LetGo s t other.head?
      ∧ t.bus.inFlight = none ∧ Unset s.bus.believed t.bus.believed x.message
      ∧ (∀ item h, IsItem x.message item → x.owner = .setup → s.floor.state = .setting →
          s.floor.holder = some h → FloorLaw s → SetupFailed s t h item)
      ∧ (∀ n, x.owner = .cell n → CellBack t n 2) := by
  have hc : countLoss x (hear none s) = finishTxn x .lost [] (hear none s) := if_pos (by omega)
  obtain ⟨b₀, hb₀, hbel⟩ : ∃ b₀ : Bus, hear none s = s.withBus b₀ ∧ b₀.believed = s.bus.believed :=
    ⟨_, hear_none s, rfl⟩
  generalize hv : finishTxn x .lost [] (s.withBus b₀) = v
  have hd : attemptEnd (.lost other) s = takeUp k other (finishSetup s v) := by
    rw [attemptEnd_lost ha, attemptLost_at hk, hc, hb₀, hv]
  have ho : Outcome (s.withBus b₀) (finishSetup s v) x .lost := by
    rw [← hv]
    exact (finishTxn_outcome ..).stood (finishSetup_offBus ..).stood
  have hst : (finishSetup s v).station = s.station := by
    obtain ⟨-, -, -, -, -, -, h, -⟩ := (finishSetup_moves s v).frame
    obtain ⟨-, -, -, -, -, -, h', -⟩ := (reportOutcome_moves x .lost [] (offList x .lost (s.withBus b₀))).frame
    rw [h, ← hv]
    exact h'
  refine gives_deed (exec_attemptEnd _ s) hr hd ?_
  obtain ⟨b, hb, ht⟩ := takeUp_close (u := finishSetup s v) k other (finishSetup_done s v)
  rw [hb]
  obtain ⟨hw, -, -⟩ := closeAct_work s ((finishSetup s v).withBus b)
  refine ⟨ht.letGo hst s, hw.trans (ht.flight.trans ho.flight), ?_, ?_, ?_⟩
  · rw [closeAct_believed]
    have hbb : b.believed = s.bus.believed.after s.station x.message .lost := by
      rw [ht.believed, ho.believed, withBus_bus, hbel, withBus_station]
    exact hbb ▸ after_unset s.station s.bus.believed x.message (by simp)
  · intro item h hi hx hs hh hl
    have hfell := finishTxn_fell (o := .lost) (b := b₀) [] hl hbel hi hx hs hh (by simp)
    rw [hv] at hfell
    exact setupFailed_iff.2 (((hfell.finishSetup s).withBus ht.floor ht.flight).close s)
  · intro n hx
    obtain ⟨hcell, hfl⟩ := finishTxn_back (o := .lost) (reply := []) (s.withBus b₀) hx (by simp)
    rw [hv] at hcell hfl
    rw [finishSetup_kept (by rw [hfl]; rfl) (by rw [hfl]; rfl)]
    exact (hcell.of_eq (t := v.withBus b) rfl rfl).close s

/-! ### The obligation -/

theorem head?_append_cons (alike others : List Byte) (theirs : Byte) :
    (alike ++ theirs :: others).head? = (alike ++ [theirs]).head? := by
  cases alike <;> rfl

theorem acknowledged_ends {x : Txn} {reply : List Byte} {check : Byte} (hr : Running s)
    (ha : attempting s = some x) (hq : x.message.isQuery = false) (had : x.address ≠ s.station.ownAddress) :
    Gives (exec (.busAttemptEnd (.acknowledged reply check)) s) fun t =>
      t.bus.inFlight = none ∧ t.bus.attemptOpen = false
        ∧ t.bus.believed = s.bus.believed.after s.station x.message .done
        ∧ (∀ g : Grant, x.owner = .setup → s.floor.state = .setting → s.floor.grant = some g → g.mode ≠ .tune →
            if ∀ y ∈ s.bus.floorWork, y.owner ≠ .setup then
              t.floor.state = .granted ∧ t.floor.startWait = some (s.station.startWait * 1000)
            else t.floor = s.floor)
        ∧ (∀ n, x.owner = .cell n → CellBack t n 0) := by
  refine acknowledged_gives hr ha hq had ?_
  have ho := (finishTxn_outcome x .done reply (sendClosing s)).close s
  refine ⟨ho.flight, ho.engine.2.1, ho.believed, fun g hx hs hg ht => ?_, fun n hx => ?_⟩
  · rw [finishTxn_setupDone reply hx (u := sendClosing s) hs hg ht]
    have hw : (sendClosing s).bus.floorWork = s.bus.floorWork := rfl
    rw [hw]
    split
    · rw [finishSetup_notSetting (by simp [enterGranted_floor]), closeAct_floor, enterGranted_floor]
      exact ⟨rfl, by simp [offList, setBelieved, sendClosing]⟩
    · have hf : (offList x .done (sendClosing s)).floor = s.floor := by simp [offList, setBelieved, sendClosing]
      rw [finishSetup_kept (by rw [hf]) (by rw [hf]), closeAct_floor, hf]
  · obtain ⟨hcell, hfl⟩ := finishTxn_back (o := .done) (reply := reply) (sendClosing s) hx fun _ => hq
    rw [finishSetup_kept (by rw [hfl]; rfl) (by rw [hfl]; rfl)]
    exact hcell.close s

/-- R152: a refused attempt that is not the fourth is made again. -/
theorem refused_again {x : Txn} (hr : Running s) (ha : attempting s = some x) (h : x.attempts < 3) :
    Gives (exec (.busAttemptEnd .noAcknowledge) s) fun t =>
      t.bus.inFlight = some { x with attempts := x.attempts + 1 } ∧ t.bus.attemptOpen = false
        ∧ t.bus.believed = s.bus.believed ∧ t.floor = s.floor := by
  have hd : attemptEnd .noAcknowledge s = (sendClosing s).withBus
      { (sendClosing s).bus with inFlight := some { x with attempts := x.attempts + 1 } } :=
    (attemptEnd_noAcknowledge ha).trans (attemptRefused_again h)
  generalize hu : (sendClosing s).withBus
    { (sendClosing s).bus with inFlight := some { x with attempts := x.attempts + 1 } } = u at hd
  have hf : u.floor = s.floor := by rw [← hu]; rfl
  refine gives_deed (exec_attemptEnd _ s) hr hd ?_
  rw [finishSetup_kept (by rw [hf]) (by rw [hf])]
  obtain ⟨hw, -, -⟩ := closeAct_work s u
  obtain ⟨-, ho, -⟩ := closeAct_engine s u
  rw [hw, ho, closeAct_believed, closeAct_floor, ← hu]
  exact ⟨rfl, rfl, rfl, rfl⟩

/-- R152: the fourth refused attempt is the outcome NO_ACK. -/
theorem refused_ends {x : Txn} (hr : Running s) (ha : attempting s = some x) (h : 3 ≤ x.attempts) :
    Gives (exec (.busAttemptEnd .noAcknowledge) s) fun t =>
      t.bus.inFlight = none ∧ t.bus.attemptOpen = false ∧ Unset s.bus.believed t.bus.believed x.message
        ∧ (∀ item h, IsItem x.message item → x.owner = .setup → s.floor.state = .setting →
            s.floor.holder = some h → FloorLaw s → SetupFailed s t h item) := by
  refine gives_deed (exec_attemptEnd _ s) hr ((attemptEnd_noAcknowledge ha).trans (attemptRefused_last h)) ?_
  have ho := (finishTxn_outcome x .noAck [] (sendClosing s)).close s
  refine ⟨ho.flight, ho.engine.2.1, ?_, fun item h hi hx hs hh hl => setupFailed_iff.2 ?_⟩
  · rw [ho.believed]
    exact after_unset _ _ _ (by simp)
  · have hfell := finishTxn_fell (o := .noAck) (b := { s.bus with engine := .sending, attemptOpen := false }) []
      hl rfl hi hx hs hh (by simp)
    exact (hfell.finishSetup s).close s

/-- R145: bytes of another master that do not win end nothing. -/
theorem lost_not {x : Txn} {other : List Byte} (hs : Settled s) (ha : attempting s = some x)
    (hk : lossAt x.sentBytes other = none) : exec (.busAttemptEnd (.lost other)) s = .next s :=
  (exec_attemptEnd _ s).trans
    (congrArg _ (act_same hs ((attemptEnd_lost ha).trans (attemptLost_none hk))))

/-- Settles O45: the attempt's end by its class, and its outcome at the owner. -/
theorem attemptEndsByItsClass : Obligations.AttemptEndsByItsClass := by
  unfold Obligations.AttemptEndsByItsClass
  intro s x hr he hx
  have ha := attempting_sending he hx
  refine ⟨fun reply check hq had => ?_, fun reply check hw => ?_, fun h => refused_again hr ha h, fun h => ?_,
    fun alike ours others mine theirs hsent => ⟨fun hlt => ?_, fun hs hlt => ?_, fun hs => ?_⟩⟩
  · obtain ⟨t, ht, hin, hopen, hbel, hsetup, hcell⟩ := acknowledged_ends (reply := reply) (check := check) hr ha hq had
    refine ⟨t, ht, hin, hopen, fun p hm => ?_, fun f mode hm => ?_, fun w hm => ?_, fun hm => ?_, fun hm => ?_,
      hsetup, fun n a len data hn hm => ?_⟩
    iterate 5
      rw [hbel, hm]
      rfl
    obtain ⟨hback, hbytes, hsum⟩ := hcell n hn
    refine ⟨hback, hbytes, hsum, fun hamp => ?_⟩
    rw [hbel, hm]
    rcases hamp with rfl | rfl <;> simp [Believed.after, Believed.forget]
  · have hd : attemptEnd (.acknowledged reply check) s = attemptEnd .noAcknowledge s := by
      rw [attemptEnd_acknowledged ha, if_pos (attemptWrong_of hw), attemptEnd_noAcknowledge ha]
    rw [exec_attemptEnd, exec_attemptEnd, act, act, hd]
  · obtain ⟨t, ht, hin, hopen, hun, hfail⟩ := refused_ends hr ha h
    exact ⟨t, ht, hin, hopen, hun.port, hun.radio, hun.drive, hun.amp, hfail⟩
  · have hk : lossAt x.sentBytes (alike ++ theirs :: others) = some alike.length := by
      rw [hsent, lossAt_append, lossAt_lower _ _ hlt]
      simp
    have hfirst := head?_append_cons alike others theirs
    by_cases hl : x.losses < 15
    · obtain ⟨t, ht, hgo, hin, hbel, hfl⟩ := lost_counts hr ha hk hl
      rw [hfirst] at hgo
      exact ⟨t, ht, hgo.released, hgo.engine, fun e => stateReply_eq t ▸ hgo.reply e, fun _ => ⟨hin, hbel, hfl⟩,
        fun h => absurd hl (by omega)⟩
    · obtain ⟨t, ht, hgo, hin, hun, hfail, hcell⟩ := lost_ends hr ha hk (by omega)
      rw [hfirst] at hgo
      exact ⟨t, ht, hgo.released, hgo.engine, fun e => stateReply_eq t ▸ hgo.reply e, fun h => absurd h hl,
        fun _ => ⟨hin, hun.drive, hfail, fun n hn => ⟨(hcell n hn).back, (hcell n hn).bytes⟩⟩⟩
  · exact lost_not hs ha (by rw [hsent, lossAt_append, lossAt_higher _ _ hlt]; rfl)
  · have hend := lossAt_append alike (mine :: ours) []
    rw [List.append_nil] at hend
    exact lost_not hs ha (by rw [hsent, hend, lossAt_end]; rfl)

end Sys2Proof.Machine

/-! O46: the engine's moves, other masters' command frames, and a stuck bus (R146 to R149, R174, R181). -/

namespace Sys2Proof.Machine

section

variable {s : State}

/-- A command that moves the engine to a bus whose work list and belief are those before it. -/
theorem gives_bus {c : Instr} {f : State → State} {b : Bus} {P : State → Prop} (hc : exec c s = .next (act f s))
    (hr : Running s) (hd : f s = s.withBus b) (hb : EngineMove s.bus b)
    (hP : ∀ t, Kept (s.withBus b) t .engine → t.bus.inFlight = s.bus.inFlight → EngineOnly s t → P t) :
    Gives (exec c s) P := by
  have ho : EngineOnly s (f s) := by
    rw [hd]
    exact hb.engineOnly
  refine gives_engine hc hr ho fun hk => hP _ ?_ (hk .work (by simp)).1 hk
  rw [hd]
  exact closeAct_kept s _ .engine

/-! ### The quiet bus and an opening (R146) -/

theorem busQuiet_of (h : notDriving s = true) : busQuiet s = s.withBus { s.bus with
    engine := .free, attemptOpen := false, hold := none, followed := none, unfollowed := none
    closed := false } := if_pos h

theorem foreignOpening_opening (h : notDriving s = true) : foreignOpening .opening s = s.withBus { s.bus with
    engine := .listening, attemptOpen := false, hold := none, followed := none, unfollowed := none, acked := 0
    closed := false } := if_pos h

theorem accepts_iff (station : StationRecord) (b : Byte) : accepts station b = true
    ↔ b = addressByteOf station.ownAddress false ∨ b = addressByteOf station.ownAddress true ∨ b = 0 := by
  simp [accepts, or_assoc]

theorem foreignOpening_accepted {b : Byte} (h : notDriving s = true) (ha : accepts s.station b = true) :
    foreignOpening (.address b) s = s.withBus { s.bus with
      engine := .following, attemptOpen := false, hold := holdFor b s, followed := some (takeOn b s)
      unfollowed := none, acked := 1, closed := false } := by
  have hf : (some b).filter (accepts s.station) = some b := by rw [Option.filter_some, if_pos ha]
  have hn : foreignOpening (.address b) s = hear (some b) s := if_pos h
  rw [hn, hear, hf]

theorem foreignOpening_unheeded {b : Byte} (h : notDriving s = true) (ha : accepts s.station b ≠ true) :
    foreignOpening (.address b) s = s.withBus { s.bus with
      engine := .listening, attemptOpen := false, hold := none, followed := none
      unfollowed := some b, acked := 0, closed := false } := by
  have hf : (some b).filter (accepts s.station) = none := by rw [Option.filter_some, if_neg ha]
  have hn : foreignOpening (.address b) s = hear (some b) s := if_pos h
  rw [hn, hear, hf]

theorem busFree_gives (hr : Running s) (hn : notDriving s = true) : Gives (exec .busFree s) fun t =>
    t.bus.engine = .free ∧ t.bus.inFlight = s.bus.inFlight ∧ t.bus.hold = none ∧ t.bus.inbound = s.bus.inbound :=
  gives_bus (f := busQuiet) rfl hr (busQuiet_of hn) ⟨rfl, rfl, rfl, rfl, rfl⟩ fun _ hk hf _ => by
    obtain ⟨he, -, -, -, -, hin, hh, -⟩ := hk
    exact ⟨he, hf, hh, hin⟩

theorem opening_gives (hr : Running s) (hn : notDriving s = true) :
    Gives (exec (.foreignOpening .opening) s) fun t =>
      t.bus.engine = .listening ∧ t.bus.inFlight = s.bus.inFlight ∧ t.bus.hold = none
        ∧ t.bus.inbound = s.bus.inbound :=
  gives_bus (f := foreignOpening .opening) rfl hr (foreignOpening_opening hn) ⟨rfl, rfl, rfl, rfl, rfl⟩
    fun _ hk hf _ => by
      obtain ⟨he, -, -, -, -, hin, hh, -⟩ := hk
      exact ⟨he, hf, hh, hin⟩

theorem holdFor_eq (b : Byte) (s : State) :
    holdFor b s = if b.getLsbD 0 = false ∧ s.bus.inbound.isSome = true then some 10 else none := by
  simp [holdFor, and_comm]

theorem address_gives (hr : Running s) (hn : notDriving s = true) (b : Byte) :
    Gives (exec (.foreignOpening (.address b)) s) fun t =>
      t.bus.inFlight = s.bus.inFlight ∧ t.bus.inbound = s.bus.inbound ∧ t.bus.closed = false
        ∧ if b = addressByteOf s.station.ownAddress false ∨ b = addressByteOf s.station.ownAddress true ∨ b = 0 then
            t.bus.engine = .following ∧ t.bus.acked = 1 ∧ t.bus.followed.map FollowedFrame.address = some b
              ∧ t.bus.hold = (if b.getLsbD 0 = false ∧ s.bus.inbound.isSome = true then some 10 else none)
          else t.bus.engine = .listening ∧ t.bus.acked = 0 ∧ t.bus.hold = none ∧ t.bus.followed = none
            ∧ t.bus.unfollowed = some b := by
  simp only [← accepts_iff]
  by_cases ha : accepts s.station b = true
  · refine gives_bus (f := foreignOpening (.address b)) rfl hr (foreignOpening_accepted hn ha)
      ⟨rfl, rfl, rfl, rfl, rfl⟩ fun t hk hf _ => ?_
    obtain ⟨he, -, -, -, -, hin, hh, hfol, -, hack, hcl, -⟩ := hk
    refine ⟨hf, hin, hcl, ?_⟩
    rw [if_pos ha]
    exact ⟨he, hack, by rw [hfol]; rfl, hh.trans (holdFor_eq b s)⟩
  · refine gives_bus (f := foreignOpening (.address b)) rfl hr (foreignOpening_unheeded hn ha)
      ⟨rfl, rfl, rfl, rfl, rfl⟩ fun t hk hf _ => ?_
    obtain ⟨he, -, -, -, -, hin, hh, hfol, hun, hack, hcl, -⟩ := hk
    refine ⟨hf, hin, hcl, ?_⟩
    rw [if_neg ha]
    exact ⟨he, hack, hh, hfol, hun⟩

/-! ### Command frames (R143, R148) -/

/-- R148: of the address bytes that carry the command direction the part takes the general one and its own. -/
theorem takesAddress_iff {a : Byte} (hd : a.getLsbD 0 = false) : takesAddress s a = true ↔ Followed s a := by
  have hown : a ≠ addressByteOf s.station.ownAddress true := by
    rintro rfl
    rw [addressByteOf_direction] at hd
    cases hd
  have hf : follows s a = true ↔ ∃ x, s.bus.followed = some x ∧ x.address = a := by
    cases hx : s.bus.followed <;> simp [follows, hx]
  simp only [takesAddress, Bool.or_eq_true, Bool.and_eq_true, bne_iff_ne, hf, accepts_iff, Followed, hown, false_or,
    or_comm (a := a = 0)]

/-- R143: the bytes of a frame with a right check byte sum to 0. -/
theorem frameCheckRight_iff (f : CommandFrame) : frameCheckRight f = true
    ↔ f.address + f.length + f.data.foldl (· + ·) 0 + f.check = 0 := by
  have hs := add_checkByteOf f.address f.length f.data
  rw [frameCheckRight, beq_iff_eq]
  constructor
  · intro h
    rwa [h] at hs
  · intro h
    exact (add_left_cancel (hs.trans h.symm))

/-- R148: the four kinds of a panel message. -/
theorem panelMessageOf_iff (kind : Byte) (m : PanelMessage) : panelMessageOf kind = some m
    ↔ (m, kind) ∈ [(PanelMessage.take, 0x10#8), (.give, 0x11#8), (.halt, 0x12#8), (.resume, 0x13#8)] := by
  revert kind
  cases m <;> decide

theorem frameMessage_iff (f : CommandFrame) (m : PanelMessage) :
    frameMessage f = some m ↔ ∃ kind, f.length = 1 ∧ f.data = [kind] ∧ panelMessageOf kind = some m := by
  unfold frameMessage
  split
  · next kind hdata =>
    split
    · next hl => simp [hl, hdata]
    · next hl => exact ⟨nofun, fun ⟨_, h, _⟩ => absurd h hl⟩
  · next hn =>
    refine ⟨fun h => by simp at h, fun ⟨kind, _, hdata, _⟩ => absurd hdata (hn kind)⟩

/-- R148: a frame that the part follows is received to its closing. -/
theorem foreignFrame_received {f : CommandFrame} (hn : notDriving s = true)
    (hb : (s.bus.inbound.isSome && takesAddress s f.address && !f.address.getLsbD 0) = false) :
    foreignFrame f s = s.withBus { s.bus with
      engine := if takesAddress s f.address && !f.address.getLsbD 0 then .following else .listening
      attemptOpen := false, hold := none, followed := none, unfollowed := none
      acked := bytesAcknowledged s f, closed := true
      inbound := if (keptMessage s f).isSome then keptMessage s f else s.bus.inbound } := by
  rw [foreignFrame, if_pos hn, if_neg (ne_true_of_eq_false hb), closeFrame, if_pos hn]
  unfold fillInbound
  cases keptMessage s f <;> rfl

theorem command_gives {f : CommandFrame} {P : State → Prop} (hr : Running s) (hn : notDriving s = true)
    (hb : (s.bus.inbound.isSome && takesAddress s f.address && !f.address.getLsbD 0) = false)
    (hP : ∀ t : State, t.bus.inFlight = s.bus.inFlight
      → t.bus.engine = (if takesAddress s f.address && !f.address.getLsbD 0 then .following else .listening)
      → t.bus.hold = none → t.bus.closed = true → t.bus.followed = none → t.bus.unfollowed = none
      → t.bus.acked = bytesAcknowledged s f
      → t.bus.inbound = (if (keptMessage s f).isSome then keptMessage s f else s.bus.inbound) → P t) :
    Gives (exec (.foreignOpening (.command f)) s) P :=
  gives_bus (f := foreignOpening (.command f)) rfl hr (foreignFrame_received hn hb) ⟨rfl, rfl, rfl, rfl, rfl⟩
    fun t hk hf _ => by
      obtain ⟨he, -, -, -, -, hin, hh, hfol, hun, hack, hcl, -⟩ := hk
      exact hP t hf he hh hcl hfol hun hack hin

/-- R148: what the part acknowledges of a frame it follows, and what it keeps of it. -/
theorem bytesAcknowledged_taken {f : CommandFrame} (ht : takesAddress s f.address = true)
    (hd : f.address.getLsbD 0 = false) : bytesAcknowledged s f
      = if 32 < f.length.toNat then 1 else if checkAcknowledged f then f.data.length + 3 else f.data.length + 2 := by
  rw [bytesAcknowledged, if_neg (by simp only [ht, hd]; decide)]

theorem keptMessage_taken {f : CommandFrame} (ht : takesAddress s f.address = true)
    (hd : f.address.getLsbD 0 = false) : keptMessage s f
      = if frameCheckRight f then (frameMessage f).filter fun m => f.address != 0 || m == .halt else none := by
  simp only [keptMessage, ht, hd, Bool.not_false, Bool.and_true, Bool.true_and]

theorem keptMessage_notTaken {f : CommandFrame} (ht : takesAddress s f.address = false) : keptMessage s f = none := by
  simp [keptMessage, ht]

/-- R148: a panel message at the part's own address. -/
theorem panelFrame_taken {f : CommandFrame} {m : PanelMessage} {kind : Byte} (ht : takesAddress s f.address = true)
    (hd : f.address.getLsbD 0 = false) (ha : f.address ≠ 0)
    (hk : (m, kind) ∈ [(PanelMessage.take, 0x10#8), (.give, 0x11#8), (.halt, 0x12#8), (.resume, 0x13#8)])
    (hl : f.length = 1) (hdata : f.data = [kind]) (hsum : f.address + f.length + kind + f.check = 0) :
    bytesAcknowledged s f = 4 ∧ keptMessage s f = some m := by
  have hm : frameMessage f = some m := (frameMessage_iff f m).2 ⟨kind, hl, hdata, (panelMessageOf_iff kind m).2 hk⟩
  have hc : frameCheckRight f = true := (frameCheckRight_iff f).2 (by simpa [hdata] using hsum)
  have hack : checkAcknowledged f = true := by simp [checkAcknowledged, hc, hm]
  refine ⟨?_, ?_⟩
  · rw [bytesAcknowledged_taken ht hd, if_neg (by rw [hl]; decide), if_pos hack, hdata]
    rfl
  · have ha' : (f.address != 0) = true := bne_iff_ne.2 ha
    rw [keptMessage_taken ht hd, if_pos hc, hm, Option.filter_some, if_pos (by rw [ha', Bool.true_or])]

/-- R148: a frame at the part's own address that carries no panel message. -/
theorem otherFrame_taken {f : CommandFrame} (ht : takesAddress s f.address = true) (hd : f.address.getLsbD 0 = false)
    (ha : f.address ≠ 0) (hl : f.length.toNat ≤ 32)
    (hno : ¬ ∃ kind ∈ [0x10#8, 0x11#8, 0x12#8, 0x13#8],
      f.length = 1 ∧ f.data = [kind] ∧ f.address + f.length + kind + f.check = 0) :
    bytesAcknowledged s f = f.data.length + 2 ∧ keptMessage s f = none := by
  have hnone : frameCheckRight f = true → frameMessage f = none := by
    intro hc
    cases hm : frameMessage f with
    | none => rfl
    | some m =>
      obtain ⟨kind, hlen, hdata, hkind⟩ := (frameMessage_iff f m).1 hm
      have hsum : f.address + f.length + kind + f.check = 0 := by simpa [hdata] using (frameCheckRight_iff f).1 hc
      refine absurd ⟨kind, ?_, hlen, hdata, hsum⟩ hno
      have hp := (panelMessageOf_iff kind m).1 hkind
      simp only [List.mem_cons, Prod.mk.injEq, List.not_mem_nil, or_false] at hp ⊢
      tauto
  have hack : checkAcknowledged f = false := by
    cases hc : frameCheckRight f with
    | false => simp [checkAcknowledged, hc]
    | true => rw [checkAcknowledged, hnone hc, beq_false_of_ne ha, Option.isSome_none, Bool.or_false, Bool.and_false]
  refine ⟨by rw [bytesAcknowledged_taken ht hd, if_neg (by omega), if_neg (by simp [hack])], ?_⟩
  rw [keptMessage_taken ht hd]
  split
  · next hc => rw [hnone hc]; rfl
  · rfl

/-- R148: a frame at the general address, of which HALT alone is kept. -/
theorem generalFrame_taken {f : CommandFrame} (ht : takesAddress s f.address = true) (ha : f.address = 0) :
    (f.length.toNat ≤ 32 → bytesAcknowledged s f
        = if f.length + f.data.foldl (· + ·) 0 + f.check = 0 then f.data.length + 3 else f.data.length + 2)
      ∧ keptMessage s f
        = if f.length = 1 ∧ f.data = [0x12] ∧ f.check = 0xED then some .halt else none := by
  have hd : f.address.getLsbD 0 = false := by rw [ha]; rfl
  have hc : frameCheckRight f = true ↔ f.length + f.data.foldl (· + ·) 0 + f.check = 0 := by
    rw [frameCheckRight_iff, ha, zero_add]
  have hack : checkAcknowledged f = frameCheckRight f := by simp [checkAcknowledged, ha]
  refine ⟨fun hl => ?_, ?_⟩
  · rw [bytesAcknowledged_taken ht hd, if_neg (by omega), hack]
    simp only [hc]
  · have hfilter : (frameMessage f).filter (fun m => f.address != 0 || m == .halt)
        = if frameMessage f = some .halt then some .halt else none := by
      cases hm : frameMessage f with
      | none => rfl
      | some m => cases m <;> simp [ha]
    have hhalt : frameMessage f = some .halt ↔ f.length = 1 ∧ f.data = [0x12] := by
      rw [frameMessage_iff]
      constructor
      · rintro ⟨kind, hl, hdata, hk⟩
        have := (panelMessageOf_iff kind .halt).1 hk
        simp only [List.mem_cons, Prod.mk.injEq, reduceCtorEq, false_and, true_and, false_or, or_false,
          List.not_mem_nil] at this
        exact ⟨hl, by rw [hdata, this]; rfl⟩
      · rintro ⟨hl, hdata⟩
        exact ⟨0x12, hl, hdata, by decide⟩
    rw [keptMessage_taken ht hd, hfilter]
    simp only [hc, hhalt]
    by_cases hh : f.length = 1 ∧ f.data = [0x12]
    · have hsum : f.length + f.data.foldl (· + ·) 0 + f.check = 0 ↔ f.check = 0xED := by
        rw [hh.1, hh.2]
        generalize f.check = c
        revert c
        decide
      rw [if_pos hh, if_congr hsum rfl rfl]
      simp only [hh, true_and]
    · simp only [hh, if_false, ite_self]
      rw [if_neg fun e => hh ⟨e.1, e.2.1⟩]

/-- R146, R148: a frame that the part follows, with its inbound buffer empty. -/
theorem followedFrame_gives {f : CommandFrame} (hr : Running s) (hn : notDriving s = true)
    (hd : f.address.getLsbD 0 = false) (hf : Followed s f.address) (hb : s.bus.inbound = none) :
    Gives (exec (.foreignOpening (.command f)) s) fun t =>
      t.bus.inFlight = s.bus.inFlight ∧ t.bus.engine = .following ∧ t.bus.hold = none ∧ t.bus.closed = true
        ∧ t.bus.followed = none ∧ t.bus.acked = bytesAcknowledged s f ∧ t.bus.inbound = keptMessage s f := by
  have ht : takesAddress s f.address = true := (takesAddress_iff hd).2 hf
  refine command_gives hr hn (by simp [hb]) fun t hi he hh hc hfol _ hack hin => ⟨hi, ?_, hh, hc, hfol, hack, ?_⟩
  · rw [he, ht, hd]
    rfl
  · rw [hin, hb]
    cases keptMessage s f <;> rfl

/-- R146, R148: a frame that the part does not follow. -/
theorem unfollowedFrame_gives {f : CommandFrame} (hr : Running s) (hn : notDriving s = true)
    (hd : f.address.getLsbD 0 = false) (hf : ¬ Followed s f.address) :
    Gives (exec (.foreignOpening (.command f)) s) fun t =>
      t.bus.engine = .listening ∧ t.bus.closed = true ∧ t.bus.hold = none ∧ t.bus.followed = none
        ∧ t.bus.unfollowed = none ∧ t.bus.acked = (if s.bus.unfollowed = some f.address then s.bus.acked else 0)
        ∧ t.bus.inbound = s.bus.inbound ∧ t.bus.inFlight = s.bus.inFlight := by
  have ht : takesAddress s f.address = false := by
    cases h : takesAddress s f.address with
    | false => rfl
    | true => exact absurd ((takesAddress_iff hd).1 h) hf
  refine command_gives hr hn (by simp [ht]) fun t hi he hh hc hfol hun hack hin =>
    ⟨?_, hc, hh, hfol, hun, ?_, ?_, hi⟩
  · rw [he, ht]
    rfl
  · rw [hack, bytesAcknowledged, if_pos (by rw [ht]; rfl)]
  · rw [hin, keptMessage_notTaken ht]
    rfl

/-- R149: a frame that the part follows, while another message occupies its inbound buffer. -/
theorem heldFrame_gives {f : CommandFrame} {m : PanelMessage} (hr : Running s) (hn : notDriving s = true)
    (hd : f.address.getLsbD 0 = false) (hf : Followed s f.address) (hb : s.bus.inbound = some m) :
    Gives (exec (.foreignOpening (.command f)) s) fun t =>
      t.bus.engine = .following ∧ t.bus.acked = 1 ∧ t.bus.followed.map FollowedFrame.address = some f.address
        ∧ t.bus.inbound = some m ∧ t.bus.inFlight = s.bus.inFlight
        ∧ t.bus.hold = (if s.bus.followed.map FollowedFrame.address = some f.address then
            some (s.bus.hold.getD 10) else some 10) := by
  have ht : takesAddress s f.address = true := (takesAddress_iff hd).2 hf
  have hheld : foreignOpening (.command f) s = holdFrame f s := foreignFrame_held hn hb ht hd
  have hfol : follows s f.address = true ↔ s.bus.followed.map FollowedFrame.address = some f.address := by
    cases hx : s.bus.followed <;> simp [follows, hx]
  cases h : follows s f.address with
  | true =>
    refine gives_bus (f := foreignOpening (.command f)) rfl hr (hheld.trans (holdFrame_follows h))
      ⟨rfl, rfl, rfl, rfl, rfl⟩ fun t hk hi _ => ?_
    obtain ⟨he, -, -, -, -, hin, hh, hw, -, hack, -, -⟩ := hk
    rw [if_pos (hfol.1 h)]
    exact ⟨he, hack, by rw [hw]; exact hfol.1 h, hin.trans hb, hi, hh⟩
  | false =>
    have ha : accepts s.station f.address = true := by
      rw [takesAddress, h, Bool.false_or, Bool.and_eq_true] at ht
      exact ht.1
    refine gives_bus (f := foreignOpening (.command f)) rfl hr (hheld.trans (holdFrame_opens h ha hd hb))
      ⟨rfl, rfl, rfl, rfl, rfl⟩ fun t hk hi _ => ?_
    obtain ⟨he, -, -, -, -, hin, hh, hw, -, hack, -, -⟩ := hk
    rw [if_neg fun e => by simp [hfol.2 e] at h]
    exact ⟨he, hack, by rw [hw]; rfl, hin.trans hb, hi, hh⟩

/-! ### A stuck bus (R147) -/

theorem Kept.engineOf {b : Bus} {t : State} (h : Kept (s.withBus b) t .engine) :
    t.bus.engine = b.engine ∧ t.bus.attemptOpen = b.attemptOpen ∧ t.bus.sbcLow = b.sbcLow
      ∧ t.bus.sbdPulses = b.sbdPulses ∧ t.bus.pulses = b.pulses ∧ t.bus.inbound = b.inbound
      ∧ t.bus.followed = b.followed := by
  obtain ⟨h1, h2, h3, h4, h5, h6, -, h8, -⟩ := h
  exact ⟨h1, h2, h3, h4, h5, h6, h8⟩

theorem stuck_gives {lines : StuckLines} (hr : Running s) (he : s.bus.engine ≠ .recovering) :
    Gives (exec (.busStuck lines) s) fun t =>
      t.bus.engine = .recovering ∧ t.bus.attemptOpen = false ∧ t.bus.sbcLow = lines.sbcLow
        ∧ t.bus.sbdPulses = lines.sbdPulses ∧ t.bus.pulses = 0
        ∧ t.bus.inbound = s.bus.inbound ∧ t.bus.followed = none ∧ t.bus.inFlight = none
        ∧ (∀ x item h, s.bus.inFlight = some x → IsItem x.message item → x.owner = .setup →
            s.floor.state = .setting → s.floor.holder = some h → FloorLaw s → SetupFailed s t h item) := by
  obtain ⟨b, hb, hbus⟩ : ∃ b : Bus, enterRecovering lines s = s.withBus b ∧ b = { s.bus with
    engine := .recovering, attemptOpen := false, sbcLow := lines.sbcLow, sbdPulses := lines.sbdPulses
    pulses := 0, hold := none, followed := none, unfollowed := none, closed := false } := ⟨_, rfl, rfl⟩
  have hin : b.inFlight = s.bus.inFlight := by rw [hbus]
  have close {t : State} (hk : Kept (s.withBus b) t .engine) (hi : t.bus.inFlight = none) :
      t.bus.engine = .recovering ∧ t.bus.attemptOpen = false ∧ t.bus.sbcLow = lines.sbcLow
        ∧ t.bus.sbdPulses = lines.sbdPulses ∧ t.bus.pulses = 0
        ∧ t.bus.inbound = s.bus.inbound ∧ t.bus.followed = none ∧ t.bus.inFlight = none := by
    obtain ⟨h1, h2, h3, h4, h5, h6, h7⟩ := hk.engineOf
    rw [hbus] at h1 h2 h3 h4 h5 h6 h7
    exact ⟨h1, h2, h3, h4, h5, h6, h7, hi⟩
  cases hx : s.bus.inFlight with
  | none =>
    have hd : stuck lines s = s.withBus b := by
      rw [stuck, if_neg he, hb]
      simp only [withBus_bus, hin, hx]
    refine gives_deed (f := stuck lines) rfl hr hd ?_
    rw [finishSetup_kept (by simp) (by simp)]
    obtain ⟨hw, -⟩ := closeAct_work s (s.withBus b)
    have hi : (closeAct s (s.withBus b)).bus.inFlight = none := by
      rw [hw, withBus_bus, hbus]
      exact hx
    obtain ⟨h1, h2, h3, h4, h5, h6, h7, h8⟩ := close (closeAct_kept s _ .engine) hi
    exact ⟨h1, h2, h3, h4, h5, h6, h7, h8, fun x item h e => by cases e⟩
  | some x =>
    have hd : stuck lines s = finishTxn x .stuck [] (s.withBus b) := by
      rw [stuck, if_neg he, hb]
      simp only [withBus_bus, hin, hx]
    refine gives_deed (f := stuck lines) rfl hr hd ?_
    have ho := (finishTxn_outcome x .stuck [] (s.withBus b)).close s
    obtain ⟨h1, h2, h3, h4, h5, h6, h7, h8⟩ := close ho.engine ho.flight
    refine ⟨h1, h2, h3, h4, h5, h6, h7, h8, fun y item h e hi hown hs hh hl => ?_⟩
    obtain rfl : x = y := Option.some.inj e
    have hbel : b.believed = s.bus.believed := by rw [hbus]
    exact setupFailed_iff.2
      (((finishTxn_fell (o := .stuck) [] hl hbel hi hown hs hh (by simp)).finishSetup s).close s)

/-- R147: the pulses of a recovery: at least one, until SBD is let go, with none above their number. -/
theorem clockPulses_eq (left : Nat) (b : Bus) : clockPulses (left + 1) b
    = { b with
        pulses := b.pulses + min (left + 1) (max 1 b.sbdPulses)
        sbdPulses := b.sbdPulses - min (left + 1) (max 1 b.sbdPulses) } := by
  induction left generalizing b with
  | zero =>
    have h : min (0 + 1) (max 1 b.sbdPulses) = 1 := by omega
    rw [h]
    unfold clockPulses
    simp [clockPulses]
  | succ left ih =>
    rw [clockPulses]
    simp only
    split
    · next hz =>
      have h : min (left + 1 + 1) (max 1 b.sbdPulses) = 1 := by omega
      rw [h]
    · next hz =>
      rw [ih]
      have h : min (left + 1) (max 1 (b.sbdPulses - 1)) + 1 = min (left + 1 + 1) (max 1 b.sbdPulses) := by omega
      have hp : b.pulses + 1 + min (left + 1) (max 1 (b.sbdPulses - 1))
          = b.pulses + min (left + 1 + 1) (max 1 b.sbdPulses) := by omega
      have hd : b.sbdPulses - 1 - min (left + 1) (max 1 (b.sbdPulses - 1))
          = b.sbdPulses - min (left + 1 + 1) (max 1 b.sbdPulses) := by omega
      simp only [hp, hd]

theorem recovery_gives (hr : Running s) (he : s.bus.engine = .recovering) :
    Gives (exec .busRecovery s) fun t =>
      t.bus.engine = .free ∧ t.bus.sbcLow = false ∧ t.bus.inbound = s.bus.inbound
        ∧ (s.bus.sbdPulses ≤ 1 → t.bus.pulses = 1 ∧ t.bus.sbdPulses = 0)
        ∧ (1 < s.bus.sbdPulses → s.bus.sbdPulses ≤ 9 →
            t.bus.pulses = s.bus.sbdPulses ∧ t.bus.sbdPulses = 0)
        ∧ (9 < s.bus.sbdPulses → t.bus.pulses = 9 ∧ t.bus.sbdPulses = s.bus.sbdPulses - 9)
        ∧ ∀ p : Part, p ≠ .engine → Kept s t p := by
  have hd : recovered s = s.withBus { s.bus with
      engine := .free, sbcLow := false, pulses := min 9 (max 1 s.bus.sbdPulses)
      sbdPulses := s.bus.sbdPulses - min 9 (max 1 s.bus.sbdPulses) } := by
    rw [recovered, if_pos he, clockPulses_eq 8]
    simp only [Nat.zero_add]
  refine gives_bus (f := recovered) rfl hr hd ⟨rfl, rfl, rfl, rfl, rfl⟩ fun t hk _ ho => ?_
  obtain ⟨hfree, -, hlow, hsbd, hp, hin, -⟩ := hk.engineOf
  simp only at hfree hlow hsbd hp hin
  exact ⟨hfree, hlow, hin, fun _ => by omega, fun _ _ => by omega, fun _ => by omega, ho⟩

/-- R149: the end of a hold. -/
theorem holdTimeout_gives (hr : Running s) (he : s.bus.engine = .following) (hh : s.bus.hold.isSome = true) :
    Gives (exec .inboundHoldTimeout s) fun t =>
      t.bus.engine = .listening ∧ t.bus.hold = none ∧ t.bus.inbound = s.bus.inbound ∧ t.bus.followed = none
        ∧ t.bus.unfollowed = s.bus.followed.map FollowedFrame.address :=
  gives_bus (f := holdTimedOut) rfl hr (if_pos ⟨he, hh⟩) ⟨rfl, rfl, rfl, rfl, rfl⟩ fun _ hk _ _ => by
    obtain ⟨h1, -, -, -, -, h6, h7, h8, h9, -⟩ := hk
    exact ⟨h1, h7, h6, h8, h9⟩

/-- R147: while SBC stays low the next transaction is failed STUCK; one of a bus cell comes back so. -/
theorem stuckCell_gives {x : Txn} {more : List Txn} {n : BusCellNo} (hr : Running s)
    (he : s.bus.engine = .recovering) (hl : s.bus.sbcLow = true) (hi : s.bus.inFlight = none)
    (hf : s.bus.floorWork = []) (hp : s.bus.pollWork = none) (hc : s.bus.cellWork = x :: more)
    (hx : x.owner = .cell n) (hh : cellHeld s x.message = false) :
    Gives (exec .busTransactionStart s) fun t =>
      t.bus.cellWork = more ∧ t.bus.engine = .recovering ∧ partHeld t (.bus n) = false
        ∧ cellBytes t (.bus n) 36 2 = [3, 0] := by
  have hn : nextWork s = some (x, { s.bus with cellWork := more }) := by
    rw [nextWork, hf, hp, hc]
    simp only [hh, Bool.false_eq_true, if_false]
  have hd : startTransaction s = finishTxn x .stuck [] (s.withBus { s.bus with cellWork := more }) := by
    rw [startTransaction, he, hi, hn]
    simp only [hl, if_true]
  refine gives_deed (f := startTransaction) rfl hr hd ?_
  have ho := (finishTxn_outcome x .stuck [] (s.withBus { s.bus with cellWork := more })).close s
  obtain ⟨hcell, hfl⟩ := finishTxn_back (o := .stuck) (reply := []) (s.withBus { s.bus with cellWork := more }) hx
    (by simp)
  generalize finishTxn x .stuck [] (s.withBus { s.bus with cellWork := more }) = v at *
  refine ⟨ho.cells, ho.engine.engineOf.1.trans he, ?_⟩
  rw [finishSetup_kept (by rw [hfl]; rfl) (by rw [hfl]; rfl)]
  exact ⟨(hcell.close s).back, (hcell.close s).bytes⟩

end

/-- Settles O46: the engine's moves, the frames that the part follows, the stuck bus and its recovery. -/
theorem engineFollowsTheBus : Obligations.EngineFollowsTheBus := by
  unfold Obligations.EngineFollowsTheBus
  intro s hr
  refine ⟨fun he ho => ?_, fun lines he => stuck_gives hr he, fun he => recovery_gives hr he,
    fun he hh => holdTimeout_gives hr he hh, fun hs hh => ?_,
    fun x more n he hl hi hf hp hc hx hn => stuckCell_gives hr he hl hi hf hp hc hx hn⟩
  · have hn := notDriving_of he ho
    refine ⟨busFree_gives hr hn, opening_gives hr hn, address_gives hr hn, fun f hd => ⟨fun hf hb => ?_,
      unfollowedFrame_gives hr hn hd, fun m hf hb => heldFrame_gives hr hn hd hf hb⟩⟩
    have ht : takesAddress s f.address = true := (takesAddress_iff hd).2 hf
    obtain ⟨t, hex, hi, heng, hhold, hc, hfol, hack, hin⟩ := followedFrame_gives hr hn hd hf hb
    refine ⟨t, hex, hi, heng, hhold, hc, hfol, fun hlong => ?_, fun ha hlen => ⟨fun m kind hk hl hdata hsum => ?_,
      fun hno => ?_⟩, fun ha => ?_⟩
    · rw [hack, bytesAcknowledged_taken ht hd, if_pos hlong]
    · rw [hack, hin]
      exact panelFrame_taken ht hd ha hk hl hdata hsum
    · rw [hack, hin]
      exact otherFrame_taken ht hd ha hlen hno
    · rw [hack, hin]
      exact generalFrame_taken ht ha
  · have hd : holdTimedOut s = s := if_neg (by simp [hh])
    exact congrArg Host.Outcome.next (act_same hs hd)

end Sys2Proof.Machine

/-! SUPPORT. What an act may touch, part by part (O50). -/

namespace Sys2Proof.Machine

/-- No part but some has changed. -/
def Within (ps : List Part) (s t : State) : Prop := ∀ p : Part, p ∉ ps → Kept s t p

section

variable {ps qs : List Part} {s t u : State}

theorem Kept.refl (s : State) (p : Part) : Kept s s p := by cases p <;> simp [Kept]

namespace Within

theorem refl (s : State) : Within ps s s := fun p _ => .refl s p

theorem trans (h : Within ps s t) (h' : Within ps t u) : Within ps s u := fun p hp => (h p hp).trans (h' p hp)

theorem mono (h : Within ps s t) (hs : ps ⊆ qs) : Within qs s t := fun p hp => h p fun e => hp (hs e)

end Within

/-! ### The moves of the floor -/

theorem Moves.registers (h : Moves s t) : Kept s t .registers := by
  induction h with
  | trans _ _ ih ih' => exact ih.trans ih'
  | turnOver _ _ _ _ _ _ _ _ ih ih' => exact ih.trans (Kept.trans (t := _) (by simp [Kept]) (ih'.trans (by simp [Kept])))
  | turnBegun _ _ _ _ _ _ ih ih' => exact ih.trans (Kept.trans (by simp [Kept]) (ih'.trans (by simp [Kept])))
  | cellBack n r reply s => simp [Kept, returnBusCell, setSummary]
  | _ => simp [Kept]

/-- A part that turns out to be kept is none of those that may have changed. -/
theorem Within.drop {p : Part} (h : Within (p :: ps) s t) (hk : Kept s t p) : Within ps s t := fun q hq => by
  by_cases e : q = p
  · rw [e]
    exact hk
  · exact h q (by simp [e, hq])

/-- But for the count of free values the moves touch the bus and what a turn's end or a serving point reaches. -/
theorem Moves.within_bus (h : Moves s t) (hf : t.free = s.free) : Within ([.engine, .believed] ++ turnParts) s t := by
  obtain ⟨h1, h2, h3, h4, h5, h6, h7, h8, -, h10⟩ := h.frame
  intro p hp
  cases p
  case commands => exact h1
  case freeCount => exact hf
  case lines => exact h2
  case stamp => exact h3
  case mode => exact h4
  case members => exact h5
  case attachments => exact h.seatsKept.attachment
  case plan => exact h6
  case station => exact h7
  case heat => exact h8
  case handovers => exact h10
  case registers => exact h.registers
  all_goals exact absurd hp (by decide)

theorem Moves.within (h : Moves s t) (hf : t.free = s.free) (he : Kept s t .engine) (hb : Kept s t .believed) :
    Within turnParts s t := ((h.within_bus hf).drop he).drop hb

theorem BusStood.within (h : BusStood s t) (hm : Moves s t) (hf : t.free = s.free) : Within turnParts s t :=
  hm.within hf h.engine h.believed

theorem finishSetup_within (before s : State) : Within turnParts s (finishSetup before s) :=
  (finishSetup_offBus before s).stood.within (finishSetup_moves before s) (by simp)

theorem closeAct_within (before s : State) : Within ps s (closeAct before s) := fun p _ => closeAct_kept before s p

/-! ### Acts -/

/-- An act that may serve the floor. -/
theorem act_within {f : State → State} (hs : turnParts ⊆ ps) (h : Within ps s (f s)) : Within ps s (act f s) := by
  unfold act
  split
  · exact .refl s
  · exact (h.trans ((finishSetup_within s _).mono hs)).trans (closeAct_within s _)

/-- An act that leaves the floor's state and its holder. -/
theorem act_within_still {f : State → State} (hf : (f s).floor.state = s.floor.state)
    (hh : (f s).floor.holder = s.floor.holder) (h : Within ps s (f s)) : Within ps s (act f s) := by
  unfold act
  split
  · exact .refl s
  · rw [finishSetup_kept hf hh]
    exact h.trans (closeAct_within s _)

theorem act_within_floor {f : State → State} (hp : Part.floor ∉ ps) (h : Within ps s (f s)) :
    Within ps s (act f s) := by
  have hf : (f s).floor = s.floor := h .floor hp
  exact act_within_still (by rw [hf]) (by rw [hf]) h

end

end Sys2Proof.Machine

/-! SUPPORT. What the floor, the audio path and the orders leave of the bus (O50). -/

namespace Sys2Proof.Machine

variable {s t u : State}

/-- A branch or none. -/
theorem BusStood.ite {c : Prop} [Decidable c] (h : BusStood s t) (h' : BusStood s u) :
    BusStood s (if c then t else u) := by
  split
  · exact h
  · exact h'

/-! ### The audio path -/

theorem stall_stood (s : State) : BusStood s (stall s) := by
  unfold stall
  exact (unkey_offBus s).stood.trans (.ite (endTurn_offBus ..).stood (.of_bus (by simp)))

theorem criterionMet_stood (c : Criterion) (s : State) : BusStood s (criterionMet c s) := by
  unfold criterionMet
  exact .ite (.ite ((BusStood.of_bus (by simp)).trans (stall_stood _)) (.ite (.of_bus (by simp)) (.refl s))) (.refl s)

theorem disorderSeen_stood (s : State) : BusStood s (disorderSeen s) := by
  have hw (w : Watch) : BusStood s (s.withWatch w) := .of_bus rfl
  unfold disorderSeen
  exact .ite ((hw _).trans (.ite (criterionMet_stood ..) (.refl _))) (.refl s)

theorem watchStep_stood (silent : Bool) (s : State) : BusStood s (watchStep silent s) := by
  have hc : BusStood s (countStep s) := .of_bus (by simp)
  have hl : BusStood (countStep s) (linkWarning (countStep s)) := .of_bus (by simp)
  unfold watchStep
  exact .ite (hc.trans (.ite (hl.trans (.ite (criterionMet_stood ..) (.refl _))) (.refl _))) (.refl s)

theorem playoutStep_stood (s : State) : BusStood s (playoutStep s) := by
  unfold playoutStep
  split
  · exact .refl s
  · exact .ite ((BusStood.of_bus (by simp)).trans (watchStep_stood ..)) (.refl s)

theorem keyedNews_stood (s : State) : BusStood s (keyedNews s) := by
  have hm : BusStood s (maybeOverlay s) := .of_bus (by simp)
  unfold keyedNews
  split
  · exact .of_bus (by simp)
  · split
    · exact .of_bus (by simp)
    · exact (hm.trans (.ite (.of_bus (by simp)) (.refl _))).trans (playoutStep_stood _)
  · exact .refl s

theorem enterKeyed_stood (s : State) : BusStood s (enterKeyed s) := by
  rw [enterKeyed_eq]
  exact (BusStood.of_bus (by simp)).trans (keyedNews_stood _)

theorem takeAmpFault_stood (s : State) : BusStood s (takeAmpFault s) :=
  ((unkey_offBus s).stood.trans (ampOutOfService_offBus _).stood).trans (equipmentReport_stood ..)

theorem keyRequest_stood (s : State) : BusStood s (keyRequest s) := by
  unfold keyRequest
  exact .ite ((assertPtt_offBus s).stood.trans
    (.ite (takeAmpFault_stood _) (.ite (enterKeyed_stood _) (.refl _)))) (.refl s)

theorem startThreshold_stood (s : State) : BusStood s (startThreshold s) := by
  have ho : BusStood s (enterOnAir s) := by
    rw [enterOnAir_eq]
    exact (BusStood.of_bus (by simp)).trans (keyRequest_stood _)
  unfold startThreshold
  split
  · exact ho
  · exact ho
  · exact .refl s

theorem resyncReports_stood (s : State) : BusStood s (resyncReports s) := by
  have hf (n : Nat) : BusStood s (s.withFree n) := .of_bus rfl
  unfold resyncReports
  exact .ite ((hf _).trans (.ite ((criterionMet_stood ..).trans (startThreshold_stood _))
    ((startThreshold_stood _).trans (criterionMet_stood ..)))) (criterionMet_stood ..)

theorem placeFrame_stood (seat : SeatNo) (f : Frame) (s : State) : BusStood s (placeFrame seat f s) := by
  have hi (p : Playout) : BusStood s (reportThreshold (insertFrame seat f (s.withPlayout p))) :=
    (BusStood.of_bus (by simp)).trans (.ite (startThreshold_stood _) (.refl _))
  have hd {v : State} (h : BusStood s v) : BusStood s (disorderSeen v) := h.trans (disorderSeen_stood v)
  unfold placeFrame
  split
  · exact hi _
  · exact .ite (hd (.of_bus (by simp))) (.ite (.ite ((BusStood.of_bus (by simp)).trans (resyncReports_stood _))
      (hd (.of_bus (by simp)))) (.ite (hd (.of_bus (by simp))) (hi _)))

theorem takeAudioCell_stood (seat : SeatNo) (cell : AudioCellNo) (s : State) :
    BusStood s (takeAudioCell seat cell s) := by
  have hr : BusStood s (renewPresence seat s) := .of_bus (by simp)
  unfold takeAudioCell
  exact hr.trans (.ite (placeFrame_stood ..) (.of_bus (by simp)))

/-! ### The floor's and the identification's events -/

theorem queueChanged_stood (s : State) : BusStood s (queueChanged s) := .ite (serve_offBus s).stood (.refl s)

theorem floorDetached_stood (seat : SeatNo) (c : EndCause) (s : State) : BusStood s (floorDetached seat c s) := by
  have he : BusStood s (if holderSeat s = some seat then endTurn c .none s else s) :=
    .ite (endTurn_offBus ..).stood (.refl s)
  unfold floorDetached
  generalize (if holderSeat s = some seat then endTurn c .none s else s) = v at he ⊢
  refine he.trans ?_
  simp only
  split
  · exact (BusStood.of_bus (by simp)).trans (queueChanged_stood _)
  · exact .refl _

theorem detachSeat_stood (seat : SeatNo) (c : SeatCause) (s : State) : BusStood s (detachSeat seat c s) := by
  cases hm : attachedMember s seat with
  | none =>
    rw [detachSeat_vacant c hm]
    exact .refl s
  | some m =>
    rw [detachSeat_attached c hm]
    exact (BusStood.of_bus (by simp [vacated])).trans (floorDetached_stood ..)

theorem enterIdle_stood (s : State) : BusStood s (enterIdle s) := (enterIdle_offBus s).stood

theorem endTurnToIdent_stood (s : State) : BusStood s (endTurnToIdent s) :=
  (endTurnCore_offBus ..).stood.trans (enterIdent_offBus _).stood

theorem becomePending_stood (s : State) : BusStood s (becomePending s) := by
  have hi (v : State) : BusStood v (idPendingReport v) := by
    unfold idPendingReport
    split
    · exact (serve_offBus v).stood
    · exact (serve_offBus v).stood
    · exact endTurnToIdent_stood v
    · exact .refl v
  unfold becomePending
  refine .ite (.refl s) (BusStood.trans ?_ (hi _))
  exact .ite (.of_bus (by simp [becomeOverdue])) (.of_bus rfl)

theorem identDone_stood (snd : Sender) (s : State) : BusStood s (identDone snd s) :=
  (BusStood.of_bus (t := raiseIdentNotice snd (closeWindow (quietSender s))) (by simp)).trans
    ((unkey_offBus _).stood.trans (enterIdle_stood _))

theorem idComplete_stood (s : State) : BusStood s (idComplete s) := by
  unfold idComplete
  split
  · exact .ite (identDone_stood ..) (.refl s)
  · exact .refl s

theorem elementEnd_stood (s : State) : BusStood s (elementEnd s) := by
  unfold elementEnd
  split
  · split
    · exact .of_bus rfl
    · exact .ite (.of_bus (by simp)) (idComplete_stood s)
  · exact .refl s

theorem setUp_stood (s : State) : BusStood s (setUp s) := by
  have hp (items : List Message) : BusStood s (placeSetup items s) :=
    ⟨rfl, engineKept_of_work rfl, rfl, id⟩
  unfold setUp
  split
  · exact .refl s
  · exact .ite ((hp _).trans (.ite (setupComplete_offBus _).stood (.refl _))) (.refl s)

theorem dutyReport_stood (excess : Bool) (s : State) : BusStood s (dutyReport excess s) := by
  unfold dutyReport
  split
  · exact .ite (endTurn_offBus ..).stood (.refl s)
  · exact .ite (endTurn_offBus ..).stood (.refl s)
  · exact (serve_offBus s).stood
  · exact .refl s

theorem inhibitReport_stood (s : State) : BusStood s (inhibitReport s) := by
  unfold inhibitReport
  split
  all_goals first
    | exact (endTurn_offBus ..).stood
    | exact enterIdle_stood s
    | exact .refl s

/-! ### The panel -/

theorem takeStation_stood (s : State) : BusStood s (takeStation s) := by
  have h : BusStood s (if s.floor.holder.isSome then endTurnCore .panelHeld .none s else unkey s) :=
    .ite (endTurnCore_offBus ..).stood (unkey_offBus s).stood
  unfold takeStation
  exact .ite (.refl s) (h.trans (.of_bus (by simp)))

theorem haltStation_stood (s : State) : BusStood s (haltStation s) := by
  have h : BusStood s (if s.floor.holder.isSome then endTurnCore .shut .none s else s) :=
    .ite (endTurnCore_offBus ..).stood (.refl s)
  have he (v : State) : BusStood v (endEntries .shut v.queue v) := .of_bus (by simp)
  have hc (v : State) : BusStood v (setFloorState .shut (closeWindow v)) := .of_bus (by simp)
  exact ((h.trans (he _)).trans (unkey_offBus _).stood).trans (hc _)

/-! ### The orders -/

theorem forceRelease_stood (clear : Bool) (s : State) : BusStood s (forceRelease clear s) := by
  have hf : BusStood s (forcedOut clear s) := by
    have h : BusStood s (forced s) := .ite (endTurnCore_offBus ..).stood (.refl s)
    refine h.trans ?_
    unfold forcedOut
    exact .ite (.of_bus (by simp)) (.refl _)
  rw [forceRelease_eq]
  exact .ite (hf.trans (enterIdle_stood _)) hf

theorem releaseFloor_stood (s : State) : BusStood s (releaseFloor s).2 := by
  unfold releaseFloor
  split
  case h_3 => exact (endTurn_offBus ..).stood
  all_goals
    refine (unkey_offBus s).stood.trans ?_
    simp only
    split
    · exact endTurnToIdent_stood _
    · split
      · exact (endTurn_offBus ..).stood
      · exact .of_bus (by simp [enterHang])

theorem joinQueue_stood (e : Entry) (s : State) : BusStood s (joinQueue e s) := .of_bus (by simp)

theorem rekeyGranted_stood (seat : SeatNo) (g : Grant) (s : State) : BusStood s (rekeyGranted seat g s) := by
  unfold rekeyGranted
  exact (BusStood.of_bus (by simp)).trans (.ite (setupComplete_offBus _).stood (.of_bus (by simp)))

/-- A REQUEST is refused, judged for the queue, or a re-key. -/
theorem doRequest_is (seat : SeatNo) (s : State) : (doRequest seat s).1 = s
    ∨ (∃ e, (doRequest seat s).1 = (requestQueued e s).1) ∨ ∃ h e, (doRequest seat s).1 = (rekey h e s).1 := by
  unfold doRequest
  simp only
  split
  · exact .inl rfl
  split
  · exact .inl rfl
  split
  · exact .inl rfl
  split
  · exact .inl rfl
  split
  · exact .inl rfl
  split
  · exact .inl rfl
  split
  · exact .inl rfl
  split
  · split
    · split
      · exact .inr (.inr ⟨_, _, rfl⟩)
      · exact .inl rfl
    · exact .inr (.inl ⟨_, rfl⟩)
  · exact .inr (.inl ⟨_, rfl⟩)

/-- What a REQUEST leaves of the bus. -/
theorem doRequest_stood (seat : SeatNo) (s : State) : BusStood s (doRequest seat s).1 := by
  have hq (e : Entry) : BusStood s (requestQueued e s).1 := by
    unfold requestQueued
    split
    · exact .refl s
    · exact (joinQueue_stood e s).trans (queueChanged_stood _)
  have hh {judge : State → State × Reply} (hj : ∀ v, BusStood v (judge v).1) :
      BusStood s (endHangWith judge s).1 :=
    ((endTurnCore_offBus ..).stood.trans (hj _)).trans (enterIdle_stood _)
  have hr (h : Holder) (e : Entry) : BusStood s (rekey h e s).1 := by
    unfold rekey
    split
    · split
      · exact .refl s
      · exact hh fun v => joinQueue_stood e v
      · exact rekeyGranted_stood ..
    · refine hh fun v => ?_
      unfold judgeAndJoin
      split
      · exact .refl v
      · exact joinQueue_stood e v
  obtain h | ⟨e, h⟩ | ⟨x, e, h⟩ := doRequest_is seat s
  · rw [h]
    exact .refl s
  · rw [h]
    exact hq e
  · rw [h]
    exact hr x e

theorem doWithdraw_stood (seat : SeatNo) (s : State) : BusStood s (doWithdraw seat s).1 := by
  unfold doWithdraw
  split
  · exact (BusStood.of_bus (by simp)).trans (queueChanged_stood _)
  · exact .refl s

theorem doRelease_stood (seat : SeatNo) (s : State) : BusStood s (doRelease seat s).1 := by
  unfold doRelease
  split
  · exact releaseFloor_stood s
  · exact .refl s

theorem doForceRelease_stood (seat : SeatNo) (s : State) : BusStood s (doForceRelease seat s).1 := by
  unfold doForceRelease
  simp only
  split
  · exact .refl s
  · exact forceRelease_stood ..

theorem revoke_stood (m : MemberNo) (s : State) : BusStood s (revoke m s) := by
  unfold revoke
  split
  · exact detachSeat_stood ..
  · exact .refl s

theorem suspend_stood (m : MemberNo) (s : State) : BusStood s (suspend m s) :=
  (BusStood.of_bus (by simp)).trans (revoke_stood m _)

theorem doAttach_stood (seat : SeatNo) (s : State) : BusStood s (doAttach seat s).1 := by
  unfold doAttach wrongCode
  (repeat' split) <;> first | exact .refl s | exact suspend_stood .. | exact .of_bus (by simp)

theorem doDetach_stood (seat : SeatNo) (s : State) : BusStood s (doDetach seat s).1 := by
  unfold doDetach
  split
  · exact detachSeat_stood ..
  · exact .refl s

theorem doMemberWrite_stood (seat : SeatNo) (s : State) : BusStood s (doMemberWrite seat s).1 := by
  unfold doMemberWrite
  split
  · split
    · exact .refl s
    · exact (BusStood.of_bus (by simp)).trans (.ite (revoke_stood ..) (.refl _))
  · exact .refl s

theorem doMemberRemove_stood (seat : SeatNo) (s : State) : BusStood s (doMemberRemove seat s).1 := by
  unfold doMemberRemove
  split
  · exact .refl s
  · next m _ =>
    have hs : BusStood s (setMember m none (suspend m s)) := (suspend_stood m s).trans (.of_bus (by simp))
    (repeat' split) <;> first | exact .refl s | exact hs

theorem detachOthers_stood (issuer : SeatNo) (s : State) : BusStood s (detachOthers issuer s) := by
  unfold detachOthers
  generalize List.finRange 12 = l
  induction l generalizing s with
  | nil => exact .refl s
  | cons x rest ih => exact (BusStood.ite (.refl s) (detachSeat_stood ..)).trans (ih _)

theorem doEndService_stood (seat : SeatNo) (s : State) : BusStood s (doEndService seat s).1 := by
  have he (v : State) : BusStood v (endEntries .serviceEnd v.queue v) := .of_bus (by simp)
  have hs : BusStood s (endService seat s) :=
    (((detachOthers_stood seat s).trans (he _)).trans (.ite (.refl _) (enterIdle_stood _))).trans (.of_bus rfl)
  unfold doEndService
  (repeat' split) <;> first | exact .refl s | exact hs

end Sys2Proof.Machine

/-! O50: the parts each command may touch. -/

namespace Sys2Proof.Machine

section

variable {ps : List Part} {s t u : State}

theorem Within.ite {c : Prop} [Decidable c] (h : Within ps s t) (h' : Within ps s u) :
    Within ps s (if c then t else u) := by
  split
  · exact h
  · exact h'

theorem EngineOnly.within (h : EngineOnly s t) : Within [.engine] s t := fun p hp => h p (by simpa using hp)

theorem EngineMoved.within (h : EngineMoved s t) : Within [.engine] s t := by
  obtain ⟨b, hb, rfl⟩ := h
  exact hb.engineOnly.within

/-! ### Detachments and orders -/

/-- Of the parts, the floor's and the seats' orders may touch these: the mode, the members and the attachments,
and what a turn's end reaches. -/
theorem BusStood.detached (h : BusStood s t) (hf : t.pending = s.pending ∧ t.free = s.free ∧ t.pins = s.pins
    ∧ t.stamp = s.stamp ∧ t.plan = s.plan ∧ t.station = s.station ∧ t.duty = s.duty
    ∧ t.handovers = s.handovers ∧ t.port = s.port) : Within (.mode :: detachParts) s t := by
  obtain ⟨h1, h2, h3, h4, h5, h6, h7, h8, h9⟩ := hf
  intro p hp
  cases p
  case commands => exact h1
  case freeCount => exact h2
  case lines => exact h3
  case stamp => exact h4
  case plan => exact h5
  case station => exact h6
  case heat => exact h7
  case engine => exact h.engine
  case believed => exact h.believed
  case handovers => exact h8
  case registers => simp [Kept, h9]
  all_goals exact absurd hp (by decide)

theorem BusStood.served (h : BusStood s t) (hf : t.pending = s.pending ∧ t.free = s.free ∧ t.pins = s.pins
    ∧ t.stamp = s.stamp ∧ t.plan = s.plan ∧ t.station = s.station ∧ t.duty = s.duty
    ∧ t.handovers = s.handovers ∧ t.port = s.port) (hm : t.mode = s.mode) (hr : t.members = s.members) :
    Within (.attachments :: turnParts) s t := by
  have hd : Within (.members :: .attachments :: turnParts) s t :=
    ((h.detached hf).drop hm).mono (by decide)
  exact hd.drop hr

theorem withHandovers_within (l : List SeatNo) (s : State) : Within [.handovers] s (s.withHandovers l) := by
  intro p hp
  cases p
  case handovers => exact absurd hp (by decide)
  all_goals simp [Kept]

theorem renewPresence_within (seat : SeatNo) (s : State) : Within [.attachments] s (renewPresence seat s) :=
  fun p hp => by
    have := orderTaken_kept seat s.handovers s (p := p)
    by_cases e : p = .handovers
    · subst e
      simp [Kept]
    · exact this e (by simpa using hp)

/-- R13, R165: the take of an order, what it carries out, and its answer. -/
theorem takeOrder_within {accepts : Byte → Bool} {carryOut : SeatNo → State → State × Reply}
    (h : ∀ seat u, Within ps u (carryOut seat u).1) (s : State) :
    Within (.handovers :: .attachments :: ps) s (takeOrder accepts carryOut s) :=
  takeOrder_kept (P := fun t => Within (.handovers :: .attachments :: ps) s t)
    (fun _ _ hu => hu.trans ((withHandovers_within _ _).mono (by simp)))
    (fun _ _ hu => hu.trans ((renewPresence_within _ _).mono (by simp)))
    (fun _ _ hu => hu.trans ((h _ _).mono (by simp)))
    (fun _ _ _ hu => hu.trans fun p _ => placeAnswer_kept _ _ _ p) (.refl s)

theorem withAuthority_within {carryOut : SeatNo → State → State × Reply}
    (h : ∀ seat u, Within ps u (carryOut seat u).1) (seat : SeatNo) (s : State) :
    Within ps s (withAuthority carryOut seat s).1 :=
  withAuthority_kept (P := fun t => Within ps s t) (fun _ _ hu => hu.trans (h _ _)) seat s (.refl s)

/-- An order that may serve the floor. -/
theorem execOrder_within {kind : Nat} {carryOut : SeatNo → State → State × Reply} {qs : List Part}
    (h : ∀ seat u, Within ps u (carryOut seat u).1) (hp : turnParts ⊆ qs)
    (hq : Part.handovers :: .attachments :: ps ⊆ qs) (s : State) :
    Within qs s (act (takeOrder (fun k => k.toNat == kind) carryOut) s) :=
  act_within hp ((takeOrder_within h s).mono hq)

/-- An order that leaves the floor. -/
theorem execOrder_within_floor {accepts : Byte → Bool} {carryOut : SeatNo → State → State × Reply}
    (h : ∀ seat u, Within ps u (carryOut seat u).1) (hp : Part.floor ∉ ps) (s : State) :
    Within (.handovers :: .attachments :: ps) s (act (takeOrder accepts carryOut) s) :=
  act_within_floor (by simpa using hp) (takeOrder_within h s)

theorem doAttach_within (seat : SeatNo) (s : State) : Within detachParts s (doAttach seat s).1 :=
  ((doAttach_stood seat s).detached (by simp)).drop (by simp [Kept])

theorem doDetach_within (seat : SeatNo) (s : State) : Within detachParts s (doDetach seat s).1 :=
  ((doDetach_stood seat s).detached (by simp)).drop (by simp [Kept])

theorem doMemberWrite_within (seat : SeatNo) (s : State) : Within detachParts s (doMemberWrite seat s).1 :=
  ((doMemberWrite_stood seat s).detached (by simp)).drop (by simp [Kept])

theorem doMemberRemove_within (seat : SeatNo) (s : State) : Within detachParts s (doMemberRemove seat s).1 :=
  ((doMemberRemove_stood seat s).detached (by simp)).drop (by simp [Kept])

theorem doEndService_within (seat : SeatNo) (s : State) : Within (.mode :: detachParts) s (doEndService seat s).1 :=
  (doEndService_stood seat s).detached (by simp)

theorem doRequest_within (seat : SeatNo) (s : State) :
    Within (.attachments :: turnParts) s (doRequest seat s).1 :=
  (doRequest_stood seat s).served (by simp) (by simp) (by simp)

theorem doWithdraw_within (seat : SeatNo) (s : State) :
    Within (.attachments :: turnParts) s (doWithdraw seat s).1 :=
  (doWithdraw_stood seat s).served (by simp) (by simp) (by simp)

theorem doRelease_within (seat : SeatNo) (s : State) :
    Within (.attachments :: turnParts) s (doRelease seat s).1 :=
  (doRelease_stood seat s).served (by simp) (by simp) (by simp)

theorem doForceRelease_within (seat : SeatNo) (s : State) :
    Within (.attachments :: turnParts) s (doForceRelease seat s).1 :=
  (doForceRelease_stood seat s).served (by simp) (by simp) (by simp)

/-! ### Orders on the tables -/

theorem doPresence_within (seat : SeatNo) (s : State) : Within [] s (doPresence seat s).1 := by
  intro p _
  cases p <;> simp [Kept]

theorem doCheck_within (seat : SeatNo) (s : State) : Within [] s (doCheck seat s).1 := by
  intro p _
  cases p <;> simp [Kept]

theorem doChangeCode_within (seat : SeatNo) (s : State) : Within [.members] s (doChangeCode seat s).1 := by
  intro p hp
  cases p
  case members => exact absurd hp (by decide)
  all_goals simp [Kept]

theorem doDayRoll_within (seat : SeatNo) (s : State) : Within [.members] s (doDayRoll seat s).1 := by
  intro p hp
  cases p
  case members => exact absurd hp (by decide)
  all_goals simp [Kept]

theorem doBandWrite_within (seat : SeatNo) (s : State) : Within [.plan] s (doBandWrite seat s).1 := by
  intro p hp
  cases p
  case plan => exact absurd hp (by decide)
  all_goals simp [Kept]

theorem doBandRemove_within (seat : SeatNo) (s : State) : Within [.plan] s (doBandRemove seat s).1 := by
  intro p hp
  cases p
  case plan => exact absurd hp (by decide)
  all_goals simp [Kept]

theorem doAmpRestore_within (seat : SeatNo) (s : State) : Within [.keying] s (doAmpRestore seat s).1 := by
  intro p hp
  cases p
  case keying => exact absurd hp (by decide)
  all_goals simp [Kept]

theorem doBeginService_within (seat : SeatNo) (s : State) : Within [.mode] s (doBeginService seat s).1 := by
  intro p hp
  cases p
  case mode => exact absurd hp (by decide)
  all_goals simp [Kept]

theorem doStationWrite_within (seat : SeatNo) (s : State) :
    Within [.station, .heat, .believed] s (doStationWrite seat s).1 := by
  have hb : (doStationWrite seat s).1.bus
      = { s.bus with believed := (doStationWrite seat s).1.bus.believed } := by
    unfold doStationWrite
    (repeat' split) <;> simp [forgetMoved, setBelieved]
  intro p hp
  cases p
  case station | heat | believed => exact absurd hp (by decide)
  case engine | work =>
    simp only [Kept]
    rw [hb]
    simp
  all_goals simp [Kept]

/-! ### The cells -/

theorem writeHandover_within (c : CellRef) (v : Byte) (s : State) : Within ps s (writeHandover c v s) := by
  intro p _
  cases p <;> simp [Kept]

theorem refuseWrite_within (a : Nat) (s : State) : Within [.registers] s (refuseWrite a s) := by
  intro p hp
  cases p
  case registers => exact absurd hp (by decide)
  all_goals simp [Kept]

theorem takeAudioCell_within (seat : SeatNo) (cell : AudioCellNo) (s : State) :
    Within (.freeCount :: .attachments :: turnParts) s (takeAudioCell seat cell s) := by
  have h := takeAudioCell_stood seat cell s
  intro p hp
  cases p
  case engine => exact h.engine
  case believed => exact h.believed
  case commands | lines | stamp | mode | members | plan | station | heat | handovers | registers => simp [Kept]
  all_goals exact absurd hp (by decide)

theorem judgeBusCell_within (n : BusCellNo) (s : State) : Within [.work] s (judgeBusCell n s) := by
  intro p hp
  unfold judgeBusCell
  split
  · cases p
    case work => exact absurd hp (by decide)
    all_goals simp [Kept]
  · cases p
    case registers => simp [Kept, returnBusCell, setSummary]
    all_goals simp [Kept]

/-- R160, R161: a hand-over that is refused, or that reaches the block that owns the cell. -/
theorem handOver_within {c : CellRef} (hp : Part.floor ∉ ps ∨ turnParts ⊆ ps) (hr : Part.registers ∈ ps)
    (h : Within ps s (acceptHandover c s)) : Within ps s (handOver c s) := by
  have hw : Within ps s (writeToHandover c 1 s) := by
    unfold writeToHandover
    exact .ite h ((refuseWrite_within _ s).mono (by simpa using hr))
  unfold handOver
  refine .ite ?_ (.refl s)
  rcases hp with hp | hp
  · exact act_within_floor hp hw
  · exact act_within hp hw

theorem handOver_order_within (seat : SeatNo) (s : State) :
    Within [.handovers, .registers] s (handOver (.order seat) s) :=
  handOver_within (.inl (by decide)) (by decide)
    ((writeHandover_within (.order seat) 1 s).trans ((withHandovers_within _ _).mono (by decide)))

theorem handOver_report_within (seat : SeatNo) (s : State) : Within [.registers] s (handOver (.report seat) s) :=
  handOver_within (.inl (by decide)) (by decide) (writeHandover_within (.report seat) 1 s)

theorem handOver_bus_within (n : BusCellNo) (s : State) : Within [.registers, .work] s (handOver (.bus n) s) :=
  handOver_within (.inl (by decide)) (by decide)
    ((writeHandover_within (.bus n) 1 s).trans ((judgeBusCell_within n _).mono (by decide)))

theorem handOver_audio_within (seat : SeatNo) (cell : AudioCellNo) (s : State) :
    Within ([.registers, .freeCount, .attachments] ++ turnParts) s (handOver (.audio seat cell) s) :=
  handOver_within (.inr (by decide)) (by decide)
    (((writeHandover_within (.audio seat cell) 1 s).trans ((takeAudioCell_within seat cell _).mono (by decide))).trans
      (writeHandover_within _ _ _))

/-! ### Power-on and the host's writes -/

/-- The parts that a restart replaces. -/
def restartParts : List Part :=
  Part.all.filter fun p => p ≠ .commands ∧ p ≠ .freeCount ∧ p ≠ .lines ∧ p ≠ .plan ∧ p ≠ .station

/-- The parts that the host's writes may reach. -/
def hostParts : List Part := Part.all.filter fun p => p ≠ .commands ∧ p ≠ .lines ∧ p ≠ .plan ∧ p ≠ .station

theorem restartState_within (s : State) : Within restartParts s (restartState s) := by
  intro p hp
  cases p
  case commands | freeCount | lines | plan | station => simp [Kept, restartState, powerOnState]
  all_goals exact absurd hp (by decide)

theorem powerOnState_within (s : State) :
    Within (Part.all.filter fun p => p ≠ .commands ∧ p ≠ .freeCount ∧ p ≠ .lines) s (powerOnState s) := by
  intro p hp
  cases p
  case commands | freeCount | lines => simp [Kept, powerOnState]
  all_goals exact absurd hp (by decide)

theorem withPins_within (x : Pins) (s : State) : Within [.lines] s (s.withPins x) := by
  intro p hp
  cases p
  case lines => exact absurd hp (by decide)
  all_goals simp [Kept]

/-- R163: the register window. -/
theorem withPort_within (x : Port) (s : State) : Within [.registers] s (s.withPort x) := by
  intro p hp
  cases p
  case registers => exact absurd hp (by decide)
  all_goals simp [Kept]

theorem registerByte_within (position : Nat) (v : Byte) (s : State) :
    Within restartParts s (registerByte position v s) := by
  have hc (ones : BitVec 16) : Within restartParts s (clearSummary ones s) :=
    (withPort_within _ s).mono (by decide)
  have hm (high : Bool) : Within restartParts s (storeMask high v s) := (withPort_within _ s).mono (by decide)
  unfold registerByte
  split
  · exact hc _
  · exact hc _
  · exact hm _
  · exact hm _
  · exact .ite (restartState_within s) (.refl s)
  · exact .refl s

theorem ramWrite_within (a : Nat) (v : Byte) (s : State) : Within hostParts s (ramWrite a v s) := by
  intro p hp
  cases p
  case commands | lines | plan | station => simp [Kept]
  all_goals exact absurd hp (by decide)

theorem hostByte_within (a : Nat) (v : Byte) (s : State) : Within hostParts s (hostByte a v s) := by
  unfold hostByte
  exact .ite (.ite ((registerByte_within _ _ s).mono (by decide)) (act_within (by decide) (ramWrite_within a v s)))
    (.refl s)

theorem hostBytes_within (a : Nat) (data : List Byte) (s : State) : Within hostParts s (hostBytes a data s) := by
  induction data generalizing a s with
  | nil => exact .refl s
  | cons v rest ih => exact (hostByte_within a v s).trans (ih _ _)

theorem transaction_within (command : Byte) (address : BitVec 16) (data : List Byte) (s : State) :
    Within hostParts s (transaction command address data s) := by
  have hp (x : Port) : Within hostParts s (s.withPort x) := (withPort_within x s).mono (by decide)
  unfold transaction
  refine .ite (.refl s) ?_
  split
  · exact .ite (hp _) (.ite (hostBytes_within _ data s) (hp _))
  · exact .refl s
  · exact .ite (hp _) (.refl s)

theorem holdReset_within (s : State) : Within [.lines, .playout, .ident, .tone, .keying, .engine] s (holdReset s) := by
  have hu := unkey_offBus s
  obtain ⟨hi, hw⟩ : (unkey s).bus.inFlight = s.bus.inFlight ∧ (unkey s).bus.floorWork = s.bus.floorWork :=
    ⟨unkey_inFlight s, unkey_floorWork s⟩
  intro p hp
  cases p
  case lines | playout | ident | tone | keying | engine => exact absurd hp (by decide)
  case work => simpa [Kept, holdReset] using ⟨hi, hw, hu.cells⟩
  case believed => simpa [Kept, holdReset] using hu.believed
  all_goals simp [Kept, holdReset]

/-! ### The floor's own events -/

/-- A deed of moves that leaves the bus to the floor. -/
theorem moved_within {f : State → State} (hm : ∀ s, Moves s (f s)) (hb : ∀ s, BusStood s (f s))
    (hf : ∀ s, (f s).free = s.free) (s : State) : Within turnParts s (act f s) :=
  act_within (fun _ h => h) ((hb s).within (hm s) (hf s))

theorem startWaitExpired_stood (s : State) : BusStood s (startWaitExpired s) :=
  .ite (endTurn_offBus ..).stood (.refl s)

theorem keyDownExpired_stood (s : State) : BusStood s (keyDownExpired s) := by
  unfold keyDownExpired
  split
  · exact .ite (endTurn_offBus ..).stood (.refl s)
  · exact .refl s

theorem hangExpired_stood (s : State) : BusStood s (hangExpired s) := .ite (endTurn_offBus ..).stood (.refl s)

theorem rejoinExpired_stood (s : State) : BusStood s (rejoinExpired s) := .ite (endTurn_offBus ..).stood (.refl s)

theorem leadExpired_stood (s : State) : BusStood s (leadExpired s) := .ite (enterKeyed_stood s) (.refl s)

theorem playoutExpired_stood (s : State) : BusStood s (playoutExpired s) :=
  .ite ((BusStood.of_bus (s := s) (t := s.withPlayout { s.playout with timer := some 20 }) rfl).trans (playoutStep_stood _))
    (.refl s)

theorem periodicExpired_stood (s : State) : BusStood s (periodicExpired s) :=
  .ite ((BusStood.of_bus (s := s) (t := s.withIdent { s.ident with periodic := none }) rfl).trans (becomePending_stood _))
    (.refl s)

theorem closingExpired_stood (s : State) : BusStood s (closingExpired s) :=
  .ite ((BusStood.of_bus (s := s) (t := s.withIdent { s.ident with closing := none }) rfl).trans (becomePending_stood _))
    (.refl s)

theorem askIdent_stood (s : State) : BusStood s (askIdent s) :=
  .ite ((BusStood.of_bus (s := s) (t := s.withFloor { s.floor with identAsked := true }) rfl).trans (keyRequest_stood _))
    (.refl s)

theorem noStatusReached_stood (s : State) : BusStood s (noStatusReached s) :=
  .ite (noStatusReport_stood s) (.refl s)

/-- R75, R80: the end of a duty interval. -/
theorem dutyExpired_within (s : State) : Within (.heat :: turnParts) s (act dutyExpired s) := by
  have hu : Within [.heat] s (updateHeat s) := by
    intro p hp
    cases p
    case heat => exact absurd hp (by decide)
    all_goals simp [Kept]
  have hd : Within turnParts (updateHeat s) (dutyReport (dutyExcess s) (updateHeat s)) :=
    (dutyReport_stood ..).within (dutyReport_moves ..) (by simp)
  have hf (v : State) : Within [] v (refreshFigures v) := by
    intro p _
    cases p <;> simp [Kept]
  exact act_within (by decide)
    (((hu.mono (by decide)).trans (hd.mono (by decide))).trans ((hf _).mono (by decide)))

theorem lines_within {f : State → State} {x : Pins} (h : Within turnParts (s.withPins x) t) (hf : f s = t) :
    Within (.lines :: turnParts) s (act f s) :=
  act_within (by decide) (by
    rw [hf]
    exact ((withPins_within x s).mono (by decide)).trans (h.mono (by decide)))

theorem inhibitTaken_within (s : State) : Within (.lines :: turnParts) s (act inhibitTaken s) := by
  have hu : Within turnParts (setInhibit true s) (unkey (setInhibit true s)) :=
    (unkey_offBus _).stood.within (.unkey _) (by simp)
  have hi : Within turnParts (unkey (setInhibit true s)) (inhibitReport (unkey (setInhibit true s))) :=
    (inhibitReport_stood _).within (inhibitReport_moves (by simp)) (by simp)
  exact lines_within (hu.trans hi) rfl

theorem inhibitCleared_within (s : State) : Within (.lines :: turnParts) s (act inhibitCleared s) := by
  have hc : Within turnParts (setInhibit false s)
      (if (setInhibit false s).floor.state = .idle then serve (setInhibit false s) else setInhibit false s) := by
    split
    · next h => exact (serve_offBus _).stood.within (serve_moves (.inl h)) (by simp)
    · exact .refl _
  exact lines_within hc rfl

theorem ampFaultTaken_within (s : State) : Within (.lines :: turnParts) s (act ampFaultTaken s) := by
  have hm := ampFault_moves (setAmpFault true s)
  have hb : BusStood (setAmpFault true s)
      (if ampFaultHolds (setAmpFault true s) then takeAmpFault (setAmpFault true s) else setAmpFault true s) :=
    .ite (takeAmpFault_stood _) (.refl _)
  refine lines_within (hb.within hm ?_) rfl
  split <;> simp

end

end Sys2Proof.Machine

/-! O50: each command is within the parts it may touch. -/

namespace Sys2Proof.Machine

section

variable {ps : List Part} {s t u : State}

/-! ### What the small events touch -/

theorem raise_within (seat : SeatNo) (body : NoticeBody) (s : State) : Within ps s (raise seat body s) :=
  fun p _ => modSeat_kept (fun r => by
    unfold Seat.receive
    split
    · exact ⟨_, r.answer, rfl⟩
    · exact ⟨r.notices, r.answer, rfl⟩) s p

/-- A notice for all changes no part. -/
theorem raiseAll_within (body : NoticeBody) (s : State) : Within ps s (raiseAll body s) := by
  have hr (r : Seat) : (Seat.receive ⟨body, s.stamp⟩ r).attachment = r.attachment
      ∧ (Seat.receive ⟨body, s.stamp⟩ r).counters = r.counters
      ∧ (Seat.receive ⟨body, s.stamp⟩ r).saturated = r.saturated
      ∧ (Seat.receive ⟨body, s.stamp⟩ r).criteria = r.criteria
      ∧ (Seat.receive ⟨body, s.stamp⟩ r).warned = r.warned := by
    unfold Seat.receive
    split <;> simp
  have hx (x : SeatNo) : (raiseAll body s).seats[x] = Seat.receive ⟨body, s.stamp⟩ s.seats[x] := by
    simp [raiseAll]
  intro p _
  cases p
  case attachments => exact fun x => by rw [hx]; exact (hr _).1
  case figures => exact fun x => by rw [hx]; exact (hr _).2
  all_goals simp [Kept]

theorem withFloor_within (x : Floor) (s : State) : Within [.floor] s (s.withFloor x) := by
  intro p hp
  cases p
  case floor => exact absurd hp (by decide)
  all_goals simp [Kept]

theorem withIdent_within (x : Ident) (s : State) : Within [.ident] s (s.withIdent x) := by
  intro p hp
  cases p
  case ident => exact absurd hp (by decide)
  all_goals simp [Kept]

theorem withWatch_within (x : Watch) (s : State) : Within [.watch] s (s.withWatch x) := by
  intro p hp
  cases p
  case watch => exact absurd hp (by decide)
  all_goals simp [Kept]

theorem withTone_within (x : Tone) (s : State) : Within [.tone] s (s.withTone x) := by
  intro p hp
  cases p
  case tone => exact absurd hp (by decide)
  all_goals simp [Kept]

theorem withPlayout_within (x : Playout) (s : State) : Within [.playout] s (s.withPlayout x) := by
  intro p hp
  cases p
  case playout => exact absurd hp (by decide)
  all_goals simp [Kept]

theorem withDuty_within (x : Duty) (s : State) : Within [.heat] s (s.withDuty x) := by
  intro p hp
  cases p
  case heat => exact absurd hp (by decide)
  all_goals simp [Kept]

theorem modMember_within (m : MemberNo) (f : Member → Member) (s : State) : Within [.members] s (modMember m f s) := by
  intro p hp
  cases p
  case members => exact absurd hp (by decide)
  all_goals simp [Kept]

/-- R87: a counter is a figure of its seat. -/
theorem raiseCounter_within (seat : SeatNo) (n : CounterName) (s : State) :
    Within [.figures] s (raiseCounter seat n s) := by
  have hm := raiseCounter_moves seat n s
  intro p hp
  cases p
  case figures => exact absurd hp (by decide)
  case attachments => exact hm.seatsKept.attachment
  all_goals simp [Kept]

theorem raiseHolderCounter_within (n : CounterName) (s : State) : Within [.figures] s (raiseHolderCounter n s) := by
  unfold raiseHolderCounter
  split
  · exact raiseCounter_within _ n s
  · exact .refl s

theorem openWindow_within (s : State) : Within [.ident] s (openWindow s) := by
  unfold openWindow
  exact .ite (.refl s) (withIdent_within _ s)

theorem maybeOverlay_within (s : State) : Within [.ident] s (maybeOverlay s) := by
  unfold maybeOverlay startOverlaySender
  exact .ite (withIdent_within _ s) (.refl s)

/-! ### The small events -/

theorem timeWarning_within (s : State) : Within [.floor] s (act timeWarning s) := by
  have h : Within [.floor] s (timeWarning s) ∧ (timeWarning s).floor.state = s.floor.state
      ∧ (timeWarning s).floor.holder = s.floor.holder := by
    unfold timeWarning
    split
    · split
      · exact ⟨(withFloor_within _ s).trans (raise_within _ _ _), by simp, by simp⟩
      · exact ⟨.refl s, rfl, rfl⟩
    · exact ⟨.refl s, rfl, rfl⟩
  obtain ⟨hw, hs, hh⟩ := h
  exact act_within_still hs hh hw

theorem keyedMs_within (s : State) : Within [.heat, .floor, .members] s (act keyedMs s) := by
  have ht : Within [.heat, .floor, .members] s (tallyMs s) ∧ (tallyMs s).floor = s.floor := by
    unfold tallyMs
    exact ⟨.ite ((withDuty_within _ s).mono (by decide)) (.refl s), by split <;> simp⟩
  have hf (v : State) : Within [.heat, .floor, .members] v (turnMs v) ∧ (turnMs v).floor.state = v.floor.state
      ∧ (turnMs v).floor.holder = v.floor.holder := by
    unfold turnMs
    split
    · exact ⟨(withFloor_within _ v).mono (by decide), rfl, rfl⟩
    · exact ⟨.refl v, rfl, rfl⟩
  have hu (v : State) : Within [.heat, .floor, .members] v (useMs v) ∧ (useMs v).floor = v.floor := by
    unfold useMs
    split
    · exact ⟨(modMember_within _ _ v).mono (by decide), by simp⟩
    · exact ⟨.refl v, rfl⟩
  have h : Within [.heat, .floor, .members] s (keyedMs s) ∧ (keyedMs s).floor.state = s.floor.state
      ∧ (keyedMs s).floor.holder = s.floor.holder := by
    unfold keyedMs
    split
    · exact ⟨.refl s, rfl, rfl⟩
    · obtain ⟨h1, h2⟩ := ht
      obtain ⟨h3, h4, h5⟩ := hf (tallyMs s)
      obtain ⟨h6, h7⟩ := hu (turnMs (tallyMs s))
      exact ⟨(h1.trans h3).trans h6, by rw [h7, h4, h2], by rw [h7, h5, h2]⟩
  obtain ⟨hw, hs, hh⟩ := h
  exact act_within_still hs hh hw

theorem trimReached_within (s : State) : Within [.playout, .figures] s (act trimReached s) := by
  have h : Within [.playout, .figures] s (trimFrame s) := by
    unfold trimFrame
    split
    · exact ((withPlayout_within _ s).mono (by decide)).trans ((raiseHolderCounter_within _ _).mono (by decide))
    · exact .refl s
  exact act_within_floor (by decide) (.ite h (.refl s))

theorem windowEnd_within (s : State) : Within [.watch] s (act windowEnd s) := by
  have h : Within [.watch] s (restartWindow s) := withWatch_within _ s
  exact act_within_floor (by decide) (.ite h (.refl s))

theorem graceExpired_within (s : State) : Within [.ident] s (act graceExpired s) := by
  have h : Within [.ident] s (becomeOverdue s) := (withIdent_within _ s).trans (maybeOverlay_within _)
  exact act_within_floor (by decide) (.ite h (.refl s))

theorem overlayDone_within (snd : Sender) (s : State) : Within [.ident, .watch] s (overlayDone snd s) := by
  have hq : Within [.ident, .watch] s (openWindow (closeWindow (quietSender s))) :=
    (((withIdent_within _ s).trans (withIdent_within _ _)).trans (openWindow_within _)).mono (by decide)
  have hn (v : State) : Within [.ident, .watch] v (raiseIdentNotice snd v) := raiseAll_within _ v
  have hw (v : State) : Within [.ident, .watch] v (restartWindow v) := (withWatch_within _ v).mono (by decide)
  unfold overlayDone
  exact (hq.trans (hn _)).trans (.ite (hw _) (.refl _))

theorem overlayComplete_within (s : State) : Within [.ident, .watch] s (act overlayComplete s) := by
  have h : Within [.ident, .watch] s (overlayComplete s) := by
    unfold overlayComplete
    split
    · exact .ite (overlayDone_within _ s) (.refl s)
    · exact .refl s
  exact act_within_floor (by decide) h

theorem toggleGate_within (s : State) : Within [.tone] s (act toggleGate s) :=
  act_within_floor (by decide) (.ite (withTone_within _ s) (.refl s))

theorem cwTransition_within (s : State) : Within [.playout] s (act cwTransition s) := by
  have h : Within [.playout] s (cwTransition s) := by
    unfold cwTransition
    split
    · split
      · exact withPlayout_within _ s
      · exact .refl s
    · exact .refl s
  exact act_within_floor (by decide) h

/-- R138: the poll's own entry and timer are among what no part shows. -/
theorem pollExpired_within (s : State) : Within [] s (act pollExpired s) := by
  have hk : Within [] s (s.withKeying { s.keying with poll := some 1000 }) := by
    intro p _
    cases p <;> simp [Kept]
  have hp (v : State) : Within [] v (v.withBus { v.bus with pollWork := some (newTxn .poll .status) }) := by
    intro p _
    cases p <;> simp [Kept]
  have h : Within [] s (pollExpired s) := by
    unfold pollExpired placePoll
    exact .ite (hk.trans (.ite (.refl _) (hp _))) (.refl s)
  exact act_within_floor (by decide) h

/-! ### The bus and the panel -/

/-- A deed of moves. -/
theorem moved_within_bus {f : State → State} (hm : ∀ s, Moves s (f s)) (hf : ∀ s, (f s).free = s.free) (s : State) :
    Within ([.engine, .believed] ++ turnParts) s (act f s) :=
  act_within (by decide) ((hm s).within_bus (hf s))

theorem engine_within {f : State → State} (h : EngineMoved s (f s)) : Within [.engine] s (act f s) :=
  act_within_floor (by decide) h.within

theorem foreignOpening_moved (heard : Heard) (s : State) : EngineMoved s (foreignOpening heard s) := by
  unfold foreignOpening
  split
  · split
    · exact hear_moved none s
    · exact .refl s
  · split
    · exact hear_moved _ s
    · exact .refl s
  · exact foreignFrame_moved _ s

theorem busQuiet_moved (s : State) : EngineMoved s (busQuiet s) := by
  unfold busQuiet
  split
  · exact .withBus ⟨rfl, rfl, rfl, rfl, rfl⟩
  · exact .refl s

theorem holdTimedOut_moved (s : State) : EngineMoved s (holdTimedOut s) := by
  unfold holdTimedOut
  split
  · exact .withBus ⟨rfl, rfl, rfl, rfl, rfl⟩
  · exact .refl s

theorem recovered_moved (s : State) : EngineMoved s (recovered s) := by
  unfold recovered
  split
  · rw [clockPulses_eq 8]
    exact .withBus ⟨rfl, rfl, rfl, rfl, rfl⟩
  · exact .refl s

theorem answerState_moved (asked : ReplyAsked) (s : State) : EngineMoved s (answerState asked s) := by
  unfold answerState
  simp only
  split
  · exact .withBus ⟨rfl, rfl, rfl, rfl, rfl⟩
  · exact .withBus ⟨rfl, rfl, rfl, rfl, rfl⟩

/-- R148, R149: a panel message moves the engine, and the floor by what the message asks. -/
theorem panelMessage_within {f : State → State} (m : PanelMessage) (hm : ∀ s, Moves s (f s))
    (hb : ∀ s, BusStood s (f s)) (hf : ∀ s, (f s).free = s.free) (s : State) :
    Within (.engine :: turnParts) s (act (panelMessage m f) s) := by
  have hfl (v : State) : Within (.engine :: turnParts) v (f v) := ((hb v).within (hm v) (hf v)).mono (by decide)
  have hin (v : State) : Within (.engine :: turnParts) v (emptyInbound v) :=
    (emptyInbound_engineOnly v).within.mono (by decide)
  have hmove {v w : State} (h : EngineMoved v w) : Within (.engine :: turnParts) v w := h.within.mono (by decide)
  have h : Within (.engine :: turnParts) s (panelMessage m f s) := by
    unfold panelMessage
    exact .ite ((hfl s).trans (hin _)) (.ite
      (((hmove ((openAnew_moved s).trans ((closeFrame_moved _ _).trans (fillInbound_moved _ _)))).trans (hfl _)).trans
        (hin _)) (hmove ((openAnew_moved s).trans (foreignFrame_moved _ _))))
  exact act_within (by decide) h

theorem giveStation_stood (s : State) : BusStood s (giveStation s) := .ite (enterIdle_stood s) (.refl s)

theorem resumeStation_stood (s : State) : BusStood s (resumeStation s) := .ite (enterIdle_stood s) (.refl s)

theorem presenceExpired_within (seat : SeatNo) (s : State) : Within detachParts s (act (presenceExpired seat) s) := by
  have h : Within detachParts s (presenceExpired seat s) := by
    unfold presenceExpired
    split
    · exact ((detachSeat_stood _ _ s).detached (by simp)).drop (by simp [Kept])
    · exact .refl s
  exact act_within (by decide) h

end

/-! ### Every command -/

/-- O50: a command changes no part but those it may touch. -/
theorem exec_within (c : Instr) (s : State) : ∃ t, exec c s = .next t ∧ Within (touches c) s t := by
  cases c
  case powerOn => exact ⟨_, rfl, powerOnState_within s⟩
  case resetAsserted => exact ⟨_, rfl, holdReset_within s⟩
  case resetReleased =>
    exact ⟨_, rfl, ((withPins_within _ s).mono (by decide)).trans ((powerOnState_within _).mono (by decide))⟩
  case restart => exact ⟨_, rfl, .ite (restartState_within s) (.refl s)⟩
  case summaryWrite => exact ⟨_, rfl, .ite (withPort_within _ s) (.refl s)⟩
  case maskWrite => exact ⟨_, rfl, .ite (withPort_within _ s) (.refl s)⟩
  case registerWrite => exact ⟨_, rfl, .ite (registerByte_within _ _ s) (.refl s)⟩
  case hostWrite => exact ⟨_, rfl, transaction_within _ _ _ s⟩
  case orderCellHandover seat => exact ⟨_, rfl, handOver_order_within seat s⟩
  case reportCellReturn seat => exact ⟨_, rfl, handOver_report_within seat s⟩
  case audioCellTake seat cell => exact ⟨_, rfl, handOver_audio_within seat cell s⟩
  case busCellHandover cell => exact ⟨_, rfl, handOver_bus_within cell s⟩
  case exchangeTransactionClose => exact ⟨_, rfl, .ite (.refl s) (withPort_within _ s)⟩
  case attach => exact ⟨_, rfl, execOrder_within doAttach_within (by decide) (by decide) s⟩
  case detach => exact ⟨_, rfl, execOrder_within doDetach_within (by decide) (by decide) s⟩
  case memberWrite =>
    exact ⟨_, rfl, execOrder_within (withAuthority_within doMemberWrite_within) (by decide) (by decide) s⟩
  case memberRemove =>
    exact ⟨_, rfl, execOrder_within (withAuthority_within doMemberRemove_within) (by decide) (by decide) s⟩
  case endService =>
    exact ⟨_, rfl, execOrder_within (withAuthority_within doEndService_within) (by decide) (by decide) s⟩
  case request => exact ⟨_, rfl, execOrder_within doRequest_within (by decide) (by decide) s⟩
  case withdraw => exact ⟨_, rfl, execOrder_within doWithdraw_within (by decide) (by decide) s⟩
  case release => exact ⟨_, rfl, execOrder_within doRelease_within (by decide) (by decide) s⟩
  case forceRelease =>
    exact ⟨_, rfl, execOrder_within (withAuthority_within doForceRelease_within) (by decide) (by decide) s⟩
  case presence => exact ⟨_, rfl, execOrder_within_floor doPresence_within (by decide) s⟩
  case check => exact ⟨_, rfl, execOrder_within_floor doCheck_within (by decide) s⟩
  case unknownOrder => exact ⟨_, rfl, execOrder_within_floor (ps := []) (fun _ u => .refl u) (by decide) s⟩
  case changeCode => exact ⟨_, rfl, execOrder_within_floor doChangeCode_within (by decide) s⟩
  case dayRoll => exact ⟨_, rfl, execOrder_within_floor (withAuthority_within doDayRoll_within) (by decide) s⟩
  case bandWrite => exact ⟨_, rfl, execOrder_within_floor (withAuthority_within doBandWrite_within) (by decide) s⟩
  case bandRemove => exact ⟨_, rfl, execOrder_within_floor (withAuthority_within doBandRemove_within) (by decide) s⟩
  case ampRestore => exact ⟨_, rfl, execOrder_within_floor (withAuthority_within doAmpRestore_within) (by decide) s⟩
  case stationWrite =>
    exact ⟨_, rfl, execOrder_within_floor (withAuthority_within doStationWrite_within) (by decide) s⟩
  case beginService =>
    exact ⟨_, rfl, execOrder_within_floor (withAuthority_within doBeginService_within) (by decide) s⟩
  case presenceExpiry seat => exact ⟨_, rfl, presenceExpired_within seat s⟩
  case setupPlace => exact ⟨_, rfl, moved_within setUp_moves setUp_stood (by simp) s⟩
  case startWaitExpiry => exact ⟨_, rfl, moved_within startWaitExpired_moves startWaitExpired_stood (by simp) s⟩
  case keyDownExpiry => exact ⟨_, rfl, moved_within keyDownExpired_moves keyDownExpired_stood (by simp) s⟩
  case hangExpiry => exact ⟨_, rfl, moved_within hangExpired_moves hangExpired_stood (by simp) s⟩
  case rejoinExpiry => exact ⟨_, rfl, moved_within rejoinExpired_moves rejoinExpired_stood (by simp) s⟩
  case leadTimerExpiry => exact ⟨_, rfl, moved_within leadExpired_moves leadExpired_stood (by simp) s⟩
  case playoutStep => exact ⟨_, rfl, moved_within playoutExpired_moves playoutExpired_stood (by simp) s⟩
  case periodicIdExpiry => exact ⟨_, rfl, moved_within periodicExpired_moves periodicExpired_stood (by simp) s⟩
  case closingExpiry => exact ⟨_, rfl, moved_within closingExpired_moves closingExpired_stood (by simp) s⟩
  case identKeyRequest => exact ⟨_, rfl, moved_within askIdent_moves askIdent_stood (by simp) s⟩
  case morseElementEnd => exact ⟨_, rfl, moved_within elementEnd_moves elementEnd_stood (by simp) s⟩
  case idComplete => exact ⟨_, rfl, moved_within idComplete_moves idComplete_stood (by simp) s⟩
  case noStatus => exact ⟨_, rfl, moved_within noStatusReached_moves noStatusReached_stood (by simp) s⟩
  case timeWarning => exact ⟨_, rfl, timeWarning_within s⟩
  case keyedMillisecond => exact ⟨_, rfl, keyedMs_within s⟩
  case dutyIntervalExpiry => exact ⟨_, rfl, dutyExpired_within s⟩
  case trim => exact ⟨_, rfl, trimReached_within s⟩
  case disorderWindowEnd => exact ⟨_, rfl, windowEnd_within s⟩
  case graceExpiry => exact ⟨_, rfl, graceExpired_within s⟩
  case overlayComplete => exact ⟨_, rfl, overlayComplete_within s⟩
  case tuneGateToggle => exact ⟨_, rfl, toggleGate_within s⟩
  case cwKeyTransition => exact ⟨_, rfl, cwTransition_within s⟩
  case pollTimerExpiry => exact ⟨_, rfl, pollExpired_within s⟩
  case txInhibitAsserted =>
    exact ⟨_, rfl, .ite (.refl s) (.ite ((withPins_within _ s).mono (by decide)) (inhibitTaken_within s))⟩
  case txInhibitDeasserted =>
    exact ⟨_, rfl, .ite (.ite ((withPins_within _ s).mono (by decide)) (inhibitCleared_within s)) (.refl s)⟩
  case ampFaultAsserted =>
    exact ⟨_, rfl, .ite (.refl s) (.ite ((withPins_within _ s).mono (by decide)) (ampFaultTaken_within s))⟩
  case ampFaultDeasserted => exact ⟨_, rfl, withPins_within _ s⟩
  case busTransactionStart => exact ⟨_, rfl, moved_within_bus startTransaction_moves (by simp) s⟩
  case busAttemptEnd ended => exact ⟨_, rfl, moved_within_bus (attemptEnd_moves ended) (by simp) s⟩
  case busStuck lines => exact ⟨_, rfl, moved_within_bus (stuck_moves lines) (by simp) s⟩
  case foreignOpening heard => exact ⟨_, rfl, engine_within (foreignOpening_moved heard s)⟩
  case busFree => exact ⟨_, rfl, engine_within (busQuiet_moved s)⟩
  case busRecovery => exact ⟨_, rfl, engine_within (recovered_moved s)⟩
  case stateQuery asked => exact ⟨_, rfl, engine_within (answerState_moved asked s)⟩
  case inboundHoldTimeout => exact ⟨_, rfl, engine_within (holdTimedOut_moved s)⟩
  case take => exact ⟨_, rfl, panelMessage_within .take takeStation_moves takeStation_stood (by simp) s⟩
  case give => exact ⟨_, rfl, panelMessage_within .give giveStation_moves giveStation_stood (by simp) s⟩
  case halt => exact ⟨_, rfl, panelMessage_within .halt haltStation_moves haltStation_stood (by simp) s⟩
  case resume => exact ⟨_, rfl, panelMessage_within .resume resumeStation_moves resumeStation_stood (by simp) s⟩

end Sys2Proof.Machine

/-! O50: what is heard of a change of the floor state, and the board's rewrite (R70, R169, R170). -/

namespace Sys2Proof.Machine

section

variable {b s t u : State}

/-! ### Neither time nor the board's number moves within an act -/

/-- Neither the stamp nor the board's update count has moved on. -/
structure Unwritten (s t : State) : Prop where
  stamp : t.stamp = s.stamp
  count : t.page.updateCount = s.page.updateCount

theorem Unwritten.trans (h : Unwritten s t) (h' : Unwritten t u) : Unwritten s u :=
  ⟨h'.stamp.trans h.stamp, h'.count.trans h.count⟩

theorem Unwritten.of_page (hs : t.stamp = s.stamp) (hp : t.page = s.page) : Unwritten s t := ⟨hs, by rw [hp]⟩

theorem Unwritten.of_shownPage (hs : t.stamp = s.stamp) (hp : shownPage t = shownPage s) : Unwritten s t := by
  have hc := congrArg Page.updateCount hp
  exact ⟨hs, hc⟩

theorem Moves.unwritten (h : Moves s t) : Unwritten s t := by
  obtain ⟨-, -, hs, -⟩ := h.frame
  exact .of_shownPage hs h.shownPage

theorem setFloorState_unwritten (new : FloorState) (s : State) : Unwritten s (setFloorState new s) :=
  .of_shownPage (by simp) (shownPage_setFloorState new s)

theorem joinQueue_unwritten (e : Entry) (s : State) : Unwritten s (joinQueue e s) :=
  Unwritten.trans (t := s.withQueue (insertEntry (s.floor.state == .resting) e s.queue)) (.of_page rfl rfl)
    (joinQueue_moves e s).unwritten

theorem enterIdle_unwritten (s : State) : Unwritten s (enterIdle s) :=
  (setFloorState_unwritten .idle s).trans (serve_moves (.inl (by simp))).unwritten

theorem endTurnCore_unwritten (c : EndCause) (d : EndDetail) (s : State) : Unwritten s (endTurnCore c d s) := by
  have hm : Moves s (raiseEnd c d (closeSetup c (unkey s))) :=
    ((Moves.unkey s).trans (closeSetup_moves c _)).trans (raiseEnd_moves c d _)
  exact hm.unwritten.trans (.of_page rfl rfl)

theorem vacated_unwritten (seat : SeatNo) (m : MemberNo) (cause : SeatCause) (s : State) :
    Unwritten s (vacated seat m cause s) := .of_page (by simp [vacated]) (by simp [vacated])

/-! ### What is heard of the floor state -/

/-- R70: the floor state stands among the seat's pending notices. -/
def Announced (x : SeatNo) (s : State) : Prop :=
  (⟨.floor s.floor.state (holderSeat s), s.stamp⟩ : Notice) ∈ s.seats[x].notices

/-- R70: the floor state is the one of `b`, or every seat that stayed ATTACHED has been told of it. -/
def Told (b s : State) : Prop :=
  s.floor.state = b.floor.state ∨ ∀ x : SeatNo, (attachedMember b x).isSome = true →
    (attachedMember s x).isSome = true → Announced x s

/-- R70: a change of floor state is told to every ATTACHED seat. -/
theorem announced_setFloorState {new : FloorState} {x : SeatNo} (h : s.floor.state ≠ new)
    (hx : (attachedMember (setFloorState new s) x).isSome = true) : Announced x (setFloorState new s) := by
  rw [(setFloorState_seatsKept new s).attachedMember] at hx
  have ha : s.seats[x].attachment.isSome = true := by simpa [attachedMember] using hx
  have hk : (⟨.floor new (holderSeat s), s.stamp⟩ : Notice)
      ∈ ((s.seats[x]).receive ⟨.floor new (holderSeat s), s.stamp⟩).notices := Seat.mem_receive _ _ ha
  have hn : (setFloorState new s).stamp = s.stamp ∧ holderSeat (setFloorState new s) = holderSeat s
      ∧ (setFloorState new s).floor.state = new := by simp [holderSeat]
  obtain ⟨hst, hh, hf⟩ := hn
  rw [Announced, hst, hh, hf, setFloorState_seats, if_neg h]
  split
  · simpa using Seat.mem_receive_of_mem (n := ⟨.panel (new == .panelHeld) (new == .shut), s.stamp⟩) hk
      (by decide : (1 : Nat) ≠ 8)
  · simpa using hk

theorem Told.state (h : Told b s) (new : FloorState) : Told b (setFloorState new s) := by
  by_cases he : s.floor.state = new
  · rwa [setFloorState, if_pos he]
  · exact .inr fun _ _ => announced_setFloorState he

/-- What has been heard of a floor state stays heard while state and holder stand. -/
theorem Told.onward (h : Told b s) (hf : t.floor.state = s.floor.state) (hh : t.floor.holder = s.floor.holder)
    (hst : t.stamp = s.stamp)
    (hs : ∀ x, (attachedMember t x).isSome = true → (attachedMember s x).isSome = true ∧ Silent 1 x s t) :
    Told b t := by
  rcases h with h | h
  · exact .inl (hf.trans h)
  · refine .inr fun x hb ht => ?_
    obtain ⟨ha, hq⟩ := hs x ht
    have hn := hq _ (h x hb ha) rfl
    rwa [Announced, holderSeat, hf, hh, hst]

theorem Told.of_seats (h : Told b s) (hf : t.floor.state = s.floor.state) (hh : t.floor.holder = s.floor.holder)
    (hst : t.stamp = s.stamp) (hs : t.seats = s.seats) : Told b t :=
  h.onward hf hh hst fun x ha => ⟨by rwa [attachedMember_of_seats hs] at ha, .of_seats hs⟩

/-- R70: what the floor does tells every change of its state. A turn that ends or begins is always such a
change: it ends out of a state with a holder into one with none, and begins out of IDLE or RESTING. -/
theorem Moves.told (h : Moves s t) (hm : HolderMatches s) (ht : Told b s) : Told b t := by
  induction h with
  | refl => exact ht
  | trans h _ ih ih' => exact ih' (h.keeps_holderMatches hm) (ih hm ht)
  | tell seat body s h =>
    exact ht.onward (by simp) (by simp) (by simp) fun x ha =>
      ⟨by simpa using ha, raise_silent (.inr h.symm)⟩
  | tellAll body s h =>
    exact ht.onward (by simp) (by simp) (by simp) fun x ha =>
      ⟨by rwa [(raiseAll_seatsKept body s).attachedMember] at ha, raiseAll_silent h.symm⟩
  | figures seat s h =>
    exact ht.onward (by simp) (by simp) (by simp) fun x ha =>
      ⟨by rwa [(modSeat_seatsKept h seat s).attachedMember] at ha, modSeat_silent seat h⟩
  | floor s h => exact ht.of_seats (by simpa using h.state) (by simpa using h.holder) (by simp) (by simp)
  | state s _ => exact ht.state _
  | @turnOver s u t new before _ held state _ _ left _ _ _ =>
    refine .inr fun _ _ => announced_setFloorState fun e => ?_
    have hu : u.floor.holder.isSome = u.floor.state.hasHolder := before.keeps_holderMatches hm
    rw [hu, or_self, ← state, e, left] at held
    cases held
  | turnBegun _ _ idle _ state =>
    refine .inr fun _ _ => announced_setFloorState ?_
    rw [state]
    rcases idle with e | e <;> simp [e]
  | _ => exact ht.of_seats (by simp) (by simp) (by simp) (by simp)

/-! ### What is more than a move -/

/-- An act since `b`, up to its close: the floor's laws hold, neither time nor the board has moved on, and the
floor state is heard of. -/
structure Heard (b s : State) : Prop where
  floor     : FloorLaw s
  unwritten : Unwritten b s
  told      : Told b s

theorem Heard.refl (h : FloorLaw s) : Heard s s := ⟨h, ⟨rfl, rfl⟩, .inl rfl⟩

theorem Heard.moves (h : Heard b s) (hm : Moves s t) : Heard b t :=
  ⟨hm.keeps_floor h.floor, h.unwritten.trans hm.unwritten, hm.told h.floor.holder_state h.told⟩

theorem Heard.of_seats (h : Heard b s) (hf : t.floor = s.floor) (hq : t.queue = s.queue) (hu : Unwritten s t)
    (hs : t.seats = s.seats) : Heard b t :=
  ⟨h.floor.of_eq hf hq hs, h.unwritten.trans hu, h.told.of_seats (by rw [hf]) (by rw [hf]) hu.stamp hs⟩

/-- R11: a seat that is vacated is no longer to be told. -/
theorem Told.vacated (h : Told b s) (seat : SeatNo) (m : MemberNo) (cause : SeatCause) :
    Told b (vacated seat m cause s) := by
  refine h.onward (by simp) (by simp) (by simp [Machine.vacated]) fun x ha => ?_
  rw [attachedMember_vacated] at ha
  split at ha
  · cases ha
  · next hx => exact ⟨ha, fun n hn _ => by rwa [vacated_record, if_neg hx]⟩

theorem Heard.detachSeat (h : Heard b s) (seat : SeatNo) (cause : SeatCause) :
    Heard b (detachSeat seat cause s) := by
  cases ha : attachedMember s seat with
  | none => rwa [detachSeat_vacant cause ha]
  | some m =>
    have hl := h.floor.detachSeat seat cause
    rw [detachSeat_attached cause ha] at hl ⊢
    have hm := floorDetached_moves seat cause.endCause (vacated seat m cause s)
    exact ⟨hl, (h.unwritten.trans (vacated_unwritten ..)).trans hm.unwritten,
      hm.told (by simpa [HolderMatches] using h.floor.holder_state) (h.told.vacated ..)⟩

theorem Told.joinQueue (h : Told b s) (hm : HolderMatches s) (e : Entry) : Told b (joinQueue e s) :=
  (joinQueue_moves e s).told hm (h.of_seats rfl rfl rfl rfl)

theorem Told.enterIdle (h : Told b (setFloorState .idle s)) (hh : s.floor.holder = none) :
    Told b (enterIdle s) :=
  (serve_moves (.inl (by simp))).told (by simp [HolderMatches, hh, FloorState.hasHolder]) h

theorem Heard.requested (h : Heard b s) (ht : Requested s t) : Heard b t := by
  have hl := h.floor.requested ht
  cases ht with
  | moves hm => exact h.moves hm
  | joined e hj =>
    have hm : HolderMatches (Machine.joinQueue e s) := by
      simpa [HolderMatches] using h.floor.holder_state
    exact ⟨hl, h.unwritten.trans ((joinQueue_unwritten e s).trans (queueChanged_moves _).unwritten),
      (queueChanged_moves _).told hm (h.told.joinQueue h.floor.holder_state e)⟩
  | rejoined e hang hj =>
    exact ⟨hl, h.unwritten.trans
        (((endTurnCore_unwritten ..).trans (joinQueue_unwritten ..)).trans (enterIdle_unwritten _)),
      .enterIdle (.inr fun _ _ => announced_setFloorState (by simp [hang, Floor.cleared]))
        (by simp [Floor.cleared])⟩

theorem Heard.endService (h : Heard b s) (hf : stationFree s = true) (seat : SeatNo) :
    Heard b (endService seat s) := by
  have hl := h.floor.endService hf seat
  obtain ⟨hd, -, hn⟩ : Heard b (detachOthers seat s) ∧ stationFree (detachOthers seat s) = true
      ∧ (detachOthers seat s).floor.holder = none :=
    detachOthers_induct (P := fun s => Heard b s ∧ stationFree s = true ∧ s.floor.holder = none)
      (fun x s ⟨hl, hf, hh⟩ =>
        have hk := detachSeat_floor_of_free (seat := x) (cause := .serviceEnd) hf hh
        ⟨hl.detachSeat x _, hk.1, by rw [hk.2]; exact hh⟩) ⟨h, hf, h.floor.holder_of_free hf⟩
  have he := hd.moves (endEntries_moves .serviceEnd (detachOthers seat s).queue _)
  refine ⟨hl, ?_, ?_⟩ <;> unfold Machine.endService <;> simp only <;> split
  · exact he.unwritten.trans (.of_page rfl rfl)
  · exact (he.unwritten.trans (enterIdle_unwritten _)).trans (.of_page rfl rfl)
  · exact he.told.of_seats rfl rfl rfl rfl
  · exact ((he.told.state .idle).enterIdle (by simpa using hn)).of_seats rfl rfl rfl rfl

theorem steady_heard (b : State) : Steady (Heard b) where
  moves _ _ _ hm h := h.moves hm
  detach seat cause _ _ h := h.detachSeat seat cause
  request _ _ _ ht h := h.requested ht
  begins _ _ h := h.of_seats rfl rfl (.of_page rfl rfl) rfl
  ends seat _ _ hf h := h.endService hf seat
  inhibit s h := (h.of_seats (t := setInhibit true s) rfl rfl (.of_page rfl rfl) rfl).moves (.unkey _)
  cleared _ h := h.of_seats rfl rfl (.of_page rfl rfl) rfl
  fault _ h := h.of_seats rfl rfl (.of_page rfl rfl) rfl
  inert _ _ hf ha hn h :=
    ⟨h.floor.of_same hf.floor hf.queue ha, h.unwritten.trans ⟨hf.stamp, hf.count⟩,
      h.told.onward (by rw [hf.floor]) (by rw [hf.floor]) hf.stamp fun x hx =>
        ⟨by rwa [ha] at hx, fun n hk _ => by rwa [hn]⟩⟩

/-- R9: an ATTACH finds the floor as its act did, so that the seat that comes has nothing to be told. -/
theorem Heard.attachSeat {seat : SeatNo} (h : Heard b s) (ht : AtTake b s)
    (hv : attachedMember s seat = none) (m : MemberNo) : Heard b (attachSeat seat m s) :=
  ⟨h.floor.attachSeat hv m, h.unwritten.trans (.of_page (by simp) (by simp)), .inl (by simp [ht.1])⟩

/-- Up to its close an act tells what it changes of the floor state. -/
theorem Deed.heard {c : Instr} (hd : Deed c s t) (hr : s.pins.resetLow = false) (h : FloorLaw s) : Heard s t :=
  (steady_heard s).deed hr hd (.refl h) fun _ m _ ha hv hu => hu.attachSeat ha hv m

end

end Sys2Proof.Machine

/-! O50: what a command leaves alone, and the board's rewrite (R70, R169, R170). -/

namespace Sys2Proof.Machine

section

variable {s t d : State} {c : Instr}

/-! ### The board at the close of an act -/

/-- R169: the floor board shows what it showed, and has not been rewritten. -/
def BoardKept (s t : State) : Prop :=
  floorBoard t = floorBoard s ∧ t.page.updateCount = s.page.updateCount

/-- R169, R170: the floor board has been rewritten once, with its running figures. -/
def BoardRewritten (s t : State) : Prop :=
  t.page.updateCount = s.page.updateCount + 1 ∧ t.page.stamp = s.stamp
    ∧ t.page.keyDownRemaining = keyDownRemaining t ∧ t.page.idSeconds = idSeconds t
    ∧ t.port.summary.getLsbD 13 = true

theorem setSummary_getLsbD_same {bit : Nat} (h : bit < 16) (s : State) :
    (setSummary bit s).port.summary.getLsbD bit = true := by
  show (s.port.summary ||| BitVec.ofNat 16 (2 ^ bit)).getLsbD bit = true
  rw [BitVec.getLsbD_or, BitVec.getLsbD_ofNat, Nat.testBit_two_pow_self]
  simp [h]

theorem settleBoard_board (before s : State) :
    floorBoard (settleBoard before s) = floorBoard before
        ∧ (settleBoard before s).page.updateCount = s.page.updateCount
      ∨ BoardRewritten s (settleBoard before s) := by
  unfold settleBoard
  split
  · next h => exact .inl ⟨h.2.symm, rfl⟩
  · exact .inr ⟨rfl, rfl, rfl, rfl, setSummary_getLsbD_same (by decide) _⟩

theorem floorBoard_composeReports (s : State) : floorBoard (composeReports s) = floorBoard s := by
  simp [floorBoard]

/-- R169, R170: at the close of an act the board shows what it showed at its opening, or is rewritten. -/
theorem closeAct_board {before : State} (h : Unwritten before s) :
    BoardKept before (closeAct before s) ∨ BoardRewritten before (closeAct before s) := by
  unfold closeAct
  have hs : (settleLines (settlePoll (settleClosing before s))).stamp = s.stamp := by simp
  have hp : (settleLines (settlePoll (settleClosing before s))).page = s.page := by simp
  generalize settleLines (settlePoll (settleClosing before s)) = v at hs hp
  have hc : v.page.updateCount = before.page.updateCount := by rw [hp, h.count]
  rcases settleBoard_board before v with ⟨hb, hn⟩ | ⟨hn, hst, hk, hi, hsum⟩
  · exact .inl ⟨(floorBoard_composeReports _).trans hb, by simpa using hn.trans hc⟩
  · exact .inr ⟨by simpa [hc] using hn, by simpa using hst.trans (hs.trans h.stamp),
      by simpa [keyDownRemaining] using hk, by simpa [idSeconds] using hi,
      composeReports_summaryKept _ 13 hsum⟩

/-- R141: the reset line shows nothing new on the board. -/
theorem holdReset_board (s : State) : BoardKept s (holdReset s) := by
  refine ⟨?_, by simp [holdReset]⟩
  simp [floorBoard, holdReset, unkey_closing, unkey_pending, unkey_believed]

theorem Does.board (hd : Does c s t) (hr : Running s) (hl : FloorLaw s) (hc : restartCommand c = false) :
    BoardKept s t ∨ BoardRewritten s t := by
  cases hd with
  | act hr h => exact closeAct_board ((h.heard hr hl).moves (finishSetup_moves ..)).unwritten
  | holdReset => exact .inl (holdReset_board s)
  | inhibitLine _ _ h => rw [hr] at h; cases h
  | same | registers | ampFaultLine => exact .inl ⟨rfl, rfl⟩
  | seq h | powerOn _ h | released _ h | restart _ h => rw [hc] at h; cases h

/-! ### The notices of a change -/

theorem not_busWrites_report (x : SeatNo) : ¬ busWrites (CellRef.report x).handoverAddress := by
  rintro ⟨m, hm⟩
  simp only [CellRef.handoverAddress, CellRef.base, CellRef.size, seatArea] at hm
  omega

/-- A report cell keeps its hand-over byte up to the close of an act, but in the act that returns it. -/
theorem Deed.reportHeld (hd : Deed c s t) (hc : restartCommand c = false) (x : SeatNo) :
    partHeld t (.report x) = partHeld s (.report x) ∨ t = writeToHandover (.report x) 1 s := by
  have held {W : Nat → Prop} (h : RamKept W s t) (hw : ¬ W (CellRef.report x).handoverAddress) :
      partHeld t (.report x) = partHeld s (.report x) := by simp only [partHeld, h.reads _ hw]
  cases hd with
  | moves hm => exact .inl (held hm.ramKept (not_busWrites_report x))
  | order _ hb => exact .inl (by simp only [partHeld, takeOrder_ram hb])
  | ramWrite _ _ _ h => rw [hc] at h; cases h
  | handOver cell =>
    by_cases hx : cell = .report x
    · exact .inr (by rw [hx])
    · refine .inl (held (writeToHandover_ramKept cell 1 s) ?_)
      rintro (hb | he)
      · exact not_busWrites_report x hb
      · exact hx (CellRef.handoverAddress_injective he).symm
  | presenceExpired | keyedMs | dutyExpired | inhibitTaken | inhibitCleared | ampFaultTaken =>
    exact .inl (by simp [partHeld])

theorem writeToHandover_report_floor (x : SeatNo) (v : Byte) (s : State) :
    (writeToHandover (.report x) v s).floor = s.floor := by
  unfold writeToHandover
  split
  · rfl
  · simp

/-- R70: an act that changed the floor state tells it to every seat that stays ATTACHED. -/
theorem Deed.noticed (hd : Deed c s d) (hr : s.pins.resetLow = false) (hl : FloorLaw s)
    (hc : restartCommand c = false) (hf : (finishSetup s d).floor.state ≠ s.floor.state) {x : SeatNo}
    (hs : (attachedMember s x).isSome = true) (ht : (attachedMember (finishSetup s d) x).isSome = true) :
    Noticed s (closeAct s (finishSetup s d)) x
      (.floor (finishSetup s d).floor.state (holderSeat (finishSetup s d))) := by
  have hm := finishSetup_moves s d
  have hh : Heard s (finishSetup s d) := (hd.heard hr hl).moves hm
  have hn := hh.told.resolve_left hf x hs ht
  rw [Announced, hh.unwritten.stamp] at hn
  refine closeAct_noticed hn ?_
  have hw : partHeld (finishSetup s d) (.report x) = partHeld d (.report x) := by
    simp only [partHeld, hm.ramKept.reads _ (not_busWrites_report x)]
  rcases hd.reportHeld hc x with h | h
  · exact hw.trans h
  · have hfl : d.floor = s.floor := by rw [h, writeToHandover_report_floor]
    exact absurd (by rw [finishSetup_kept (by rw [hfl]) (by rw [hfl]), hfl]) hf

theorem Does.noticed (hd : Does c s t) (hr : Running s) (hl : FloorLaw s) (hc : restartCommand c = false)
    (hf : t.floor.state ≠ s.floor.state) {x : SeatNo} (hs : (attachedMember s x).isSome = true)
    (ht : (attachedMember t x).isSome = true) : Noticed s t x (.floor t.floor.state (holderSeat t)) := by
  cases hd with
  | @act s d hr h =>
    have hfl : (closeAct s (finishSetup s d)).floor = (finishSetup s d).floor := by simp
    rw [closeAct_attachedMember] at ht
    have hh : holderSeat (closeAct s (finishSetup s d)) = holderSeat (finishSetup s d) := by
      rw [holderSeat, hfl, holderSeat]
    rw [hfl] at hf
    rw [hfl, hh]
    exact h.noticed hr hl hc hf hs ht
  | holdReset => exact absurd (by simp [Machine.holdReset]) hf
  | inhibitLine _ _ h => rw [hr] at h; cases h
  | same | registers | ampFaultLine => exact absurd rfl hf
  | seq h | powerOn _ h | released _ h | restart _ h => rw [hc] at h; cases h

/-- Settles O50: what each command writes, taken together with what its act may write, and, for the board and the
notices, what an act has told of the floor state up to its close. -/
theorem commandsTouchOnlyTheirParts : Obligations.CommandsTouchOnlyTheirParts := by
  unfold Obligations.CommandsTouchOnlyTheirParts
  refine ⟨fun c s t p he hp => ?_, fun c s t hr hl _ hc he => ?_⟩
  · obtain ⟨u, hu, hw⟩ := exec_within c s
    obtain rfl : u = t := by simpa [hu] using he
    exact hw p hp
  · obtain ⟨u, hu, hd⟩ := exec_does c s
    obtain rfl : u = t := by simpa [hu] using he
    refine ⟨hd.board hr hl hc, fun hf x hs ht => ?_⟩
    exact hd.noticed hr hl hc hf (by simpa [attachedMember] using hs) (by simpa [attachedMember] using ht)

end

end Sys2Proof.Machine
